-- ==== Sys2Proof/Word.lean ====
section
/-! DEFINITION. The byte type, the arithmetic words of `00_scope.md` (*clamp*, *ceil*, *trunc*) and
reading and writing one entry of a fixed-size table. -/

namespace Sys2Proof

/-- A byte of a payload, of the page RAM or of the pattern memory. -/
abbrev Byte := BitVec 8

/-- *clamp(x, a, b)* of the Conventions (Rounding), on naturals. -/
def clampNat (x lo hi : Nat) : Nat := max lo (min x hi)

/-- *clamp(x, a, b)* of the Conventions (Rounding), on integers. -/
def clampInt (x lo hi : Int) : Int := max lo (min x hi)

/-- *ceil(a / b)* for b above 0 (Conventions, Rounding). -/
def ceilDiv (a b : Nat) : Nat := (a + b - 1) / b

/-- *trunc(a / b)*: the quotient rounded toward zero (Conventions, Rounding). -/
def truncDiv (a b : Int) : Int := Int.tdiv a b

/-- The rise of a saturating counter (Conventions, Saturating). -/
def satInc (x top : Nat) : Nat := min (x + 1) top

/-- Entry `i` of a table; `d` where the table has no entry `i`. -/
def getAt {α : Type} {n : Nat} (v : Vector α n) (i : Nat) (d : α) : α := v[i]?.getD d

/-- The table with entry `i` replaced; the table itself where it has no entry `i`. -/
def setAt {α : Type} {n : Nat} (v : Vector α n) (i : Nat) (x : α) : Vector α n :=
  v.setIfInBounds i x

end Sys2Proof
end

