-- ==== Sys2Proof/Syntax.lean ====
section
/-! DEFINITION. The commands: one constructor of `Instr` per row of `spec/opcode_table.json`, with
the row's operands. A field is a natural (or, where R203 sends it in two's complement, an integer)
so that values outside its range can be written; `WellFormed.lean` says which values a payload can
carry, and the rules say what the part does with those out of range. -/

namespace Sys2Proof

/-- What every request but SAVE_DATA carries beside its fields (R185, R190): the source station, the
post's priority and the ask tag. -/
structure Ask where
  source : Nat
  priority : Nat
  tag : Nat
  deriving DecidableEq, Repr

/-- The optional voice settings of PLAY_SOUND and VOICE_SET, in the order R88 lists them. The
waveform is its choice number (R203): PULSE 0, TRIANGLE 1, NOISE 2. -/
structure VoiceFields where
  waveform : Option Nat := none
  duty : Option Nat := none
  attack : Option Nat := none
  decay : Option Nat := none
  sustain : Option Nat := none
  release : Option Nat := none
  transpose : Option Int := none
  level : Option Nat := none
  deriving DecidableEq, Repr

/-- SAVE_OPEN's mode with the fields that the mode brings (R6). `other` is a mode that is neither
REPLACE (0) nor PATCH (1). -/
inductive OpenForm where
  | replace (size : Nat)
  | patch (offset length : Nat)
  | other (mode : Nat)
  deriving DecidableEq, Repr

/-- The three samples a receiver takes of one line bit (R178); `true` is the recessive level. -/
structure BitSamples where
  a : Bool
  b : Bool
  c : Bool
  deriving DecidableEq, Repr

/-- The commands. -/
inductive Instr where
  /-- IDENT (R202). -/
  | ident (a : Ask)
  /-- PLAY_SOUND (R88): voice 0..3 or 4 for ANY. -/
  | playSound (a : Ask) (voice pattern priority : Nat) (endNotice : Bool) (f : VoiceFields)
  /-- STOP_SOUND (R110): voice 0..3 or 4 for ALL; mode RELEASE 0, CUT 1. -/
  | stopSound (a : Ask) (voice mode : Nat)
  /-- VOICE_SET (R95). -/
  | voiceSet (a : Ask) (voice : Nat) (f : VoiceFields)
  /-- MASTER_LEVEL (R107). -/
  | masterLevel (a : Ask) (level : Nat)
  /-- PLAY_RUMBLE (R118). -/
  | playRumble (a : Ask) (pattern priority : Nat) (endNotice : Bool)
  /-- STEADY_RUMBLE (R125): duration 0 means until stopped. -/
  | steadyRumble (a : Ask) (duty duration priority : Nat) (endNotice : Bool)
  /-- STOP_RUMBLE (R126): mode BRAKE 0, COAST 1. -/
  | stopRumble (a : Ask) (mode : Nat)
  /-- MOTOR_CHECK (R133). -/
  | motorCheck (a : Ask)
  /-- SAVE_OPEN (R6). -/
  | saveOpen (a : Ask) (slot : Nat) (form : OpenForm)
  /-- SAVE_DATA (R8): it has no ask tag. -/
  | saveData (source priority toggle : Nat) (data : List Byte)
  /-- SAVE_CLOSE (R13): mode COMMIT 0, ABANDON 1. -/
  | saveClose (a : Ask) (count mode : Nat)
  /-- SAVE_READ (R19). -/
  | saveRead (a : Ask) (slot offset length : Nat)
  /-- SAVE_ERASE (R23). -/
  | saveErase (a : Ask) (slot : Nat)
  /-- SAVE_INFO (R24). -/
  | saveInfo (a : Ask) (slot : Nat)
  /-- CLOCK_SET (R41). -/
  | clockSet (a : Ask) (time : Nat) (zone : Option Int) (hour : Option Nat)
  /-- CLOCK_READ (R43). -/
  | clockRead (a : Ask)
  /-- CLOCK_ACCEPT (R42). -/
  | clockAccept (a : Ask)
  /-- CLOCK_TRIM (R35). -/
  | clockTrim (a : Ask) (trim : Int)
  /-- APPOINT_SET (R47): repeat NONE 0, DAILY 1, WEEKLY 2. -/
  | appointSet (a : Ask) (tag due period : Nat) (link : Option Nat)
  /-- APPOINT_CLEAR (R48): tag 255 for ALL. -/
  | appointClear (a : Ask) (tag : Nat)
  /-- APPOINT_LIST (R49). -/
  | appointList (a : Ask) (start : Nat)
  /-- NOTICE_ENABLE (R196). -/
  | noticeEnable (a : Ask) (mask : Nat)
  /-- NOTICE_READ (R197). -/
  | noticeRead (a : Ask)
  /-- STATS_READ (R199): group A 0, B 1. -/
  | statsRead (a : Ask) (group : Nat)
  /-- BEAT (R57): a taken BEAT post handed to the Beat Tracker. -/
  | beat (source : Nat) (payload : List Byte)
  /-- ALLOWANCE (R140): a taken ALLOWANCE post handed to the Budget Unit. -/
  | allowance (source : Nat) (payload : List Byte)
  /-- CLAIM (R142): a taken CLAIM post of a peer handed to the Budget Unit. -/
  | claim (source : Nat) (payload : List Byte)
  /-- POWER_MODE with mode byte 1 (R168, R169). -/
  | powerModeDoze (source target : Nat)
  /-- POWER_MODE with mode byte 2 (R168, R169). -/
  | powerModeAwake (source target : Nat)
  /-- POWER_MODE with mode byte 3 (R168, R169). -/
  | powerModeOffSoon (source target : Nat)
  /-- RECEIVE_POST (R180): a post on the line as sampled, from its start bit on: another station's,
  or the part's own while its transmitter sends; the flag says that its start bit came before the entry to ACTIVE. -/
  | receivePost (beganBeforeActive : Bool) (samples : List BitSamples)
  /-- TRANSMIT_START (R188). -/
  | transmitStart
  /-- POST_SEND_END (R179, R188): what the transmitter read back of its post, sampled from the line from
  the start bit on, up to the bit where the post ended for it. -/
  | postSendEnd (read : List BitSamples)
  /-- SILENT_END (R189). -/
  | silentEnd
  /-- READ_DATA_HANDOVER (R20). -/
  | readDataHandover
  /-- READ_PAGE_VERIFY_COMPLETE (R21). -/
  | readPageVerifyComplete
  /-- PAGE_COPY_COMPLETE (R12). -/
  | pageCopyComplete
  /-- STREAM_IDLE_TIMEOUT (R17). -/
  | streamIdleTimeout
  /-- START_SCRUB_COMPLETE (R27). -/
  | startScrubComplete
  /-- SECOND_STEP (R32). -/
  | secondStep
  /-- TICK_TIMER_EXPIRY (R63). -/
  | tickTimerExpiry
  /-- LOSS_TIMEOUT (R64). -/
  | lossTimeout
  /-- AUDIO_SAMPLE (R105). -/
  | audioSample
  /-- MOTOR_SENSE_SAMPLE (R131): the current at the sense input in mA. -/
  | motorSenseSample (current : Nat)
  /-- MOTOR_CHECK_DRIVE_END (R134). -/
  | motorCheckDriveEnd
  /-- SETTINGS_READ_COMPLETE (R201): the bytes read from address 0. -/
  | settingsReadComplete (bytes : List Byte)
  /-- DIRECTORY_FETCH_COMPLETE (R76): the bytes read from the entry's address. -/
  | directoryFetchComplete (bytes : List Byte)
  /-- STEP_FETCH_COMPLETE (R81): the bytes read from the first step's address. -/
  | stepFetchComplete (bytes : List Byte)
  /-- ALLOWANCE_STALE (R141). -/
  | allowanceStale
  /-- PEER_CLAIM_EXPIRY (R143) of one station's entry. -/
  | peerClaimExpiry (station : Nat)
  /-- SETTLE_END (R152). -/
  | settleEnd
  /-- LISTEN_END (R157). -/
  | listenEnd
  /-- CLAIM_REFRESH (R155). -/
  | claimRefresh
  /-- CLAIM_AGE_EXPIRY (R156). -/
  | claimAgeExpiry
  /-- RAIL_GOOD (R165): the strap pins and the coin-cell voltage sampled at that moment. -/
  | railGood (sa1 sa0 : Bool) (cellMv : Nat)
  /-- RAIL_FAIL (R172): the coin-cell voltage sampled at that moment. -/
  | railFail (cellMv : Nat)
  /-- KEEP_DOMAIN_RESET (R161). -/
  | keepDomainReset
  /-- KEEP_SUPPLY_RESTORED (R161). -/
  | keepSupplyRestored
  /-- COIN_CELL_SAMPLE (R162): the sampled voltage in mV. -/
  | coinCellSample (cellMv : Nat)
  /-- GUARD_PIN_CHANGE (R200). -/
  | guardPinChange
  /-- GUARD_DEBOUNCE_END (R200). -/
  | guardDebounceEnd
  deriving DecidableEq, Repr

end Sys2Proof
end

