-- ==== Sys2Proof/Decode.lean ====
section
/-! DEFINITION. The decoder the host asks for. No row of `spec/opcode_table.json` gives bits ("fields"
is empty and no row has "fixed"), so no word spells a command. The part's own byte formats (posts,
payloads, settings, directory entries, steps) are read in `Machine/Formats.lean`. -/

namespace Sys2Proof

/-- The command that a word spells by the table's bits: none, since no row gives bits. -/
def decodeTableWord (_nbits _w : Nat) : Option Instr := none

end Sys2Proof
end

