-- ==== Sys2Proof/Config.lean ====
section
/-! DEFINITION. The numbers the manual fixes for every part: limits, periods and thresholds, each with
its rule. The manual leaves no result of a command open, so no free value stands here. -/

namespace Sys2Proof.Config

/-- The largest calendar time T (R31). -/
def maxTime : Nat := 3155759999
/-- Seconds of a day, DAILY's period (R37, R46). -/
def daySeconds : Nat := 86400
/-- WEEKLY's period in seconds (R46). -/
def weekSeconds : Nat := 604800
/-- Crystal counts of an untrimmed second (R32). -/
def secondCounts : Nat := 32768
/-- The largest number of appointments (R46). -/
def maxAppointments : Nat := 8
/-- The least beat period (R56). -/
def minPeriod : Nat := 10486
/-- The largest beat period (R56). -/
def maxPeriod : Nat := 34953
/-- Age at which an allowance goes stale and a peer entry expires: 600 ms (R141, R143). -/
def staleCounts : Nat := 629146
/-- The listen period: 600 ms (R157). -/
def listenCounts : Nat := 629146
/-- The settle window: 20 ms (R151). -/
def settleCounts : Nat := 20972
/-- The refresh period of the own claim: 200 ms (R155). -/
def refreshCounts : Nat := 209716
/-- The age at which the claim-age guard holds: 500 ms (R156). -/
def claimAgeCounts : Nat := 524288
/-- The length of a silence: 250 ms (R189). -/
def silentCounts : Nat := 262144
/-- The GUARD debounce: 16 ms (R200). -/
def debounceCounts : Nat := 16777
/-- The motor check's drive: 20 ms (R134). -/
def checkDriveCounts : Nat := 20972
/-- The start of the motor check's measuring window: 10 ms (R134). -/
def checkWindowCounts : Nat := 10486
/-- Coin-cell sample period in STARTING, ACTIVE and DOZE: 10 s of crystal counts (R162). -/
def cellPeriodPowered : Nat := 327680
/-- Coin-cell sample period in KEEP: 64 s of crystal counts (R162). -/
def cellPeriodKeep : Nat := 2097152
/-- A sample below this makes the coin-cell level LOW, in mV (R162). -/
def cellLowMv : Nat := 2600
/-- A sample at or above this makes the coin-cell level OK, in mV (R162). -/
def cellOkMv : Nat := 2700
/-- The places of the transmit queue (R186). -/
def queuePlaces : Nat := 8
/-- The places of the inbox (R185). -/
def inboxPlaces : Nat := 4
/-- Free queue places a READ_DATA needs (R187). -/
def readDataPlaces : Nat := 3
/-- The failed posts in a row that make the transmitter SILENT (R189). -/
def silentRun : Nat := 8
/-- The number of save pages (R1). -/
def pageCount : Nat := 128
/-- The bytes of a save page (R1). -/
def pageBytes : Nat := 256
/-- The largest slot size (R4). -/
def maxSlotBytes : Nat := 8192
/-- The family code (R202). -/
def familyCode : Nat := 612
/-- The silicon revision (R202). -/
def siliconRevision : Nat := 2
/-- The target that means all stations (R179). -/
def allStations : Nat := 15

/-- What a page RAM byte that nothing has written reads as. DESIGN CHOICE (unsafe, log 5): R1 leaves
the bytes undefined after a cold start and says that they are not read before they are written. -/
def unwrittenByte : Byte := 0xFF

/-- The pattern memory's read command (R72). -/
def readCommand : Byte := 0x03

/-- A byte the pattern memory does not drive reads 0xFF: the pull-up of the SPI data input (R84). -/
def undrivenByte : Byte := 0xFF

end Sys2Proof.Config
end

