-- ==== Sys2Proof/Machine/Types.lean ====
section
/-! DEFINITION. The records of the ten blocks, as their chapters list them, and the posts the part
forms. Structures and inductives only: what they do stands in the other files. -/

namespace Sys2Proof.Machine

/-! ### Posts (chapters 9, 10 and 11) -/

/-- The post kinds with a code (R204). -/
inductive Kind where
  | powerMode | allowance | beat | claim | hello | notice | reply | readData
  | ident | playSound | stopSound | voiceSet | masterLevel
  | playRumble | steadyRumble | stopRumble | motorCheck
  | saveOpen | saveData | saveClose | saveRead | saveErase | saveInfo
  | clockSet | clockRead | clockAccept | clockTrim
  | appointSet | appointClear | appointList
  | noticeEnable | noticeRead | statsRead
  deriving DecidableEq, Repr

/-- The result codes of replies, in the order of R191. -/
inductive Code where
  | done | busy | notClient | badArg | noSuch | badPattern | noSpace | guarded | damaged | empty
  | noStream | notOwner | countMismatch | broken | listFull | unset | motorFault | dozing
  | cancelled | noHeadroom
  deriving DecidableEq, Repr

/-- The blocks that own request kinds (R185). -/
inductive Owner where
  | saveStore | calendar | soundEngine | rumbleDriver | noticeUnit | powerSupervisor
  deriving DecidableEq, Repr

/-- The power states (R163). -/
inductive PowerState where
  | starting | active | doze | keep
  deriving DecidableEq, Repr

/-- The start kinds (R163). -/
inductive StartKind where
  | cold | warm
  deriving DecidableEq, Repr

/-- The coin-cell levels (R162). -/
inductive CellLevel where
  | ok | low
  deriving DecidableEq, Repr

/-- The rail monitor's levels (R160). -/
inductive RailLevel where
  | good | fail
  deriving DecidableEq, Repr

/-- The slot states (R4). -/
inductive SlotState where
  | empty | live | damaged
  deriving DecidableEq, Repr

/-- The reasons for which a sound or rumble play ends (R111, R127). -/
inductive EndReason where
  | finished | stopped | replaced | fault | power
  deriving DecidableEq, Repr

/-- The play kinds of the rumble player (R116). -/
inductive PlayKind where
  | pattern | steady
  deriving DecidableEq, Repr

/-- The causes of a rumble fault (R116). -/
inductive FaultCause where
  | overcurrent | openMotor | shortMotor
  deriving DecidableEq, Repr

/-- The guard states (R116). -/
inductive GuardState where
  | clear | tripped
  deriving DecidableEq, Repr

/-- The rumble player's states (R116, R117). -/
inductive PlayerState where
  | idle | starting | playing | starved | steady | braking | checking | faulted
  deriving DecidableEq, Repr

/-- The causes of STREAM_LOST (R193). -/
inductive LostCause where
  | overlong | copyCheck | timeout | power
  deriving DecidableEq, Repr

/-- The causes of SLOT_DAMAGED (R193). -/
inductive DamageCause where
  | readCheck | copyCheck | scrubCheck | scrubList | scrubEmptied
  deriving DecidableEq, Repr

/-- The outcomes of a motor check (R134). -/
inductive CheckOutcome where
  | normal | openMotor | shortMotor | failed
  deriving DecidableEq, Repr

/-- The reasons of a FAILED motor check (R134). -/
inductive FailReason where
  | noHeadroom | guardTrip | power
  deriving DecidableEq, Repr

/-- The repeats of an appointment (R46). -/
inductive Repeat where
  | none | daily | weekly
  deriving DecidableEq, Repr

/-- The twelve notice kinds, in the order of R193. -/
inductive NoticeKind where
  | resume | dayTurn | appointment | cueEnd | rumbleEnd | motorGuard | motorFault | streamLost
  | overAllowance | batteryLow | lineTrouble | slotDamaged
  deriving DecidableEq, Repr

/-- A local date (R37). -/
structure Date where
  year : Int
  month : Nat
  day : Nat
  deriving DecidableEq, Repr

/-- The power-fail record (R173). -/
structure PowerFailRecord where
  phase : PowerState
  time : Option Nat
  writeSlot : Option Nat
  readActive : Bool
  motorDriving : Bool
  soundPlaying : Bool
  failCount : Nat
  deriving DecidableEq, Repr

/-- What RESUME carries (R177). -/
structure ResumeReport where
  kind : StartKind
  settingsValid : Bool
  record : Option PowerFailRecord
  batteryLowSeen : Bool
  cell : CellLevel
  dayTurns : Nat
  freed : Nat
  damaged : List Nat
  deriving DecidableEq, Repr

/-- A raised notice with the fields of its kind (R193). -/
inductive Notice where
  | resume (r : ResumeReport)
  | dayTurn (gameDay : Int) (date : Date) (weekday : Nat)
  | appointment (tag missed : Nat)
  | cueEnd (voice playNo pattern : Nat) (reason : EndReason)
  | rumbleEnd (playNo : Nat) (kind : PlayKind) (pattern : Option Nat) (reason : EndReason)
  | motorGuard (state : GuardState) (heat : Nat)
  | motorFault (current : Nat)
  | streamLost (slot : Nat) (cause : LostCause) (received : Nat)
  | overAllowance (entered : Bool) (allowance peerSum : Nat) (headroom : Int)
  | batteryLow (cellMv : Nat)
  | lineTrouble (removed : Nat)
  | slotDamaged (slot : Nat) (cause : DamageCause)
  deriving DecidableEq, Repr

/-- One statistics counter with its overflow flag (R198). -/
structure Counter where
  count : Nat
  overflow : Bool
  deriving DecidableEq, Repr

/-- An appointment (R46). -/
structure Appointment where
  tag : Nat
  due : Nat
  period : Repeat
  link : Option Nat
  deriving DecidableEq, Repr

/-- The waveforms (R86). -/
inductive Waveform where
  | pulse | triangle | noise
  deriving DecidableEq, Repr

/-- The voice settings in use that PLAY_SOUND's DONE carries (R92). -/
structure VoiceInUse where
  waveform : Waveform
  duty : Nat
  attack : Nat
  decay : Nat
  sustain : Nat
  release : Nat
  transpose : Int
  level : Nat
  deriving DecidableEq, Repr

/-- A voice's pending change record (R95): clamped values. -/
structure PendingChange where
  waveform : Option Waveform := none
  duty : Option Nat := none
  attack : Option Nat := none
  decay : Option Nat := none
  sustain : Option Nat := none
  release : Option Nat := none
  transpose : Option Int := none
  level : Option Nat := none
  deriving DecidableEq, Repr

/-- What CLOCK_READ reports (R43). -/
structure ClockReport where
  running : Bool
  time : Nat
  date : Option Date
  clock : Option (Nat × Nat × Nat)
  weekday : Option Nat
  gameDay : Option Int
  zone : Int
  hour : Nat
  rewound : Bool
  rewind : Nat
  mark : Nat
  ended : Bool
  trimUse : Int
  deriving DecidableEq, Repr

/-- What SAVE_INFO reports (R24). -/
structure SlotReport where
  state : SlotState
  size : Nat
  stamp : Option Nat
  day : Option Int
  commits : Nat
  elapsed : Option Nat
  ahead : Bool
  free : Nat
  guarded : Bool
  writing : Bool
  deriving DecidableEq, Repr

/-- The result payload of a reply, by the rule that gives it. -/
inductive ReplyData where
  | none
  | identity (own : Nat) (kind : StartKind) (live : Nat) (valid : Bool)
  | soundPlay (voice playNo priority : Nat) (use : VoiceInUse)
  | soundStop (ended : Nat)
  | pendingChange (p : PendingChange)
  | master (level target inUse ceiling : Nat)
  | rumblePlay (playNo priority peak : Nat)
  | steadyPlay (playNo duty duration priority : Nat)
  | rumbleStop (changed : Bool) (state : PlayerState)
  | lastFault (cause : FaultCause) (current : Nat)
  | check (outcome : CheckOutcome) (reason : Option FailReason) (current : Option Nat)
      (state : PlayerState)
  | opened (needed : Nat) (stampReady : Bool)
  | committed (stamp : Option Nat) (day : Option Int) (commits : Nat)
  | reading (length : Nat)
  | slotInfo (r : SlotReport)
  | clockSet (time mark : Nat) (rewound : Bool) (rewind : Nat) (gameDay : Int)
  | clockAccepted (time mark : Nat)
  | clock (r : ClockReport)
  | trim (requested use : Int)
  | entries (count : Nat)
  | appointments (count : Nat) (list : List Appointment)
  | maskAndFlags (mask flags : BitVec 12)
  | flagsAndMask (flags mask : BitVec 12)
  | counters (list : List Counter)
  deriving DecidableEq, Repr

/-- The content of a post that the part forms. -/
inductive Body where
  /-- HELLO (R202). -/
  | hello (own : Nat) (kind : StartKind) (live : Nat)
  /-- CLAIM on rail 0, in mA (R144). -/
  | claim (current : Nat)
  /-- READ_DATA (R20). -/
  | readData (toggle : Nat) (last damaged : Bool) (data : List Byte)
  /-- REPLY (R190). -/
  | reply (kind : Kind) (tag : Nat) (code : Code) (data : ReplyData)
  /-- NOTICE (R193). -/
  | notice (n : Notice)
  deriving DecidableEq, Repr

/-- A post that the part forms: priority, source (its own station), target and content (R179). -/
structure TxPost where
  priority : Nat
  source : Nat
  target : Nat
  body : Body
  deriving DecidableEq, Repr

/-- The four ways an own post ends (R188). -/
inductive Ending where
  | lostArbitration
  | damaged
  | unheard
  | sent
  deriving DecidableEq, Repr

/-- A post received intact (R180): the header's fields and the payload. -/
structure RxPost where
  priority : Nat
  kindCode : Nat
  source : Nat
  target : Nat
  payload : List Byte
  deriving DecidableEq, Repr

/-- The payload of a request that waits in the inbox, read by its kind's layout (R185, R203).
`misfit` is a request whose payload does not fit the layout of its kind (R191). -/
inductive Request where
  | ident
  | playSound (voice pattern priority : Nat) (endNotice : Bool) (f : VoiceFields)
  | stopSound (voice mode : Nat)
  | voiceSet (voice : Nat) (f : VoiceFields)
  | masterLevel (level : Nat)
  | playRumble (pattern priority : Nat) (endNotice : Bool)
  | steadyRumble (duty duration priority : Nat) (endNotice : Bool)
  | stopRumble (mode : Nat)
  | motorCheck
  | saveOpen (slot : Nat) (form : OpenForm)
  | saveData (toggle : Nat) (data : List Byte)
  | saveClose (count mode : Nat)
  | saveRead (slot offset length : Nat)
  | saveErase (slot : Nat)
  | saveInfo (slot : Nat)
  | clockSet (time : Nat) (zone : Option Int) (hour : Option Nat)
  | clockRead
  | clockAccept
  | clockTrim (trim : Int)
  | appointSet (tag due period : Nat) (link : Option Nat)
  | appointClear (tag : Nat)
  | appointList (start : Nat)
  | noticeEnable (mask : Nat)
  | noticeRead
  | statsRead (group : Nat)
  | misfit (kind : Kind)
  deriving DecidableEq, Repr

/-- An inbox entry (R185): source, priority and ask tag with the request. SAVE_DATA's tag is 0 and
is not used. -/
structure Entry where
  ask : Ask
  request : Request
  deriving DecidableEq, Repr

/-- The Line Interface (R185, R186, R188, R189, R192). -/
structure LineIf where
  own : Nat
  queue : List TxPost
  sending : Option TxPost
  silentEnd : Option Nat
  runCount : Nat
  removed : Nat
  inbox : List Entry
  /-- The part drove the acknowledge slot of the last received post dominant (R181). -/
  acked : Bool
  deriving DecidableEq, Repr

/-! ### Settings (R201, R204) -/

/-- The settings values in force. -/
structure Settings where
  beatStation : Nat
  powerStation : Nat
  noticeStation : Nat
  clientMask : BitVec 16
  ticks : Nat
  period : Nat
  iCore : Nat
  a0 : Nat
  a1 : Nat
  iFull : Nat
  /-- S in mA. -/
  safeAllowance : Nat
  overTrip : Nat
  testDuty : Nat
  openThreshold : Nat
  shortThreshold : Nat
  coolRate : Nat
  hTrip : Nat
  hClear : Nat
  guardDuty : Nat
  brakeTicks : Nat
  dirOffset : Nat
  dirCount : Nat
  /-- Memory size in 64 KiB units. -/
  memUnits : Nat
  zone : Int
  hour : Nat
  /-- Stream idle timeout in 100 ms units. -/
  idleUnits : Nat
  noticeMask : BitVec 12
  deriving DecidableEq, Repr

/-! ### Beat Tracker and Tick Generator (R56) -/

/-- The tracker states. -/
inductive Tracker where
  | locked | free
  deriving DecidableEq, Repr

/-- The Beat Tracker's state. The beat station and N stand in `Settings`. -/
structure BeatGen where
  tracker : Tracker
  period : Nat
  interval : Nat
  lastCount : Option Nat
  capture : Nat
  nextIndex : Nat
  timer : Nat
  timerHeld : Bool
  tickCounter : Nat
  deriving DecidableEq, Repr

/-! ### Pattern Fetch Unit (R73 to R81) -/

/-- The pattern kinds (R73). -/
inductive PatternKind where
  | sound | rumble
  deriving DecidableEq, Repr

/-- A directory entry as read (R73, R204): the kind byte may name no kind. -/
structure RawEntry where
  kindByte : Nat
  loopCount : Nat
  peakDuty : Nat
  bodyOffset : Nat
  stepCount : Nat
  loopStart : Nat
  deriving DecidableEq, Repr

/-- A well formed directory entry (R74). -/
structure DirEntry where
  kind : PatternKind
  loopCount : Nat
  peakDuty : Nat
  bodyOffset : Nat
  stepCount : Nat
  loopStart : Nat
  deriving DecidableEq, Repr

/-- A step as delivered, after the clamps of R82. -/
inductive Step where
  | sound (note length level : Nat) (retrigger : Bool)
  | rumble (duty length : Nat) (ramp brake : Bool)
  deriving DecidableEq, Repr

/-- The states of a fetch record (R77). -/
inductive RecState where
  | none | lookup | opened
  deriving DecidableEq, Repr

/-- The kinds of a player's request at the port (R77). -/
inductive PortRequest where
  | directory | step
  deriving DecidableEq, Repr

/-- A fetch record (R77). `cursor` holds the next step index and the loops left; `none` is EXHAUSTED.
`pattern` is the pattern that the record's play names, which a waiting directory fetch asks for. -/
structure FetchRec where
  state : RecState
  playNo : Nat
  pattern : Nat
  entry : Option DirEntry
  buffer : List Step
  cursor : Option (Nat × Nat)
  waiting : Option PortRequest
  firstDone : Bool
  deriving DecidableEq, Repr

/-- What a transaction in flight reads (R72). -/
inductive Job where
  | settings
  | directory (player pattern playNo : Nat)
  | steps (player playNo index count : Nat)
  deriving DecidableEq, Repr

/-- The SPI transaction in flight: what it reads, its byte address and its number of bytes (R72). -/
structure Transfer where
  job : Job
  address : Nat
  bytes : Nat
  deriving DecidableEq, Repr

/-- The Pattern Fetch Unit: cache (most recently used first, R75), the five fetch records (R77), the
port (R80). -/
structure Fetch where
  cache : List (Nat × DirEntry)
  recs : Vector FetchRec 5
  port : Option Transfer
  settingsWaiting : Bool
  lastVoice : Nat
  deriving DecidableEq, Repr

/-- The result of a lookup (R74): cases 3 to 6. -/
inductive Lookup where
  | valid (e : DirEntry)
  | noSuch
  | badPattern
  deriving DecidableEq, Repr

/-! ### Sound Engine (R86, R107) -/

/-- The voice states (R87). -/
inductive VoiceState where
  | idle | starting | playing | starved | releasing
  deriving DecidableEq, Repr

/-- The envelope stages (R86). -/
inductive Stage where
  | attack | decay | sustain | release | off
  deriving DecidableEq, Repr

/-- A reply owed: requester and ask tag, with the request's priority at which it leaves (R92). -/
structure Owed where
  requester : Nat
  tag : Nat
  priority : Nat
  deriving DecidableEq, Repr

/-- A voice record (R86). -/
structure Voice where
  state : VoiceState
  pattern : Nat
  playNo : Nat
  priority : Nat
  requester : Nat
  endNotice : Bool
  startedAt : Nat
  owed : Option Owed
  endReason : Option EndReason
  ticksLeft : Nat
  note : Nat
  stepLevel : Nat
  lastRest : Bool
  waveform : Waveform
  duty : Nat
  phase : Nat
  increment : Nat
  noise : BitVec 15
  stage : Stage
  env : Nat
  attack : Nat
  decay : Nat
  sustain : Nat
  release : Nat
  transpose : Int
  level : Nat
  change : PendingChange
  deriving DecidableEq, Repr

/-- The Sound Engine: voices (R86), mixer (R107) and the audio PWM's compare value (R106). -/
structure Sound where
  voices : Vector Voice 4
  master : Nat
  gTarget : Nat
  gEff : Nat
  gCeiling : Nat
  clipOpen : Bool
  compare : Nat
  deriving DecidableEq, Repr

/-! ### Rumble Driver (R116) -/

/-- The drive modes (R115). -/
inductive DriveMode where
  | off | drive | brake
  deriving DecidableEq, Repr

/-- A ramp in progress (R116, R123): start, target and position, with the step's length. -/
structure Ramp where
  start : Nat
  target : Nat
  position : Nat
  length : Nat
  deriving DecidableEq, Repr

/-- The motor check context (R133): the drive start time is absent in the phase RAISE and present in
the phase DRIVE. -/
structure MotorCheck where
  owed : Owed
  cameFaulted : Bool
  driveStart : Option Nat
  sum : Nat
  count : Nat
  deriving DecidableEq, Repr

/-- The Rumble Driver's state (R116). `duration` none is UNTIL_STOPPED. -/
structure Rumble where
  player : PlayerState
  kind : PlayKind
  pattern : Nat
  playNo : Nat
  priority : Nat
  requester : Nat
  endNotice : Bool
  owed : Option Owed
  dRes : Nat
  raiseEnded : Bool
  peak : Nat
  ticksLeft : Nat
  ramp : Option Ramp
  steadyDuty : Nat
  duration : Option Nat
  brakeLeft : Nat
  endReason : Option EndReason
  dReq : Nat
  mode : DriveMode
  dBudget : Nat
  guard : GuardState
  heat : Nat
  dEff : Nat
  lastFault : Option (FaultCause × Nat)
  check : Option MotorCheck
  deriving DecidableEq, Repr

/-! ### Budget Unit (R140 to R144) -/

/-- A peer claim entry (R142). -/
structure Peer where
  claim : Nat
  previous : Nat
  raisedAt : Option Nat
  lastHeard : Nat
  yielding : Bool
  deriving DecidableEq, Repr

/-- A raise in progress (R144): planned value and settle start; the settle end falls due 20,972
counts after the settle start (R151). -/
structure Raise where
  planned : Nat
  settleStart : Option Nat
  deriving DecidableEq, Repr

/-- The Budget Unit. The caps last handed stand where they are handed: the mixer's gain ceiling and
the Rumble Driver's duty cap. The peer claim table is indexed by station 0..14. -/
structure Budget where
  allowance : Nat
  heard : Option Nat
  fresh : Bool
  peers : Vector (Option Peer) 15
  announced : Option Nat
  handedAt : Option Nat
  acked : Option (Nat × Nat)
  released : Nat
  raise : Option Raise
  listenEnd : Option Nat
  overFlag : Bool
  holding : Bool
  deriving DecidableEq, Repr

/-! ### Save Store (R1 to R5, R19, R25) -/

/-- The owner marks (R2). -/
inductive Mark where
  | free
  | live (slot position : Nat)
  | staged (position : Nat)
  | pinned
  deriving DecidableEq, Repr

/-- An entry of the page owner table (R2). -/
structure PageEntry where
  mark : Mark
  check : BitVec 16
  deriving DecidableEq, Repr

/-- A slot record (R4). -/
structure Slot where
  state : SlotState
  size : Nat
  pages : List Nat
  stamp : Option Nat
  day : Option Int
  commits : Nat
  deriving DecidableEq, Repr

/-- The conditions of a write stream (R5). -/
inductive Condition where
  | opened | copying | broken
  deriving DecidableEq, Repr

/-- The write stream context (R5), with the data bytes of the post in hand that a page copy holds
back and the number of data bytes that post carried (R12). -/
structure WriteStream where
  slot : Nat
  owner : Nat
  patch : Bool
  offset : Nat
  total : Nat
  received : Nat
  toggle : Nat
  needed : Nat
  /-- (position, page), in order of position. -/
  staged : List (Nat × Nat)
  condition : Condition
  lastActivity : Nat
  held : List Byte
  postBytes : Nat
  deriving DecidableEq, Repr

/-- The read stream context (R19); `damaged` is set when a snapshot page's check failed (R21). -/
structure ReadStream where
  slot : Nat
  reader : Nat
  snapshot : List Nat
  next : Nat
  left : Nat
  toggle : Nat
  verified : List Nat
  damaged : Bool
  deriving DecidableEq, Repr

/-- The Save Store. `ram` holds byte 256 × page + offset of the page RAM at that address, in the
canonical form of `Memory.wf`. `scrub` is present while the start scrub runs and holds the pages
freed so far (R25). -/
structure SaveStore where
  ram : List Host.Cell
  owner : Vector PageEntry 128
  slots : Vector Slot 8
  write : Option WriteStream
  read : Option ReadStream
  scrub : Option Nat
  deriving DecidableEq, Repr

/-! ### Calendar (R31) -/

/-- The Calendar. `running` is the state RUNNING, its absence UNSET. -/
structure Calendar where
  running : Bool
  time : Nat
  prescaler : Nat
  ended : Bool
  trimRequested : Int
  trimUse : Int
  zone : Int
  hour : Nat
  mark : Nat
  rewound : Bool
  rewind : Nat
  lastDay : Option Int
  keepDay : Option Int
  appointments : List Appointment
  deriving DecidableEq, Repr

/-! ### Power Supervisor (R160 to R163) and Notice Unit (R194, R198) -/

/-- The Power Supervisor. `cellCount` counts crystal counts since the last coin-cell sample, up to the
sampler's period (R162); `keepSupply` says that the keep supply is above the retention minimum
(R161). -/
structure Power where
  state : PowerState
  orderly : Bool
  startKind : StartKind
  settingsValid : Bool
  freed : Nat
  damaged : List Nat
  dayTurns : Nat
  rail : RailLevel
  keepIntact : Bool
  cell : CellLevel
  lowSeen : Bool
  record : Option PowerFailRecord
  cellCount : Nat
  keepSupply : Bool
  deriving DecidableEq, Repr

/-- The Notice Unit. Bit i of the two words belongs to the i-th kind of R193 (R203). -/
structure Notices where
  pendingFlags : BitVec 12
  mask : BitVec 12
  counters : Vector Counter 16
  deriving DecidableEq, Repr

/-- The GUARD pin and its debouncer (R200). -/
structure GuardPin where
  pinLow : Bool
  asserted : Bool
  timer : Option Nat
  deriving DecidableEq, Repr

end Sys2Proof.Machine
end

