-- ==== Sys2Proof/Machine/Start.lean ====
section
/-! DEFINITION. The value of each block's state at a start (R28, R31, R56, R77, R85, R86, R107, R112,
R116, R137, R144, R157, R161, R163, R192, R194, R198) and the settings defaults (R204). -/

namespace Sys2Proof.Machine

/-- Every setting at its default (R204). -/
def defaultSettings : Settings where
  beatStation := 1
  powerStation := 2
  noticeStation := 1
  clientMask := 2
  ticks := 4
  period := 17556
  iCore := 6
  a0 := 4
  a1 := 36
  iFull := 120
  safeAllowance := 60
  overTrip := 240
  testDuty := 40
  openThreshold := 3
  shortThreshold := 60
  coolRate := 48
  hTrip := 60000
  hClear := 30000
  guardDuty := 32
  brakeTicks := 12
  dirOffset := 64
  dirCount := 256
  memUnits := 16
  zone := 0
  hour := 5
  idleUnits := 20
  noticeMask := 4095

/-- The Line Interface at a start (R192), with the own station given by the straps (R200). -/
def lineStart (own : Nat) : LineIf where
  own := own
  queue := []
  sending := none
  silentEnd := none
  runCount := 0
  removed := 0
  inbox := []
  acked := false

/-- The Beat Tracker at STARTING (R56), with the settings period P. -/
def beatStart (period : Nat) : BeatGen where
  tracker := .free
  period := period
  interval := period
  lastCount := none
  capture := 0
  nextIndex := 0
  timer := 0
  timerHeld := true
  tickCounter := 0

/-- A fetch record at a start (R77). -/
def fetchRecStart : FetchRec where
  state := .none
  playNo := 0
  pattern := 0
  entry := none
  buffer := []
  cursor := none
  waiting := none
  firstDone := false

/-- The Pattern Fetch Unit at a start (R85), before its settings read is asked for. -/
def fetchStart : Fetch where
  cache := []
  recs := Vector.replicate 5 fetchRecStart
  port := none
  settingsWaiting := false
  lastVoice := 3

/-- A voice record at a start (R86). -/
def voiceStart : Voice where
  state := .idle
  pattern := 0
  playNo := 0
  priority := 0
  requester := 0
  endNotice := false
  startedAt := 0
  owed := none
  endReason := none
  ticksLeft := 0
  note := 57
  stepLevel := 0
  lastRest := true
  waveform := .pulse
  duty := 4
  phase := 0
  increment := 225280
  noise := 0x7FFF
  stage := .off
  env := 0
  attack := 32
  decay := 4
  sustain := 192
  release := 16
  transpose := 0
  level := 15
  change := {}

/-- The Sound Engine at a start (R86, R107, R112). -/
def soundStart : Sound where
  voices := Vector.replicate 4 voiceStart
  master := 48
  gTarget := 192
  gEff := 0
  gCeiling := 0
  clipOpen := true
  compare := 512

/-- The Rumble Driver at a start (R116, R137). -/
def rumbleStart : Rumble where
  player := .idle
  kind := .pattern
  pattern := 0
  playNo := 0
  priority := 0
  requester := 0
  endNotice := false
  owed := none
  dRes := 0
  raiseEnded := true
  peak := 0
  ticksLeft := 0
  ramp := none
  steadyDuty := 0
  duration := none
  brakeLeft := 0
  endReason := none
  dReq := 0
  mode := .off
  dBudget := 0
  guard := .clear
  heat := 0
  dEff := 0
  lastFault := none
  check := none

/-- The Budget Unit at a start (R141, R142, R144): the allowance is STALE at the safe allowance. -/
def budgetStart (safe : Nat) : Budget where
  allowance := safe
  heard := none
  fresh := false
  peers := Vector.replicate 15 none
  announced := none
  handedAt := none
  acked := none
  released := 0
  raise := none
  listenEnd := none
  overFlag := false
  holding := true

/-- An EMPTY slot record (R4). -/
def emptySlot : Slot where
  state := .empty
  size := 0
  pages := []
  stamp := none
  day := none
  commits := 0

/-- A FREE page of the owner table. Its check is undefined after a cold start (R1); 0 here, DESIGN
CHOICE (unsafe, log 5). -/
def freePage : PageEntry where
  mark := .free
  check := 0

/-- The Save Store after a cold start (R28). -/
def storeStart : SaveStore where
  ram := []
  owner := Vector.replicate 128 freePage
  slots := Vector.replicate 8 emptySlot
  write := none
  read := none
  scrub := none

/-- The Calendar at a cold start (R31), with the zone and rollover hour given. -/
def calendarStart (zone : Int) (hour : Nat) : Calendar where
  running := false
  time := 0
  prescaler := 0
  ended := false
  trimRequested := 0
  trimUse := 0
  zone := zone
  hour := hour
  mark := 0
  rewound := false
  rewind := 0
  lastDay := none
  keepDay := none
  appointments := []

/-- The Power Supervisor after the reset of the keep domain (R161), unpowered but for the keep
supply (R160, R163). -/
def powerReset : Power where
  state := .keep
  orderly := false
  startKind := .cold
  settingsValid := false
  freed := 0
  damaged := []
  dayTurns := 0
  rail := .fail
  keepIntact := false
  cell := .ok
  lowSeen := false
  record := none
  cellCount := 0
  keepSupply := true

/-- The Notice Unit at a start (R194, R198): no flag pending, every kind enabled, counters 0. -/
def noticesStart : Notices where
  pendingFlags := 0
  mask := 4095
  counters := Vector.replicate 16 { count := 0, overflow := false }

end Sys2Proof.Machine
end

