-- ==== Sys2Proof/Machine/Formats.lean ====
section
/-! DEFINITION. The layouts the line and the pattern memory see: bits, stuffing, check and read-back of
a post (R178 to R180, R188), kind codes (R204), payloads of the posts the part sends and of the requests
it reads (R203), the settings record (R201, R204), directory entries and steps (R73, R82, R204). -/

namespace Sys2Proof.Machine

/-! ### Bytes and bits -/

/-- The byte sent for a field of one byte (R203). -/
def byteOf (n : Nat) : Byte := BitVec.ofNat 8 n

/-- A field of one byte (R203). -/
def field1 (n : Nat) : List Byte := [byteOf n]

/-- A field of two bytes, most significant first (R203). -/
def field2 (n : Nat) : List Byte := [byteOf (n / 256), byteOf n]

/-- A field of four bytes, most significant first (R203). -/
def field4 (n : Nat) : List Byte :=
  [byteOf (n / 16777216), byteOf (n / 65536), byteOf (n / 256), byteOf n]

/-- A signed field of one byte, in two's complement (R203). -/
def signed1 (i : Int) : List Byte := [BitVec.ofInt 8 i]

/-- A signed field of two bytes, in two's complement, most significant first (R203). -/
def signed2 (i : Int) : List Byte := field2 (BitVec.ofInt 16 i).toNat

/-- A flag: one byte, 1 when set (R203). -/
def flag1 (b : Bool) : List Byte := field1 b.toNat

/-- A game day is sent as the game day plus 2 (R203). -/
def gameDay2 (g : Int) : List Byte := field2 (g + 2).toNat

/-- A calendar time; UNSET is sent as 0xFFFFFFFF (R203). -/
def time4 : Option Nat → List Byte
  | none => field4 4294967295
  | some t => field4 t

/-- The presence byte of optional fields, from bit 0 in listed order (R203). -/
def presence (l : List Bool) : List Byte :=
  field1 (l.foldr (fun b acc => b.toNat + 2 * acc) 0)

/-- An optional field: absent, it occupies no bytes (R203). -/
def optional {α : Type} (f : α → List Byte) : Option α → List Byte
  | none => []
  | some x => f x

/-- Byte `i` of a read from the pattern memory; a byte that is not driven reads 0xFF (R84). -/
def byteAt (l : List Byte) (i : Nat) : Nat := (l.getD i Config.undrivenByte).toNat

/-- Two bytes of a read, most significant first (R203). -/
def halfAt (l : List Byte) (i : Nat) : Nat := 256 * byteAt l i + byteAt l (i + 1)

/-- Three bytes of a read, most significant first (R203). -/
def wordAt3 (l : List Byte) (i : Nat) : Nat := 256 * halfAt l i + byteAt l (i + 2)

/-- A byte in two's complement (R203). -/
def signedOf (b : Byte) : Int := b.toInt

/-- The `w` low bits of `n`, most significant first (R179). -/
def bitsOf (w n : Nat) : List Bool := (List.range w).map fun i => n.testBit (w - 1 - i)

/-- The number that bits spell, most significant first (R179). -/
def natOfBits (l : List Bool) : Nat := l.foldl (fun acc b => 2 * acc + b.toNat) 0

/-- The first `n` bytes that bits spell (R179). -/
def bytesOfBits : Nat → List Bool → List Byte
  | 0, _ => []
  | n + 1, l => byteOf (natOfBits (l.take 8)) :: bytesOfBits n (l.drop 8)

/-- The bits of bytes, in the order they are sent (R179). -/
def bitsOfBytes (l : List Byte) : List Bool := l.flatMap fun b => bitsOf 8 b.toNat

/-! ### The check (R1, R179) -/

/-- One bit of the CRC-16 with polynomial x^16+x^12+x^5+1, most significant bit first, without
reflection. -/
def crcStep (crc : BitVec 16) (b : Bool) : BitVec 16 :=
  if crc.msb != b then (crc <<< 1) ^^^ 0x1021#16 else crc <<< 1

/-- The CRC-16 of a run of bits: initial value 0xFFFF, no final exclusive-or (R179). -/
def crcBits (l : List Bool) : BitVec 16 := l.foldl crcStep 0xFFFF#16

/-- The CRC-16 of a run of bytes, each most significant bit first (R1). -/
def crcBytes (l : List Byte) : BitVec 16 := crcBits (bitsOfBytes l)

/-! ### Bits on the wire (R178) -/

/-- The majority of the three samples of a bit. -/
def majority (x : BitSamples) : Bool := (x.a && x.b) || (x.b && x.c) || (x.a && x.c)

/-- Inserting one bit of the opposite level after every six bits of equal level. The inserted bit
begins the next run (DEDUCED, log 7). `run` counts the equal bits that end what was sent before. -/
def stuffFrom (prev : Bool) (run : Nat) : List Bool → List Bool
  | [] => if run = 6 then [!prev] else []
  | b :: rest =>
    if run = 6 then (!prev) :: b :: stuffFrom b (if b = prev then 1 else 2) rest
    else b :: stuffFrom b (if b = prev then run + 1 else 1) rest

/-- The bits on the wire of an unstuffed run. -/
def stuff (l : List Bool) : List Bool := stuffFrom true 0 l

/-- Removing inserted bits; what follows a stuffing fault (seven equal bits) is not read. A seventh
equal bit after a run that ends with the last check bit stands behind the span and faults nothing
(DEDUCED, log 7). -/
def destuffFrom (prev : Bool) (run : Nat) : List Bool → List Bool
  | [] => []
  | b :: rest =>
    if run = 6 then (if b = prev then [] else destuffFrom b 1 rest)
    else b :: destuffFrom b (if b = prev then run + 1 else 1) rest

/-- The unstuffed bits of a received run, up to the first stuffing fault. -/
def destuff (l : List Bool) : List Bool := destuffFrom true 0 l

/-! ### Posts (R179, R180, R204) -/

/-- The header's value: priority × 16384 + kind × 256 + source × 16 + target (R179). -/
def headerValue (priority kind source target : Nat) : Nat :=
  priority * 16384 + kind * 256 + source * 16 + target

/-- Header, length and payload of a post, without inserted bits: what the check covers (R179). -/
def checkedBits (header : Nat) (payload : List Byte) : List Bool :=
  bitsOf 16 header ++ bitsOf 6 payload.length ++ bitsOfBytes payload

/-- A post from its dominant start bit to its last check bit, without inserted bits (R179). -/
def postBits (header : Nat) (payload : List Byte) : List Bool :=
  false :: (checkedBits header payload ++ bitsOf 16 (crcBits (checkedBits header payload)).toNat)

/-- The bits a sender puts on the line for a post, from start bit to last check bit (R178, R179). -/
def wireBits (header : Nat) (payload : List Byte) : List Bool := stuff (postBits header payload)

/-- The level the part drives in a post's acknowledge slot: dominant when it takes the post, recessive
when it does not and in its own posts (R181, R204). -/
def ackSlot (taken : Bool) : Bool := !taken

/-- The seven recessive end bits, which carry no inserted bits (R178, R204). -/
def endBits : List Bool := List.replicate 7 true

/-- All the bits a sender puts on the line for a post: start bit to last check bit, the acknowledge
slot, which the sender leaves recessive, and the end bits (R178, R179, R181, R204). -/
def frameBits (header : Nat) (payload : List Byte) : List Bool :=
  wireBits header payload ++ ackSlot false :: endBits

/-- Reading unstuffed bits as a post: none when the post is faulty, that is when a stuffing fault or
its end cut it short, its length is above 32 or its check disagrees (R180). What follows the last check
bit, an inserted bit included, is not judged (log 7). -/
def readPost : List Bool → Option RxPost
  | false :: body =>
    let header := natOfBits (body.take 16)
    let length := natOfBits ((body.drop 16).take 6)
    let span := 22 + 8 * length
    if body.length < 22 ∨ 32 < length ∨ body.length < span + 16 then none
    else if natOfBits ((body.drop span).take 16) ≠ (crcBits (body.take span)).toNat then none
    else some {
      priority := header / 16384 % 4, kindCode := header / 256 % 64, source := header / 16 % 16,
      target := header % 16, payload := bytesOfBits length (body.drop 22) }
  | _ => none

/-- Judging a received post from the samples of its bits (R178, R180). -/
def judgePost (samples : List BitSamples) : Option RxPost :=
  readPost (destuff (samples.map majority))

/-- The kind codes (R204). -/
def Kind.code : Kind → Nat
  | .powerMode => 0x01 | .allowance => 0x02 | .beat => 0x03 | .claim => 0x04
  | .hello => 0x08 | .notice => 0x09 | .reply => 0x0A | .readData => 0x0B
  | .ident => 0x10 | .playSound => 0x11 | .stopSound => 0x12 | .voiceSet => 0x13
  | .masterLevel => 0x14
  | .playRumble => 0x18 | .steadyRumble => 0x19 | .stopRumble => 0x1A | .motorCheck => 0x1B
  | .saveOpen => 0x20 | .saveData => 0x21 | .saveClose => 0x22 | .saveRead => 0x23
  | .saveErase => 0x24 | .saveInfo => 0x25
  | .clockSet => 0x28 | .clockRead => 0x29 | .clockAccept => 0x2A | .clockTrim => 0x2B
  | .appointSet => 0x2C | .appointClear => 0x2D | .appointList => 0x2E
  | .noticeEnable => 0x30 | .noticeRead => 0x31 | .statsRead => 0x32

/-- Every post kind. -/
def allKinds : List Kind :=
  [.powerMode, .allowance, .beat, .claim, .hello, .notice, .reply, .readData, .ident, .playSound,
   .stopSound, .voiceSet, .masterLevel, .playRumble, .steadyRumble, .stopRumble, .motorCheck,
   .saveOpen, .saveData, .saveClose, .saveRead, .saveErase, .saveInfo, .clockSet, .clockRead,
   .clockAccept, .clockTrim, .appointSet, .appointClear, .appointList, .noticeEnable, .noticeRead,
   .statsRead]

/-- The kind of a code, where it has one (R204). -/
def kindOfCode (n : Nat) : Option Kind := allKinds.find? fun k => k.code == n

/-- The request kinds (R182). -/
def Kind.isRequest (k : Kind) : Bool := decide (16 ≤ k.code)

/-! ### Choice numbers (R203): from 0 in the order the defining rule lists them -/

/-- Result code numbers (R191, R203). -/
def Code.number : Code → Nat
  | .done => 0 | .busy => 1 | .notClient => 2 | .badArg => 3 | .noSuch => 4 | .badPattern => 5
  | .noSpace => 6 | .guarded => 7 | .damaged => 8 | .empty => 9 | .noStream => 10
  | .notOwner => 11 | .countMismatch => 12 | .broken => 13 | .listFull => 14 | .unset => 15
  | .motorFault => 16 | .dozing => 17 | .cancelled => 18 | .noHeadroom => 19

/-- Start kind (R163). -/
def StartKind.number : StartKind → Nat | .cold => 0 | .warm => 1
/-- Phase of a power-fail record (R173): STARTING, ACTIVE or DOZE. -/
def PowerState.number : PowerState → Nat | .starting => 0 | .active => 1 | .doze => 2 | .keep => 3
/-- Coin-cell level (R163). -/
def CellLevel.number : CellLevel → Nat | .ok => 0 | .low => 1
/-- Slot state (R4). -/
def SlotState.number : SlotState → Nat | .empty => 0 | .live => 1 | .damaged => 2
/-- End reason of CUE_END (R111). -/
def EndReason.cueNumber : EndReason → Nat
  | .finished => 0 | .stopped => 1 | .replaced => 2 | .power => 3 | .fault => 4
/-- End reason of RUMBLE_END (R127). -/
def EndReason.rumbleNumber : EndReason → Nat
  | .finished => 0 | .stopped => 1 | .replaced => 2 | .fault => 3 | .power => 4
/-- Play kind (R116). -/
def PlayKind.number : PlayKind → Nat | .pattern => 0 | .steady => 1
/-- Fault cause (R116). -/
def FaultCause.number : FaultCause → Nat | .overcurrent => 0 | .openMotor => 1 | .shortMotor => 2
/-- Heat guard state (R116). -/
def GuardState.number : GuardState → Nat | .clear => 0 | .tripped => 1
/-- Player state (R116). -/
def PlayerState.number : PlayerState → Nat
  | .idle => 0 | .starting => 1 | .playing => 2 | .starved => 3 | .steady => 4 | .braking => 5
  | .checking => 6 | .faulted => 7
/-- STREAM_LOST cause (R193). -/
def LostCause.number : LostCause → Nat
  | .overlong => 0 | .copyCheck => 1 | .timeout => 2 | .power => 3
/-- SLOT_DAMAGED cause (R193). -/
def DamageCause.number : DamageCause → Nat
  | .readCheck => 0 | .copyCheck => 1 | .scrubCheck => 2 | .scrubList => 3 | .scrubEmptied => 4
/-- Motor check outcome, in the order R134 gives them (log 9). -/
def CheckOutcome.number : CheckOutcome → Nat
  | .openMotor => 0 | .shortMotor => 1 | .normal => 2 | .failed => 3
/-- Reason of a FAILED check, in the order of R134. -/
def FailReason.number : FailReason → Nat | .noHeadroom => 0 | .guardTrip => 1 | .power => 2
/-- Repeat of an appointment (R46). -/
def Repeat.number : Repeat → Nat | .none => 0 | .daily => 1 | .weekly => 2
/-- Waveform (R86, R203). -/
def Waveform.number : Waveform → Nat | .pulse => 0 | .triangle => 1 | .noise => 2
/-- Notice kind numbers, RESUME 0 to SLOT_DAMAGED 11 (R203). -/
def NoticeKind.number : NoticeKind → Nat
  | .resume => 0 | .dayTurn => 1 | .appointment => 2 | .cueEnd => 3 | .rumbleEnd => 4
  | .motorGuard => 5 | .motorFault => 6 | .streamLost => 7 | .overAllowance => 8
  | .batteryLow => 9 | .lineTrouble => 10 | .slotDamaged => 11

/-- The kind of a raised notice (R193). -/
def Notice.kind : Notice → NoticeKind
  | .resume _ => .resume
  | .dayTurn _ _ _ => .dayTurn
  | .appointment _ _ => .appointment
  | .cueEnd _ _ _ _ => .cueEnd
  | .rumbleEnd _ _ _ _ => .rumbleEnd
  | .motorGuard _ _ => .motorGuard
  | .motorFault _ => .motorFault
  | .streamLost _ _ _ => .streamLost
  | .overAllowance _ _ _ _ => .overAllowance
  | .batteryLow _ => .batteryLow
  | .lineTrouble _ => .lineTrouble
  | .slotDamaged _ _ => .slotDamaged

/-! ### Payloads of the part's own posts (R193, R202, R203 and the rules of the replies) -/

/-- The power-fail record in RESUME (R173, R177); an absent write slot is 0xFF (R203). -/
def recordBytes (r : PowerFailRecord) : List Byte :=
  field1 r.phase.number ++ time4 r.time ++ field1 (r.writeSlot.getD 255) ++ flag1 r.readActive ++
  flag1 r.motorDriving ++ flag1 r.soundPlaying ++ field1 r.failCount

/-- A list preceded by its count (R203). -/
def counted (l : List Nat) : List Byte := field1 l.length ++ l.flatMap field1

/-- A validity: valid 0, invalid 1 (R163, R203). -/
def validity1 (valid : Bool) : List Byte := field1 (!valid).toNat

/-- A notice's fields after its kind (R193). R203's width table names no class for the heat estimate H of
MOTOR_GUARD: it is sent as two bytes (DEDUCED, as every width the table leaves out, log 9). -/
def Notice.fields : Notice → List Byte
  | .resume r =>
    field1 r.kind.number ++ validity1 r.settingsValid ++ presence [r.record.isSome] ++
    optional recordBytes r.record ++ flag1 r.batteryLowSeen ++ field1 r.cell.number ++
    field2 r.dayTurns ++ field1 r.freed ++ counted r.damaged
  | .dayTurn g d w => gameDay2 g ++ field2 d.year.toNat ++ field1 d.month ++ field1 d.day ++ field1 w
  | .appointment tag missed => field1 tag ++ field1 missed
  | .cueEnd v p pat r => field1 v ++ field1 p ++ field1 pat ++ field1 r.cueNumber
  | .rumbleEnd p k pat r =>
    field1 p ++ field1 k.number ++ presence [pat.isSome] ++ optional field1 pat ++
    field1 r.rumbleNumber
  | .motorGuard g h => field1 g.number ++ field2 h
  | .motorFault c => field1 FaultCause.overcurrent.number ++ field2 c
  | .streamLost slot cause n => field1 slot ++ field1 cause.number ++ field2 n
  | .overAllowance entered a p h => field1 (!entered).toNat ++ field2 a ++ field2 p ++ signed2 h
  | .batteryLow mv => field2 mv
  | .lineTrouble n => field1 n
  | .slotDamaged slot cause => field1 slot ++ field1 cause.number

/-- The voice settings of PLAY_SOUND's DONE (R92). -/
def useBytes (u : VoiceInUse) : List Byte :=
  field1 u.waveform.number ++ field1 u.duty ++ field1 u.attack ++ field1 u.decay ++
  field1 u.sustain ++ field1 u.release ++ signed1 u.transpose ++ field1 u.level

/-- A pending change record, its eight fields optional (R95, R203). -/
def changeBytes (p : PendingChange) : List Byte :=
  presence [p.waveform.isSome, p.duty.isSome, p.attack.isSome, p.decay.isSome, p.sustain.isSome,
    p.release.isSome, p.transpose.isSome, p.level.isSome] ++
  optional (fun w => field1 w.number) p.waveform ++ optional field1 p.duty ++
  optional field1 p.attack ++ optional field1 p.decay ++ optional field1 p.sustain ++
  optional field1 p.release ++ optional signed1 p.transpose ++ optional field1 p.level

/-- An entry of APPOINT_LIST; an absent slot link is 0xFF (R49, R203). -/
def appointmentBytes (e : Appointment) : List Byte :=
  field1 e.tag ++ field4 e.due ++ field1 e.period.number ++ field1 (e.link.getD 255)

/-- CLOCK_READ's report (R43). -/
def clockBytes (r : ClockReport) : List Byte :=
  flag1 r.running ++ field4 r.time ++
  presence [r.date.isSome, r.clock.isSome, r.weekday.isSome, r.gameDay.isSome] ++
  optional (fun d => field2 d.year.toNat ++ field1 d.month ++ field1 d.day) r.date ++
  optional (fun c => field1 c.1 ++ field1 c.2.1 ++ field1 c.2.2) r.clock ++
  optional field1 r.weekday ++ optional gameDay2 r.gameDay ++ signed1 r.zone ++ field1 r.hour ++
  flag1 r.rewound ++ field4 r.rewind ++ field4 r.mark ++ flag1 r.ended ++ signed1 r.trimUse

/-- SAVE_INFO's report (R24). The debounced GUARD level is sent as 1 while asserted, 0 while released
(DESIGN CHOICE, log 9). -/
def slotBytes (r : SlotReport) : List Byte :=
  field1 r.state.number ++ field2 r.size ++ time4 r.stamp ++
  presence [r.day.isSome, r.elapsed.isSome] ++ optional gameDay2 r.day ++ field2 r.commits ++
  optional field2 r.elapsed ++ flag1 r.ahead ++ field1 r.free ++ flag1 r.guarded ++
  flag1 r.writing

/-- The result payload of a reply (R203 and the rule that defines the reply). IDENT's silicon revision is
sent as one byte (DEDUCED, as every width that R203's table leaves out, log 9). -/
def ReplyData.bytes : ReplyData → List Byte
  | .none => []
  | .identity own kind live valid =>
    field2 Config.familyCode ++ field1 Config.siliconRevision ++ field1 own ++
    field1 kind.number ++ field1 live ++ validity1 valid
  | .soundPlay v p pr u => field1 v ++ field1 p ++ field1 pr ++ useBytes u
  | .soundStop n => field1 n
  | .pendingChange p => changeBytes p
  | .master l t e c => field1 l ++ field1 t ++ field1 e ++ field1 c
  | .rumblePlay p pr pk => field1 p ++ field1 pr ++ field1 pk
  | .steadyPlay p d n pr => field1 p ++ field1 d ++ field2 n ++ field1 pr
  | .rumbleStop ch st => flag1 ch ++ field1 st.number
  | .lastFault cause cur => field1 cause.number ++ field2 cur
  | .check o r cur st =>
    field1 o.number ++ presence [r.isSome, cur.isSome] ++
    optional (fun x => field1 x.number) r ++ optional field2 cur ++ field1 st.number
  | .opened n ready => field1 n ++ flag1 ready
  | .committed st d n => time4 st ++ presence [d.isSome] ++ optional gameDay2 d ++ field2 n
  | .reading n => field2 n
  | .slotInfo r => slotBytes r
  | .clockSet t w rw amt g => field4 t ++ field4 w ++ flag1 rw ++ field4 amt ++ gameDay2 g
  | .clockAccepted t w => field4 t ++ field4 w
  | .clock r => clockBytes r
  | .trim rq use => signed1 rq ++ signed1 use
  | .entries n => field1 n
  | .appointments n l => field1 n ++ l.flatMap appointmentBytes
  | .maskAndFlags m f =>
    field2 m.toNat ++ (List.range 12).flatMap fun i => flag1 (f.getLsbD i)
  | .flagsAndMask f m =>
    ((List.range 12).flatMap fun i => flag1 (f.getLsbD i)) ++ field2 m.toNat
  | .counters l => l.flatMap fun c => field2 c.count ++ flag1 c.overflow

/-- The kind of a post the part forms. -/
def Body.kind : Body → Kind
  | .hello _ _ _ => .hello
  | .claim _ => .claim
  | .readData _ _ _ _ => .readData
  | .reply _ _ _ _ => .reply
  | .notice _ => .notice

/-- The payload of a post the part forms (R144, R190, R193, R202, R203). HELLO's silicon revision is sent
as one byte (DEDUCED, log 9). -/
def Body.payload : Body → List Byte
  | .hello own kind live =>
    field2 Config.familyCode ++ field1 Config.siliconRevision ++ field1 own ++
    field1 kind.number ++ field1 live
  | .claim c => field1 0 ++ field1 (c / 2)
  | .readData toggle last damaged data =>
    field1 (toggle + 2 * last.toNat + 4 * damaged.toNat) ++ data
  | .reply kind tag code data =>
    field1 kind.code ++ field1 tag ++ field1 code.number ++ data.bytes
  | .notice n => field1 n.kind.number ++ n.fields

/-- A post's header value (R179). -/
def TxPost.header (p : TxPost) : Nat := headerValue p.priority p.body.kind.code p.source p.target

/-- The bits the transmitter puts on the line for a post, from start bit to last end bit (R178,
R204). -/
def TxPost.line (p : TxPost) : List Bool := frameBits p.header p.body.payload

/-! ### Reading back an own post (R179, R188) -/

/-- Each bit of a post's line with the level that the sender read back in it; a bit without samples
reads as sent (DESIGN CHOICE, log 36). -/
def TxPost.readBack (p : TxPost) (read : List BitSamples) : List (Bool × Bool) :=
  p.line.zip (read.map majority ++ p.line.drop read.length)

/-- The number of line bits of the start bit and the header; an inserted bit counts with the bit it
follows (DESIGN CHOICE, log 36). -/
def TxPost.headerSpan (p : TxPost) : Nat := (stuff (false :: bitsOf 16 p.header)).length

/-- The number of line bits before the acknowledge slot (R179). -/
def TxPost.ackIndex (p : TxPost) : Nat := (wireBits p.header p.body.payload).length

/-- A bit sent recessive and read dominant (R179). -/
def overridden (b : Bool × Bool) : Bool := b.1 && !b.2

/-- How an own post ends, from what its sender read back: a header bit overridden loses arbitration,
a bit read other than sent from the length to the last check bit damages the post, and the acknowledge
slot's level tells the rest (R179, R188; log 36). -/
def TxPost.ending (p : TxPost) (read : List BitSamples) : Ending :=
  let bits := p.readBack read
  if (bits.take p.headerSpan).any overridden then .lostArbitration
  else if ((bits.take p.ackIndex).drop p.headerSpan).any (fun b => b.1 != b.2) then .damaged
  else if (bits.drop p.ackIndex).head?.any overridden then .sent
  else .unheard

/-- The level that the part drives in the acknowledge slot of the post received last (R181). -/
def LineIf.ackLevel (x : LineIf) : Bool := ackSlot x.acked

/-! ### Payloads of requests (R203) -/

/-- An optional byte of a payload, taken when its presence bit is set. -/
def takeByte (present : Bool) (l : List Byte) : Option (Option Byte × List Byte) :=
  match present, l with
  | false, l => some (none, l)
  | true, [] => none
  | true, b :: rest => some (some b, rest)

/-- The optional voice settings after a presence byte; none when the length does not fit (R203). -/
def readVoiceFields (mask : Byte) (l : List Byte) : Option VoiceFields := do
  let (w, l) ← takeByte (mask.getLsbD 0) l
  let (d, l) ← takeByte (mask.getLsbD 1) l
  let (a, l) ← takeByte (mask.getLsbD 2) l
  let (dc, l) ← takeByte (mask.getLsbD 3) l
  let (su, l) ← takeByte (mask.getLsbD 4) l
  let (r, l) ← takeByte (mask.getLsbD 5) l
  let (t, l) ← takeByte (mask.getLsbD 6) l
  let (v, l) ← takeByte (mask.getLsbD 7) l
  if l.isEmpty then
    some { waveform := w.map BitVec.toNat, duty := d.map BitVec.toNat, attack := a.map BitVec.toNat,
           decay := dc.map BitVec.toNat, sustain := su.map BitVec.toNat,
           release := r.map BitVec.toNat, transpose := t.map signedOf, level := v.map BitVec.toNat }
  else none

/-- Two payload bytes, most significant first. -/
def half (a b : Byte) : Nat := 256 * a.toNat + b.toNat

/-- Four payload bytes, most significant first. -/
def word (a b c d : Byte) : Nat := 65536 * half a b + half c d

/-- The zone and rollover hour of CLOCK_SET after a presence byte (R41, R203). -/
def readZoneHour (mask : Byte) (l : List Byte) : Option (Option Int × Option Nat) := do
  let (z, l) ← takeByte (mask.getLsbD 0) l
  let (h, l) ← takeByte (mask.getLsbD 1) l
  if l.isEmpty then some (z.map signedOf, h.map BitVec.toNat) else none

/-- The slot link of APPOINT_SET after a presence byte (R47, R203). -/
def readLink (mask : Byte) (l : List Byte) : Option (Option Nat) := do
  let (k, l) ← takeByte (mask.getLsbD 0) l
  if l.isEmpty then some (k.map BitVec.toNat) else none

/-- Reading a request's payload, its ask tag (or SAVE_DATA's toggle) included, by the layout of its
kind (R190, R203). A set flag is any byte but 0 (log 8). -/
def readRequest (k : Kind) (payload : List Byte) : Request :=
  match k with
  | .ident => match payload with | [_] => .ident | _ => .misfit k
  | .playSound =>
    match payload with
    | _ :: v :: p :: pr :: e :: m :: opts =>
      match readVoiceFields m opts with
      | some f => .playSound v.toNat p.toNat pr.toNat (e != 0) f
      | none => .misfit k
    | _ => .misfit k
  | .stopSound => match payload with | [_, v, m] => .stopSound v.toNat m.toNat | _ => .misfit k
  | .voiceSet =>
    match payload with
    | _ :: v :: m :: opts =>
      match readVoiceFields m opts with
      | some f => .voiceSet v.toNat f
      | none => .misfit k
    | _ => .misfit k
  | .masterLevel => match payload with | [_, l] => .masterLevel l.toNat | _ => .misfit k
  | .playRumble =>
    match payload with | [_, p, pr, e] => .playRumble p.toNat pr.toNat (e != 0) | _ => .misfit k
  | .steadyRumble =>
    match payload with
    | [_, d, a, b, pr, e] => .steadyRumble d.toNat (half a b) pr.toNat (e != 0)
    | _ => .misfit k
  | .stopRumble => match payload with | [_, m] => .stopRumble m.toNat | _ => .misfit k
  | .motorCheck => match payload with | [_] => .motorCheck | _ => .misfit k
  | .saveOpen =>
    match payload with
    | _ :: slot :: mode :: rest =>
      if mode = 0 then
        match rest with | [a, b] => .saveOpen slot.toNat (.replace (half a b)) | _ => .misfit k
      else if mode = 1 then
        match rest with
        | [a, b, c, d] => .saveOpen slot.toNat (.patch (half a b) (half c d))
        | _ => .misfit k
      else .saveOpen slot.toNat (.other mode.toNat)
    | _ => .misfit k
  | .saveData =>
    match payload with | t :: data => .saveData t.toNat data | [] => .misfit k
  | .saveClose =>
    match payload with | [_, a, b, m] => .saveClose (half a b) m.toNat | _ => .misfit k
  | .saveRead =>
    match payload with
    | [_, s, a, b, c, d] => .saveRead s.toNat (half a b) (half c d)
    | _ => .misfit k
  | .saveErase => match payload with | [_, s] => .saveErase s.toNat | _ => .misfit k
  | .saveInfo => match payload with | [_, s] => .saveInfo s.toNat | _ => .misfit k
  | .clockSet =>
    match payload with
    | _ :: a :: b :: c :: d :: m :: opts =>
      match readZoneHour m opts with
      | some (z, h) => .clockSet (word a b c d) z h
      | none => .misfit k
    | _ => .misfit k
  | .clockRead => match payload with | [_] => .clockRead | _ => .misfit k
  | .clockAccept => match payload with | [_] => .clockAccept | _ => .misfit k
  | .clockTrim => match payload with | [_, t] => .clockTrim (signedOf t) | _ => .misfit k
  | .appointSet =>
    match payload with
    | _ :: t :: a :: b :: c :: d :: r :: m :: opts =>
      match readLink m opts with
      | some link => .appointSet t.toNat (word a b c d) r.toNat link
      | none => .misfit k
    | _ => .misfit k
  | .appointClear => match payload with | [_, t] => .appointClear t.toNat | _ => .misfit k
  | .appointList => match payload with | [_, i] => .appointList i.toNat | _ => .misfit k
  | .noticeEnable => match payload with | [_, a, b] => .noticeEnable (half a b) | _ => .misfit k
  | .noticeRead => match payload with | [_] => .noticeRead | _ => .misfit k
  | .statsRead => match payload with | [_, g] => .statsRead g.toNat | _ => .misfit k
  | .powerMode => .misfit k
  | .allowance => .misfit k
  | .beat => .misfit k
  | .claim => .misfit k
  | .hello => .misfit k
  | .notice => .misfit k
  | .reply => .misfit k
  | .readData => .misfit k

/-- The kind of a request. -/
def Request.kind : Request → Kind
  | .ident => .ident
  | .playSound _ _ _ _ _ => .playSound
  | .stopSound _ _ => .stopSound
  | .voiceSet _ _ => .voiceSet
  | .masterLevel _ => .masterLevel
  | .playRumble _ _ _ => .playRumble
  | .steadyRumble _ _ _ _ => .steadyRumble
  | .stopRumble _ => .stopRumble
  | .motorCheck => .motorCheck
  | .saveOpen _ _ => .saveOpen
  | .saveData _ _ => .saveData
  | .saveClose _ _ => .saveClose
  | .saveRead _ _ _ => .saveRead
  | .saveErase _ => .saveErase
  | .saveInfo _ => .saveInfo
  | .clockSet _ _ _ => .clockSet
  | .clockRead => .clockRead
  | .clockAccept => .clockAccept
  | .clockTrim _ => .clockTrim
  | .appointSet _ _ _ _ => .appointSet
  | .appointClear _ => .appointClear
  | .appointList _ => .appointList
  | .noticeEnable _ => .noticeEnable
  | .noticeRead => .noticeRead
  | .statsRead _ => .statsRead
  | .misfit k => k

/-- The block that owns a request kind (R185). Kinds that are no requests never reach the inbox. -/
def Kind.owner : Kind → Owner
  | .saveOpen | .saveData | .saveClose | .saveRead | .saveErase | .saveInfo => .saveStore
  | .clockSet | .clockRead | .clockAccept | .clockTrim | .appointSet | .appointClear
  | .appointList => .calendar
  | .playSound | .stopSound | .voiceSet | .masterLevel => .soundEngine
  | .playRumble | .steadyRumble | .stopRumble | .motorCheck => .rumbleDriver
  | .noticeEnable | .noticeRead | .statsRead => .noticeUnit
  | .ident | .powerMode | .allowance | .beat | .claim | .hello | .notice | .reply
  | .readData => .powerSupervisor

/-- The nine request kinds served in DOZE (R184). -/
def Kind.servedInDoze : Kind → Bool
  | .clockRead | .clockSet | .clockAccept | .appointSet | .appointClear | .appointList
  | .noticeRead | .saveInfo | .ident => true
  | _ => false

/-! ### The settings record (R201, R204) -/

/-- A field in its range, or its default (R201). -/
def ranged (v lo hi dflt : Nat) : Nat := if lo ≤ v ∧ v ≤ hi then v else dflt

/-- The sum of bytes 0..61 of the record (R201). -/
def settingsSum (l : List Byte) : Nat := ((List.range 62).map (byteAt l)).sum

/-- The record is valid: markers, layout version and sum (R201). -/
def settingsValid (l : List Byte) : Bool :=
  byteAt l 0 == 0x4E && byteAt l 1 == 0x43 && byteAt l 2 == 1 &&
  halfAt l 62 == settingsSum l % 65536

/-- M_mem = 65,536 × the memory size field (R72). -/
def Settings.memBytes (st : Settings) : Nat := 65536 * st.memUnits

/-- The fields of a valid record, each in its range or at its default (R204); N is clamped. -/
def settingsFields (l : List Byte) : Settings :=
  let d := defaultSettings
  let units := ranged (byteAt l 34) 1 255 d.memUnits
  let mask := halfAt l 6
  let zone := signedOf (BitVec.ofNat 8 (byteAt l 35))
  { beatStation := ranged (byteAt l 3) 0 14 d.beatStation
    powerStation := ranged (byteAt l 4) 0 14 d.powerStation
    noticeStation := ranged (byteAt l 5) 0 14 d.noticeStation
    clientMask := if 1 ≤ mask ∧ mask ≤ 0x7FFF then BitVec.ofNat 16 mask else d.clientMask
    ticks := clampNat (byteAt l 8) 1 16
    period := ranged (halfAt l 9) Config.minPeriod Config.maxPeriod d.period
    iCore := ranged (byteAt l 11) 1 127 d.iCore
    a0 := ranged (byteAt l 12) 0 127 d.a0
    a1 := ranged (byteAt l 13) 0 255 d.a1
    iFull := ranged (byteAt l 14) 1 255 d.iFull
    safeAllowance := 2 * byteAt l 15
    overTrip := ranged (halfAt l 16) 1 511 d.overTrip
    testDuty := ranged (byteAt l 18) 1 255 d.testDuty
    openThreshold := ranged (halfAt l 19) 0 510 d.openThreshold
    shortThreshold := ranged (halfAt l 21) 1 511 d.shortThreshold
    coolRate := byteAt l 23
    hTrip := ranged (halfAt l 24) 1 65535 d.hTrip
    hClear := ranged (halfAt l 26) 0 65534 d.hClear
    guardDuty := byteAt l 28
    brakeTicks := byteAt l 29
    dirOffset := ranged (wordAt3 l 30) 64 (65536 * units - 10) d.dirOffset
    dirCount := if byteAt l 33 = 0 then 256 else byteAt l 33
    memUnits := units
    zone := if -48 ≤ zone ∧ zone ≤ 56 then zone else d.zone
    hour := ranged (byteAt l 36) 0 23 d.hour
    idleUnits := ranged (byteAt l 37) 1 255 d.idleUnits
    noticeMask :=
      if halfAt l 38 ≤ 4095 then BitVec.ofNat 12 (halfAt l 38) else d.noticeMask }

/-- The three pairs of fields that are judged together (R201). -/
def settingsPairs (own : Nat) (st : Settings) : Settings :=
  let d := defaultSettings
  let st := if st.powerStation = own then { st with powerStation := d.powerStation } else st
  let st := if st.openThreshold < st.shortThreshold then st
    else { st with openThreshold := d.openThreshold, shortThreshold := d.shortThreshold }
  if st.hClear < st.hTrip then st else { st with hTrip := d.hTrip, hClear := d.hClear }

/-- The settings that a settings read gives: an invalid record gives every default (R201). -/
def settingsOf (own : Nat) (l : List Byte) : Settings :=
  if settingsValid l then settingsPairs own (settingsFields l) else defaultSettings

/-! ### Directory entries and steps (R73, R74, R82, R204) -/

/-- A directory entry's ten bytes (R204). -/
def readEntry (l : List Byte) : RawEntry where
  kindByte := byteAt l 0
  loopCount := byteAt l 1
  peakDuty := byteAt l 2
  bodyOffset := wordAt3 l 3
  stepCount := halfAt l 6
  loopStart := halfAt l 8

/-- The kind that a kind byte names; any other value is absent (R73). -/
def patternKind (n : Nat) : Option PatternKind :=
  if n = 1 then some .sound else if n = 2 then some .rumble else none

/-- R74 case 5 does not hold: step count, loop start and body lie in range. -/
def entryInRange (mem : Nat) (r : RawEntry) : Bool :=
  decide (1 ≤ r.stepCount ∧ r.stepCount ≤ 1024 ∧ r.loopStart < r.stepCount ∧
    r.bodyOffset + 3 * r.stepCount ≤ mem)

/-- The well formed entry that a raw entry is, if it is one (R74). -/
def wellFormedEntry (mem : Nat) (r : RawEntry) : Option DirEntry :=
  match patternKind r.kindByte with
  | none => none
  | some k =>
    if entryInRange mem r then
      some { kind := k, loopCount := r.loopCount, peakDuty := r.peakDuty,
             bodyOffset := r.bodyOffset, stepCount := r.stepCount, loopStart := r.loopStart }
    else none

/-- The result of a lookup that has read the entry: R74 cases 3 to 6. -/
def lookupEntry (mem : Nat) (want : PatternKind) (r : RawEntry) : Lookup :=
  match patternKind r.kindByte with
  | none => .noSuch
  | some k =>
    if k ≠ want then .badPattern
    else match wellFormedEntry mem r with
      | some e => .valid e
      | none => .badPattern

/-- The result of a lookup from the cache: valid, or BAD_PATTERN for the other kind (R76). -/
def lookupCached (want : PatternKind) (e : DirEntry) : Lookup :=
  if e.kind = want then .valid e else .badPattern

/-- A sound step's three bytes, clamped (R82, R204). -/
def readSoundStep (b0 b1 b2 : Nat) : Step :=
  let note := b0 % 128
  .sound (if 96 ≤ note ∧ note ≤ 125 then 95 else note) (max 1 b1) (min 15 b2) (128 ≤ b0)

/-- A rumble step's three bytes, clamped (R82, R204). -/
def readRumbleStep (b0 b1 b2 : Nat) : Step :=
  .rumble b0 (max 1 b1) (b2.testBit 0) (b2.testBit 1)

/-- The `n` steps of a step fetch, read by the entry's kind and clamped (R81, R82). -/
def readSteps (k : PatternKind) (n : Nat) (l : List Byte) : List Step :=
  (List.range n).map fun i =>
    match k with
    | .sound => readSoundStep (byteAt l (3 * i)) (byteAt l (3 * i + 1)) (byteAt l (3 * i + 2))
    | .rumble => readRumbleStep (byteAt l (3 * i)) (byteAt l (3 * i + 1)) (byteAt l (3 * i + 2))

end Sys2Proof.Machine
end

