-- ==== Sys2Proof/Machine/State.lean ====
section
/-! DEFINITION. The state of the part as plain data, what can stop a step, and the state after reset. -/

namespace Sys2Proof.Machine

/-- The reasons for which the part stops with a fault: there is none. The manual gives every command
an effect or a refusal that is answered on the line (R190, R191); nothing stops the part. -/
inductive Fault where
  deriving DecidableEq, Repr

/-- The reasons for which a command has no meaning in the model. -/
inductive Refusal where
  /-- Raised by `exec` for a command without a meaning; safe. No arm of this model raises it. -/
  | notModelled (mnemonic : String)
  deriving DecidableEq, Repr

/-- The whole part. `now` is the time base's count, `crystal` the time base counts since the last
crystal count (logs 2 and 3). `settings` are the values in force since the settings read (R201).
`pending` is the queue of commands that are waiting, first in, first out. -/
structure State where
  now : Nat
  crystal : Nat
  settings : Settings
  lif : LineIf
  btg : BeatGen
  pfu : Fetch
  se : Sound
  rd : Rumble
  bu : Budget
  ss : SaveStore
  cal : Calendar
  ps : Power
  nu : Notices
  guard : GuardPin
  pending : List Instr
  deriving DecidableEq, Repr

/-- The part right after the keep domain's reset (R161): the rail is absent and the power state is
KEEP, so that RAIL_GOOD begins the first, cold start. Core-domain fields stand at their start values
(log 4). -/
def State.reset : State where
  now := 0
  crystal := 0
  settings := defaultSettings
  lif := lineStart 4
  btg := beatStart 17556
  pfu := fetchStart
  se := soundStart
  rd := rumbleStart
  bu := budgetStart 60
  ss := storeStart
  cal := calendarStart 0 5
  ps := powerReset
  nu := noticesStart
  guard := { pinLow := false, asserted := false, timer := none }
  pending := []

end Sys2Proof.Machine
end

