-- ==== Sys2Proof/Machine/Ops.lean ====
section
/-! DEFINITION. The shared operations: the page RAM's memory, reading and replacing records of the
blocks, and the passing of time on the time base. -/

namespace Sys2Proof.Machine

/-! ### The page RAM (R1): a canonical list of cells -/

/-- Addresses strictly rising from above `lo`, and no cell equal to what an unlisted byte reads as. -/
def cellsAbove (lo : Nat) : List Host.Cell → Bool
  | [] => true
  | (a, b) :: rest => decide (lo ≤ a) && (b != Config.unwrittenByte) && cellsAbove (a + 1) rest

/-- The canonical form: equal memories are equal lists. -/
def Memory.wf (m : List Host.Cell) : Bool := cellsAbove 0 m

/-- The byte at an address; an unlisted address reads `Config.unwrittenByte`. -/
def Memory.read : List Host.Cell → Nat → Byte
  | [], _ => Config.unwrittenByte
  | (a, b) :: rest, x => if x = a then b else Memory.read rest x

/-- A cell in front of a list, unless it holds what an unlisted byte reads as. -/
def consCell (a : Nat) (b : Byte) (m : List Host.Cell) : List Host.Cell :=
  if b = Config.unwrittenByte then m else (a, b) :: m

/-- Writing one byte, keeping the canonical form. -/
def Memory.write : List Host.Cell → Nat → Byte → List Host.Cell
  | [], x, v => consCell x v []
  | (a, b) :: rest, x, v =>
    if x < a then consCell x v ((a, b) :: rest)
    else if x = a then consCell x v rest
    else (a, b) :: Memory.write rest x v

/-- Writing a run of bytes from an address upward. -/
def Memory.writeRun : List Host.Cell → Nat → List Byte → List Host.Cell
  | m, _, [] => m
  | m, x, b :: rest => Memory.writeRun (Memory.write m x b) (x + 1) rest

/-- Reading a run of bytes from an address upward. -/
def Memory.readRun (m : List Host.Cell) (x n : Nat) : List Byte :=
  (List.range n).map fun i => Memory.read m (x + i)

/-- The address of a page's first byte (R1). -/
def pageBase (p : Nat) : Nat := 256 * p

/-- A page's 256 bytes (R1). -/
def pageContent (m : List Host.Cell) (p : Nat) : List Byte := Memory.readRun m (pageBase p) 256

/-- The CRC-16 of a page's present content (R1). -/
def pageCrc (m : List Host.Cell) (p : Nat) : BitVec 16 := crcBytes (pageContent m p)

/-! ### Records of the blocks -/

/-- The Line Interface replaced. -/
def State.withLif (s : State) (x : LineIf) : State := { s with lif := x }
/-- The Beat Tracker replaced. -/
def State.withBtg (s : State) (x : BeatGen) : State := { s with btg := x }
/-- The Pattern Fetch Unit replaced. -/
def State.withPfu (s : State) (x : Fetch) : State := { s with pfu := x }
/-- The Sound Engine replaced. -/
def State.withSe (s : State) (x : Sound) : State := { s with se := x }
/-- The Rumble Driver replaced. -/
def State.withRd (s : State) (x : Rumble) : State := { s with rd := x }
/-- The Budget Unit replaced. -/
def State.withBu (s : State) (x : Budget) : State := { s with bu := x }
/-- The Save Store replaced. -/
def State.withSs (s : State) (x : SaveStore) : State := { s with ss := x }
/-- The Calendar replaced. -/
def State.withCal (s : State) (x : Calendar) : State := { s with cal := x }
/-- The Power Supervisor replaced. -/
def State.withPs (s : State) (x : Power) : State := { s with ps := x }
/-- The Notice Unit replaced. -/
def State.withNu (s : State) (x : Notices) : State := { s with nu := x }
/-- The settings in force replaced. -/
def State.withSettings (s : State) (x : Settings) : State := { s with settings := x }
/-- The GUARD pin and debouncer replaced. -/
def State.withGuard (s : State) (x : GuardPin) : State := { s with guard := x }

/-- The core domain runs: the power state is not KEEP (R164). -/
def State.powered (s : State) : Bool := s.ps.state != .keep

/-- The part serves the line: ACTIVE or DOZE (R165, R184). -/
def State.serving (s : State) : Bool := s.ps.state == .active || s.ps.state == .doze

/-- Voice `i` of the Sound Engine. -/
def State.voice (s : State) (i : Nat) : Voice := getAt s.se.voices i voiceStart

/-- Voice `i` replaced. -/
def State.withVoice (s : State) (i : Nat) (v : Voice) : State :=
  s.withSe { s.se with voices := setAt s.se.voices i v }

/-- The fetch record of player `p` (R77). -/
def State.fetchRec (s : State) (p : Nat) : FetchRec := getAt s.pfu.recs p fetchRecStart

/-- The fetch record of player `p` replaced. -/
def State.withFetchRec (s : State) (p : Nat) (r : FetchRec) : State :=
  s.withPfu { s.pfu with recs := setAt s.pfu.recs p r }

/-- Slot record `i` (R4). -/
def SaveStore.slot (x : SaveStore) (i : Nat) : Slot := getAt x.slots i emptySlot

/-- Slot record `i` replaced. -/
def SaveStore.withSlot (x : SaveStore) (i : Nat) (r : Slot) : SaveStore :=
  { x with slots := setAt x.slots i r }

/-- Page `p`'s entry of the owner table (R2). -/
def SaveStore.page (x : SaveStore) (p : Nat) : PageEntry := getAt x.owner p freePage

/-- Page `p`'s owner mark replaced. -/
def SaveStore.withMark (x : SaveStore) (p : Nat) (m : Mark) : SaveStore :=
  { x with owner := setAt x.owner p { x.page p with mark := m } }

/-- Page `p`'s check made from its present content (R1). -/
def SaveStore.makeCheck (x : SaveStore) (p : Nat) : SaveStore :=
  { x with owner := setAt x.owner p { x.page p with check := pageCrc x.ram p } }

/-! ### Time (R205; logs 2 and 3) -/

/-- `d` counts of the time base pass: the capture counts while LOCKED up to four periods (R58, R64)
and the tick timer runs down unless it is held (R61, R63). A timer that has run out waits for its
event. -/
def elapse (d : Nat) (s : State) : State :=
  { s with
    now := s.now + d
    btg := { s.btg with
      capture :=
        if s.btg.tracker = .locked then min (s.btg.capture + d) (4 * s.btg.interval)
        else s.btg.capture
      timer := if s.btg.timerHeld then s.btg.timer else s.btg.timer - d } }

/-- The time base stands at count `t` or later (log 2). -/
def reach (t : Nat) (s : State) : State := elapse (t - s.now) s

end Sys2Proof.Machine
end

