-- ==== Sys2Proof/Machine/Flags.lean ====
section
/-! DEFINITION. The Notice Unit's flags and counters (R194, R195, R198), the transmit queue (R186,
R187) and what blocks hand to it: replies (R190), notices (R193, R195), claims and the rest. -/

namespace Sys2Proof.Machine

/-! ### Statistics counters (R198) -/

/-- The sixteen counters in the order of R198: group A is 0..7, group B is 8..15. -/
inductive Stat where
  | postsSent | postsTaken | checkErrors | arbLosses | unheard | ownDamaged | queueDrops | inboxFull
  | dozeSkipped | foreignBeats | beatDuplicates | starves | clips | guardTrips | duplicatePages
  | silences
  deriving DecidableEq, Repr

/-- A counter's place (R198). -/
def Stat.index : Stat → Nat
  | .postsSent => 0 | .postsTaken => 1 | .checkErrors => 2 | .arbLosses => 3 | .unheard => 4
  | .ownDamaged => 5 | .queueDrops => 6 | .inboxFull => 7 | .dozeSkipped => 8
  | .foreignBeats => 9 | .beatDuplicates => 10 | .starves => 11 | .clips => 12
  | .guardTrips => 13 | .duplicatePages => 14 | .silences => 15

/-- A counter at 0 with its overflow flag clear. -/
def zeroCounter : Counter := { count := 0, overflow := false }

/-- One count: it rises by one, and at 65535 it stays and sets its overflow flag (R198). -/
def Counter.inc (c : Counter) : Counter :=
  if 65535 ≤ c.count then { c with overflow := true } else { c with count := c.count + 1 }

/-- The Notice Unit after one count of a counter. -/
def Notices.count (x : Notices) (st : Stat) : Notices :=
  { x with counters := setAt x.counters st.index (getAt x.counters st.index zeroCounter).inc }

/-- "Counts C" (Conventions, R198). -/
def count (st : Stat) (s : State) : State := s.withNu (s.nu.count st)

/-! ### The transmit queue (R186, R187) -/

/-- A post placed by header value, after those with an equal header (R186). -/
def placePost (p : TxPost) : List TxPost → List TxPost
  | [] => [p]
  | q :: rest => if p.header < q.header then p :: q :: rest else q :: placePost p rest

/-- A post that returns keeps its age: it stands before those with an equal header (R188). -/
def placeReturned (p : TxPost) : List TxPost → List TxPost
  | [] => [p]
  | q :: rest => if p.header ≤ q.header then p :: q :: rest else q :: placeReturned p rest

/-- A post is a CLAIM. -/
def TxPost.isClaim (p : TxPost) : Bool := p.body.kind == .claim

/-- The queue with its CLAIM replaced in place (R187). -/
def replaceClaim (p : TxPost) (q : List TxPost) : List TxPost :=
  q.map fun x => if x.isClaim then p else x

/-- A post meets a queue that may be full: it joins, or it displaces the lowest-ranked entry when its
header is lower, or it is lost; either loss counts QUEUE_DROPS once (R186). -/
def joinQueue (place : TxPost → List TxPost → List TxPost) (p : TxPost) (s : State) : State :=
  if s.lif.queue.length < Config.queuePlaces then
    s.withLif { s.lif with queue := place p s.lif.queue }
  else
    match s.lif.queue.getLast? with
    | some last =>
      if p.header < last.header then
        count .queueDrops (s.withLif { s.lif with queue := place p s.lif.queue.dropLast })
      else count .queueDrops s
    | none => s

/-- A block hands a post to the Line Interface (R186, R187). -/
def handPost (p : TxPost) (s : State) : State :=
  if p.isClaim && s.lif.queue.any TxPost.isClaim then
    s.withLif { s.lif with queue := replaceClaim p s.lif.queue }
  else joinQueue placePost p s

/-- A post that lost arbitration returns to the queue; a returning CLAIM is gone without an outcome
when a newer CLAIM has been queued (R188). -/
def returnPost (p : TxPost) (s : State) : State :=
  if p.isClaim && s.lif.queue.any TxPost.isClaim then s else joinQueue placeReturned p s

/-- A post of the part: its source is the own station (R179). -/
def State.post (s : State) (priority target : Nat) (b : Body) : TxPost :=
  { priority := priority, source := s.lif.own, target := target, body := b }

/-- The REPLY to a request: to its source, at its priority, with its kind and ask tag (R190). -/
def reply (a : Ask) (k : Kind) (c : Code) (d : ReplyData) (s : State) : State :=
  handPost (s.post a.priority a.source (.reply k a.tag c d)) s

/-- The promise of a reply: requester, tag and priority of the request (R92, R120, R133). -/
def owedTo (a : Ask) : Owed := { requester := a.source, tag := a.tag, priority := a.priority }

/-- A reply that was owed (R92, R120, R135). -/
def replyOwed (o : Owed) (k : Kind) (c : Code) (d : ReplyData) (s : State) : State :=
  handPost (s.post o.priority o.requester (.reply k o.tag c d)) s

/-! ### Raising a notice (R195) -/

/-- The priority at which a notice is formed (R195): 2 in ACTIVE, 0 in DOZE. -/
def noticePriority (p : PowerState) : Nat := if p = .active then 2 else 0

/-- "Raises N" to a station: the pending flag is set; in ACTIVE and in DOZE an enabled kind also
forms a NOTICE post (R195). -/
def raiseTo (target : Nat) (n : Notice) (s : State) : State :=
  let i := n.kind.number
  let s := s.withNu { s.nu with pendingFlags := s.nu.pendingFlags ||| BitVec.ofNat 12 (2 ^ i) }
  if s.serving && s.nu.mask.getLsbD i then
    handPost (s.post (noticePriority s.ps.state) target (.notice n)) s
  else s

/-- "Raises N" to the notice station (R193). -/
def raiseNotice (n : Notice) (s : State) : State := raiseTo s.settings.noticeStation n s

end Sys2Proof.Machine
end

