-- ==== Sys2Proof/Machine/Operands.lean ====
section
/-! DEFINITION. The operand forms of requests: what is clamped, what names an identity and what a
value out of range means (R88, R95, R118, R125, R191), and the address tests of a pattern number. -/

namespace Sys2Proof.Machine

/-- The waveform that a choice number names (R203). -/
def waveformOf : Nat → Option Waveform
  | 0 => some .pulse
  | 1 => some .triangle
  | 2 => some .noise
  | _ => none

/-- The waveform field, when present, names a waveform (R88, R95). -/
def VoiceFields.waveformOk (f : VoiceFields) : Bool :=
  match f.waveform with
  | none => true
  | some n => (waveformOf n).isSome

/-- The optional voice settings of a request, clamped as R88 lays down. -/
def VoiceFields.clamped (f : VoiceFields) : PendingChange where
  waveform := f.waveform.bind waveformOf
  duty := f.duty.map fun n => clampNat n 1 7
  attack := f.attack.map fun n => clampNat n 1 255
  decay := f.decay.map fun n => clampNat n 0 255
  sustain := f.sustain.map fun n => clampNat n 0 255
  release := f.release.map fun n => clampNat n 1 255
  transpose := f.transpose.map fun n => clampInt n (-24) 24
  level := f.level.map fun n => clampNat n 0 15

/-- A pending change record after a VOICE_SET: fields present replace, absent ones stay (R95). -/
def PendingChange.update (old new : PendingChange) : PendingChange where
  waveform := new.waveform.or old.waveform
  duty := new.duty.or old.duty
  attack := new.attack.or old.attack
  decay := new.decay.or old.decay
  sustain := new.sustain.or old.sustain
  release := new.release.or old.release
  transpose := new.transpose.or old.transpose
  level := new.level.or old.level

/-- A play priority, clamped to 3 (R88, R118, R125). -/
def playPriority (n : Nat) : Nat := min n 3

/-- The directory entry for pattern `i` does not lie below M_mem (R73). -/
def entryBeyond (st : Settings) (i : Nat) : Bool :=
  decide (st.memBytes ≤ st.dirOffset + 10 * i + 9)

/-- The stop mode of STOP_SOUND (R110): RELEASE or CUT. -/
inductive SoundStop where
  | release | cut
  deriving DecidableEq, Repr

/-- The mode that a choice number names (R110, R203). -/
def soundStopOf : Nat → Option SoundStop
  | 0 => some .release
  | 1 => some .cut
  | _ => none

/-- The repeat that a choice number names (R46, R203). -/
def repeatOf : Nat → Option Repeat
  | 0 => some .none
  | 1 => some .daily
  | 2 => some .weekly
  | _ => none

/-- The period of a repeat in seconds (R46). -/
def Repeat.seconds : Repeat → Nat
  | .none => 0
  | .daily => Config.daySeconds
  | .weekly => Config.weekSeconds

/-- The effective duty (R128): D_req under the duty cap, and under the guard duty while the guard is
TRIPPED; 0 outside DRIVE and outside ACTIVE. -/
def effectiveDuty (st : Settings) (p : PowerState) (r : Rumble) : Nat :=
  if p = .active ∧ r.mode = .drive then
    match r.guard with
    | .clear => min r.dReq r.dBudget
    | .tripped => min (min r.dReq r.dBudget) st.guardDuty
  else 0

end Sys2Proof.Machine
end

