-- ==== Sys2Proof/Machine/Calendar.lean ====
section
/-! DEFINITION. The Calendar (chapter 2): game days, local dates, requests, appointments, second steps. -/

namespace Sys2Proof.Machine

/-! ### Game days and local time (R36 to R39) -/

/-- The game day of a time (R38). -/
def Calendar.gameDay (c : Calendar) (x : Nat) : Int := ((x : Int) + 900 * c.zone - 3600 * c.hour) / 86400

/-- The present game day: absent while UNSET (R38). -/
def Calendar.today (c : Calendar) : Option Int := if c.running then some (c.gameDay c.time) else none

/-- The local seconds count (R36). -/
def Calendar.localSeconds (c : Calendar) (x : Nat) : Int := (x : Int) + 900 * c.zone

/-- Month and day from the lengths of the months and the day of the year, from 0 (R37). -/
def monthDay : List Nat → Nat → Nat → Nat × Nat
  | [], m, n => (m, n + 1)
  | l :: rest, m, n => if n < l then (m, n + 1) else monthDay rest (m + 1) (n - l)

/-- The lengths of the months (R37). -/
def monthLengths (leap : Bool) : List Nat :=
  [31, if leap then 29 else 28, 31, 30, 31, 30, 31, 31, 30, 31, 30, 31]

/-- The date of a local day number (R37): years are counted in runs of 1461 days from 2000. -/
def dateOfDay (d : Int) : Date :=
  if d < 0 then { year := 1999, month := 12, day := 31 }
  else
    let run := d.toNat / 1461
    let r := d.toNat % 1461
    let y := if r < 366 then 0 else 1 + (r - 366) / 365
    let md := monthDay (monthLengths (y == 0)) 1 (if r < 366 then r else (r - 366) % 365)
    { year := 2000 + 4 * run + y, month := md.1, day := md.2 }

/-- The local day number d (R37). -/
def Calendar.localDay (c : Calendar) (x : Nat) : Int := c.localSeconds x / 86400

/-- The local date (R37). -/
def Calendar.localDate (c : Calendar) (x : Nat) : Date := dateOfDay (c.localDay x)

/-- The local hour, minute and second (R37). -/
def Calendar.localClock (c : Calendar) (x : Nat) : Nat × Nat × Nat :=
  let n := (c.localSeconds x % 86400).toNat
  (n / 3600, n / 60 % 60, n % 60)

/-- The weekday, 0 = Sunday (R37). -/
def Calendar.weekday (c : Calendar) (x : Nat) : Nat := ((c.localDay x + 6) % 7).toNat

/-- Elapsed game days E of a stamp, with the AHEAD flag (R39). -/
def Calendar.elapsed (c : Calendar) : Option Nat → Option Nat × Bool
  | none => (none, false)
  | some x =>
    if c.running then
      let e := c.gameDay c.time - c.gameDay x
      (some e.toNat, decide (e < 0))
    else (none, false)

/-! ### Appointments (R46, R50 to R52) -/

/-- An entry placed by due, then tag (R46). -/
def placeAppointment (e : Appointment) : List Appointment → List Appointment
  | [] => [e]
  | x :: rest =>
    if x.due < e.due ∨ (x.due = e.due ∧ x.tag < e.tag) then x :: placeAppointment e rest
    else e :: x :: rest

/-- The whole periods that passed unfired (R51). -/
def Appointment.missed (e : Appointment) (now : Nat) : Nat := (now - e.due) / e.period.seconds

/-- The list after its head fired at time `now` (R51). -/
def afterFiring (e : Appointment) (now : Nat) (rest : List Appointment) : List Appointment :=
  match e.period with
  | .none => rest
  | .daily | .weekly =>
    let due := e.due + (e.missed now + 1) * e.period.seconds
    if due ≤ Config.maxTime then placeAppointment { e with due := due } rest else rest

/-- The missed count that APPOINTMENT carries (R51). -/
def reportedMissed (e : Appointment) (now : Nat) : Nat :=
  match e.period with
  | .none => 0
  | .daily | .weekly => min (e.missed now) 255

/-- The appointment check: due heads fire one after another, each at most once (R50, R51). -/
def fireDue : Nat → State → State
  | 0, s => s
  | n + 1, s =>
    match s.cal.appointments with
    | [] => s
    | e :: rest =>
      if e.due ≤ s.cal.time then
        fireDue n (s.withCal { s.cal with appointments := afterFiring e s.cal.time rest }
          |> raiseNotice (.appointment e.tag (reportedMissed e s.cal.time)))
      else s

/-- The appointment check in ACTIVE or DOZE while RUNNING (R50). -/
def appointmentCheck (s : State) : State :=
  if s.cal.running && s.serving then fireDue s.cal.appointments.length s else s

/-- The slot-emptied event: every entry linked to the slot is removed (R52). -/
def slotEmptied (slot : Nat) (s : State) : State :=
  s.withCal { s.cal with appointments := s.cal.appointments.filter fun e => e.link != some slot }

/-! ### Second steps and day turns (R32, R33, R40, R44) -/

/-- The day-turn check in ACTIVE or DOZE (R44). -/
def dayTurnCheck (s : State) : State :=
  if s.cal.running && s.serving && s.cal.lastDay != some (s.cal.gameDay s.cal.time) then
    let c := s.cal
    raiseNotice (.dayTurn (c.gameDay c.time) (c.localDate c.time) (c.weekday c.time))
      (s.withCal { c with lastDay := some (c.gameDay c.time) })
  else s

/-- T rises by one, with the trim load, the W follow and END (R32, R33, R40). -/
def Calendar.stepped (c : Calendar) : Calendar :=
  let t := c.time + 1
  { c with
    time := t, prescaler := 0
    trimUse := if t % 60 = 0 then c.trimRequested else c.trimUse
    mark := if c.mark ≤ t then t else c.mark
    ended := decide (Config.maxTime ≤ t) }

/-- A second step (R32); none occurs while UNSET or while END is set. -/
def calendarStep (s : State) : State :=
  if s.cal.running && !s.cal.ended then
    appointmentCheck (dayTurnCheck (s.withCal s.cal.stepped))
  else s

/-- L, the crystal counts of the present second (R32). -/
def Calendar.secondLength (c : Calendar) : Nat :=
  if c.time % 60 = 59 then (Config.secondCounts + c.trimUse).toNat else Config.secondCounts

/-- The next crystal count is the L-th of the present second (R32). -/
def Calendar.secondDue (c : Calendar) : Bool := decide (c.secondLength ≤ c.prescaler + 1)

/-- The prescaler at a crystal count: it counts while the Calendar is RUNNING below its maximum, and
the L-th count of a second is its second step (R32, R33). -/
def prescalerCount (s : State) : State :=
  if s.cal.running && !s.cal.ended then
    if s.cal.secondDue then calendarStep s
    else s.withCal { s.cal with prescaler := s.cal.prescaler + 1 }
  else s

/-! ### Requests (R35, R41 to R43, R47 to R49) -/

/-- CLOCK_SET's arguments lie in range (R41). -/
def clockSetOk (time : Nat) (zone : Option Int) (hour : Option Nat) : Bool :=
  decide (time ≤ Config.maxTime) &&
  (match zone with | none => true | some z => decide (-48 ≤ z ∧ z ≤ 56)) &&
  (match hour with | none => true | some h => decide (h ≤ 23))

/-- The Calendar after an accepted CLOCK_SET (R41 steps 1 to 5). -/
def Calendar.set (c : Calendar) (time : Nat) (zone : Option Int) (hour : Option Nat) : Calendar :=
  let back := c.running && decide (time < c.mark)
  let d := { c with
    running := true, time := time, prescaler := 0, ended := time == Config.maxTime,
    zone := zone.getD c.zone, hour := hour.getD c.hour,
    mark := if back then c.mark else time,
    rewound := c.rewound || back,
    rewind := if back then c.mark - time else c.rewind }
  { d with lastDay := some (d.gameDay time) }

/-- CLOCK_SET served (R41). -/
def serveClockSet (a : Ask) (time : Nat) (zone : Option Int) (hour : Option Nat) (s : State) : State :=
  if clockSetOk time zone hour then
    let s := appointmentCheck (s.withCal (s.cal.set time zone hour))
    reply a .clockSet .done
      (.clockSet s.cal.time s.cal.mark s.cal.rewound s.cal.rewind (s.cal.gameDay s.cal.time)) s
  else reply a .clockSet .badArg .none s

/-- CLOCK_ACCEPT served (R42). -/
def serveClockAccept (a : Ask) (s : State) : State :=
  if s.cal.running then
    let c := { s.cal with rewound := false, rewind := 0, mark := s.cal.time }
    reply a .clockAccept .done (.clockAccepted c.time c.mark) (s.withCal c)
  else reply a .clockAccept .unset .none s

/-- What CLOCK_READ reports (R43). -/
def Calendar.report (c : Calendar) : ClockReport where
  running := c.running
  time := c.time
  date := if c.running then some (c.localDate c.time) else none
  clock := if c.running then some (c.localClock c.time) else none
  weekday := if c.running then some (c.weekday c.time) else none
  gameDay := c.today
  zone := c.zone
  hour := c.hour
  rewound := c.rewound
  rewind := c.rewind
  mark := c.mark
  ended := c.ended
  trimUse := c.trimUse

/-- CLOCK_READ served (R43). -/
def serveClockRead (a : Ask) (s : State) : State := reply a .clockRead .done (.clock s.cal.report) s

/-- CLOCK_TRIM served (R35). -/
def serveClockTrim (a : Ask) (trim : Int) (s : State) : State :=
  let t := clampInt trim (-127) 127
  reply a .clockTrim .done (.trim t s.cal.trimUse) (s.withCal { s.cal with trimRequested := t })

/-- The entries of a list without one tag. -/
def withoutTag (tag : Nat) (l : List Appointment) : List Appointment := l.filter fun e => e.tag != tag

/-- APPOINT_SET's link names a slot that the Save Store reports EMPTY (R47 check 3). -/
def linkEmpty (s : State) : Option Nat → Bool
  | none => false
  | some k => (s.ss.slot k).state == .empty

/-- APPOINT_SET served (R47). -/
def serveAppointSet (a : Ask) (tag due period : Nat) (link : Option Nat) (s : State) : State :=
  match repeatOf period with
  | none => reply a .appointSet .badArg .none s
  | some p =>
    let others := withoutTag tag s.cal.appointments
    if 255 ≤ tag ∨ 8 ≤ link.getD 0 ∨ Config.maxTime < due then reply a .appointSet .badArg .none s
    else if ¬ s.cal.running then reply a .appointSet .unset .none s
    else if linkEmpty s link then reply a .appointSet .empty .none s
    else if Config.maxAppointments ≤ others.length then reply a .appointSet .listFull .none s
    else
      let l := placeAppointment { tag := tag, due := due, period := p, link := link } others
      reply a .appointSet .done (.entries l.length) (s.withCal { s.cal with appointments := l })

/-- APPOINT_CLEAR served (R48): tag 255 is ALL. -/
def serveAppointClear (a : Ask) (tag : Nat) (s : State) : State :=
  if 255 ≤ tag then
    reply a .appointClear .done (.entries 0) (s.withCal { s.cal with appointments := [] })
  else if s.cal.appointments.any fun e => e.tag == tag then
    let l := withoutTag tag s.cal.appointments
    reply a .appointClear .done (.entries l.length) (s.withCal { s.cal with appointments := l })
  else reply a .appointClear .noSuch .none s

/-- APPOINT_LIST served (R49). -/
def serveAppointList (a : Ask) (start : Nat) (s : State) : State :=
  if 8 ≤ start then reply a .appointList .badArg .none s
  else
    let l := s.cal.appointments
    reply a .appointList .done (.appointments l.length ((l.drop start).take 4)) s

/-! ### Starts and KEEP (R45, R53, R54) -/

/-- The game day at KEEP entry is recorded (R45). -/
def calendarKeep (s : State) : State := s.withCal { s.cal with keepDay := s.cal.today }

/-- The day turns passed, at the first entry to ACTIVE after a start (R45). -/
def Calendar.dayTurns (c : Calendar) : Nat :=
  match c.today, c.keepDay with
  | some g, some k => (g - k).toNat
  | _, _ => 0

/-- The Calendar at the first entry to ACTIVE after a start: it hands over the day turns passed, sets
the last game day and clears the game day at KEEP entry (R45). -/
def calendarActive (s : State) : State :=
  (s.withPs { s.ps with dayTurns := s.cal.dayTurns }).withCal
    { s.cal with lastDay := s.cal.today, keepDay := none }

end Sys2Proof.Machine
end

