-- ==== Sys2Proof/Machine/Clock.lean ====
section
/-! DEFINITION. The crystal's counts (R32, R162) and the count that passes while no command waits. -/

namespace Sys2Proof.Machine

/-- The coin-cell sampler's period in crystal counts (R162). -/
def Power.cellPeriod (x : Power) : Nat :=
  if x.state = .keep then Config.cellPeriodKeep else Config.cellPeriodPowered

/-- The scheduled coin-cell sample is due: the keep domain runs and the period's crystal counts have
passed since the sample before it (R161, R162). -/
def Power.sampleDue (x : Power) : Bool := x.keepSupply && decide (x.cellPeriod ≤ x.cellCount)

/-- The coin-cell sampler at a crystal count: it counts its period, and waits at its end for the sample
(R162; log 18). -/
def samplerCount (s : State) : State :=
  s.withPs { s.ps with cellCount := min (s.ps.cellCount + 1) s.ps.cellPeriod }

/-- One crystal count, for the coin-cell sampler and the Calendar's prescaler (R32, R162). -/
def crystalCount (s : State) : State := prescalerCount (samplerCount s)

/-- The second step that SECOND_STEP brings: the crystal count that completes the second. Before the
present second's last count no second step is due, and nothing happens (R32, R41; log 26). -/
def secondStep (s : State) : State :=
  if s.cal.running && !s.cal.ended && s.cal.secondDue then crystalCount s else s

/-- What the part does when no command is waiting (log 3): one count of the time base passes, every
32nd with a crystal count (2^20 Hz against 32768 Hz); in KEEP, where the oscillator is off (R205),
one crystal count while the keep supply stands (R161). -/
def idle (s : State) : State :=
  if s.powered then
    let s := elapse 1 s
    if s.crystal + 1 < 32 then { s with crystal := s.crystal + 1 }
    else crystalCount { s with crystal := 0 }
  else if s.ps.keepSupply then crystalCount s else s

end Sys2Proof.Machine
end

