-- ==== Sys2Proof/Machine/Fetch.lean ====
section
/-! DEFINITION. The Pattern Fetch Unit (chapter 4): directory cache, fetch records, step requests, the
port arbiter. Asking for a step marks the request as waiting; `grant` lets the arbiter act, and every
step of the part that may have asked ends with it (log 11). -/

namespace Sys2Proof.Machine

/-- The kind of pattern a player plays: player 0 is the rumble player (R74). -/
def playerKind (p : Nat) : PatternKind := if p = 0 then .rumble else .sound

/-! ### The directory cache (R75) -/

/-- The cached entry of a pattern. -/
def cached (c : List (Nat × DirEntry)) (i : Nat) : Option DirEntry :=
  (c.find? fun x => x.1 == i).map Prod.snd

/-- The cached entry of a pattern moved to the most recently used place. -/
def touchCache (c : List (Nat × DirEntry)) (i : Nat) : List (Nat × DirEntry) :=
  c.filter (fun x => x.1 == i) ++ c.filter (fun x => x.1 != i)

/-- A well formed entry read from the memory joins the cache: it is placed most recently used, the
least recently used of 8 leaves; a pattern already cached only moves (R75). -/
def joinCache (c : List (Nat × DirEntry)) (i : Nat) (e : DirEntry) : List (Nat × DirEntry) :=
  if (cached c i).isSome then touchCache c i else (i, e) :: c.take 7

/-! ### The port arbiter (R80) -/

/-- Player `p` has a request waiting. -/
def Fetch.waits (x : Fetch) (p : Nat) : Bool := (getAt x.recs p fetchRecStart).waiting.isSome

/-- The voices in round-robin order after the last voice granted (R80). -/
def voiceOrder (last : Nat) : List Nat := [(last + 1) % 4, (last + 2) % 4, (last + 3) % 4, last % 4]

/-- The player whose request the arbiter takes next, settings read apart (R80). -/
def nextPlayer (x : Fetch) : Option Nat :=
  if x.waits 0 then some 0
  else ((voiceOrder x.lastVoice).find? fun v => x.waits (v + 1)).map (· + 1)

/-- The number of steps a step fetch brings, fixed at its grant (R79). -/
def fetchCount (r : FetchRec) (stepCount index : Nat) : Nat :=
  if r.firstDone then min (min 4 (8 - r.buffer.length)) (stepCount - index)
  else min 8 (stepCount - index)

/-- The transaction that grants a record's waiting request (R72, R79). -/
def grantJob (st : Settings) (p : Nat) (r : FetchRec) : Option Transfer :=
  match r.waiting with
  | none => none
  | some .directory =>
    some { job := .directory p r.pattern r.playNo, address := st.dirOffset + 10 * r.pattern,
           bytes := 10 }
  | some .step =>
    match r.entry, r.cursor with
    | some e, some (j, _) =>
      let n := fetchCount r e.stepCount j
      some { job := .steps p r.playNo j n, address := e.bodyOffset + 3 * j, bytes := 3 * n }
    | _, _ => none

/-- The bytes that a transaction sends: the read command and the 24-bit byte address, most significant
byte first (R72). -/
def Transfer.sentBytes (t : Transfer) : List Byte :=
  [Config.readCommand, byteOf (t.address / 65536), byteOf (t.address / 256), byteOf t.address]

/-- The bits that a transaction sends on MOSI, each byte most significant bit first (R72). -/
def Transfer.sentBits (t : Transfer) : List Bool := bitsOfBytes t.sentBytes

/-- The clock periods of a transaction: 32 of command and address, 8 for each byte read (R72). -/
def Transfer.clockPeriods (t : Transfer) : Nat := t.sentBits.length + 8 * t.bytes

/-- The part drives chip select low: a transaction is in flight (R72). -/
def Fetch.chipSelectLow (x : Fetch) : Bool := x.port.isSome

/-- The Pattern Fetch Unit after the arbiter granted player `p`'s request: the grant of the play's
first step fetch sets its flag (R79); the round-robin position moves only for a voice (R80). -/
def Fetch.granted (st : Settings) (x : Fetch) (p : Nat) : Fetch :=
  let r := getAt x.recs p fetchRecStart
  { x with
    port := grantJob st p r
    lastVoice := if p = 0 then x.lastVoice else p - 1
    recs := setAt x.recs p
      { r with waiting := none, firstDone := r.firstDone || r.waiting == some .step } }

/-- The arbiter: while the port is free it grants the first waiting request (R80). -/
def Fetch.grant (st : Settings) (x : Fetch) : Fetch :=
  if x.port.isSome then x
  else if x.settingsWaiting then
    { x with port := some { job := .settings, address := 0, bytes := 64 }, settingsWaiting := false }
  else
    match nextPlayer x with
    | none => x
    | some p => x.granted st p

/-- The arbiter acts. -/
def grant (s : State) : State := s.withPfu (s.pfu.grant s.settings)

/-! ### Fetch records (R77 to R79) -/

/-- A request of player `p`'s play number `n` is in flight. -/
def inFlight (port : Option Transfer) (p n : Nat) : Bool :=
  match port with
  | none => false
  | some t =>
    match t.job with
    | .settings => false
    | .directory q _ m => q == p && m == n
    | .steps q m _ _ => q == p && m == n

/-- R79: an OPEN record asks for a step fetch when it has no request of its present play waiting or
in flight, its cursor is not EXHAUSTED, and its buffer holds 4 or fewer steps or its first fetch has
not been granted. -/
def wantsSteps (port : Option Transfer) (p : Nat) (r : FetchRec) : Bool :=
  r.state == .opened && r.waiting.isNone && !inFlight port p r.playNo && r.cursor.isSome &&
  (decide (r.buffer.length ≤ 4) || !r.firstDone)

/-- The check of R79, made at the open, at each delivery and each time a step leaves the buffer. -/
def askSteps (p : Nat) (s : State) : State :=
  let r := s.fetchRec p
  if wantsSteps s.pfu.port p r then s.withFetchRec p { r with waiting := some .step } else s

/-- Closing a record: NONE, buffer empty, cursor EXHAUSTED, waiting request withdrawn; its play
number is kept (R77). -/
def closeRec (p : Nat) (s : State) : State :=
  s.withFetchRec p { s.fetchRec p with
    state := .none, entry := none, buffer := [], cursor := none, waiting := none }

/-- Opening a record with the entry found: cursor at step 0, first fetch asked for (R77). -/
def openRec (p : Nat) (e : DirEntry) (s : State) : State :=
  askSteps p (s.withFetchRec p { s.fetchRec p with
    state := .opened, entry := some e, cursor := some (0, e.loopCount) })

/-- A play start: the record takes the new play number, and the lookup runs. A cache hit gives its
result at once; a miss puts the record in LOOKUP and asks for a directory fetch (R76, R77). -/
def startPlay (p pattern playNo : Nat) (s : State) : State × Option Lookup :=
  let s := s.withFetchRec p { fetchRecStart with playNo := playNo, pattern := pattern }
  match cached s.pfu.cache pattern with
  | some e =>
    let s := s.withPfu { s.pfu with cache := touchCache s.pfu.cache pattern }
    match lookupCached (playerKind p) e with
    | .valid e => (grant (openRec p e s), some (.valid e))
    | r => (s, some r)
  | none =>
    (grant (s.withFetchRec p { s.fetchRec p with state := .lookup, waiting := some .directory }),
      none)

/-- What a player's buffer answers when it asks for its next step (R83). -/
inductive StepAnswer where
  | step (x : Step)
  | ended
  | starved
  deriving DecidableEq, Repr

/-- A player asks its buffer for the next step: a step leaves the buffer and R79 is checked; a
starvation counts STARVES (R83). -/
def nextStep (p : Nat) (s : State) : StepAnswer × State :=
  let r := s.fetchRec p
  match r.buffer with
  | x :: rest => (.step x, askSteps p (s.withFetchRec p { r with buffer := rest }))
  | [] => if r.cursor.isSome then (.starved, count .starves s) else (.ended, s)

/-- The cursor after a delivery of `n` steps read from index `j` (R78). -/
def cursorAfter (e : DirEntry) (j n left : Nat) : Option (Nat × Nat) :=
  if j + n = e.stepCount then
    if 0 < left then some (e.loopStart, if left = 255 then 255 else left - 1) else none
  else some (j + n, left)

/-- A delivery into an OPEN record: the clamped steps join the buffer in index order, the cursor
moves and R79 is checked (R78, R81, R82). -/
def deliver (p j n : Nat) (bytes : List Byte) (s : State) : State :=
  let r := s.fetchRec p
  match r.entry, r.cursor with
  | some e, some (_, left) =>
    askSteps p (s.withFetchRec p { r with
      buffer := r.buffer ++ readSteps e.kind n bytes, cursor := cursorAfter e j n left })
  | _, _ => s

/-- The port becomes free (R81). -/
def freePort (s : State) : State := s.withPfu { s.pfu with port := none }

/-- At a directory fetch's completion: a well formed entry joins the cache, and the result reaches
the record that is still in LOOKUP with the same play number; otherwise it is discarded (R76). -/
def finishLookup (p pattern playNo : Nat) (bytes : List Byte) (s : State) : State × Option Lookup :=
  let raw := readEntry bytes
  let mem := s.settings.memBytes
  let s := match wellFormedEntry mem raw with
    | some e => s.withPfu { s.pfu with cache := joinCache s.pfu.cache pattern e }
    | none => s
  let r := s.fetchRec p
  if r.state = .lookup ∧ r.playNo = playNo then
    match lookupEntry mem (playerKind p) raw with
    | .valid e => (openRec p e s, some (.valid e))
    | l => (s.withFetchRec p { r with state := .none }, some l)
  else (s, none)

end Sys2Proof.Machine
end

