-- ==== Sys2Proof/Machine/Budget.lean ====
section
/-! DEFINITION. The Budget Unit's arithmetic and its recomputation (chapter 7): load functions, headroom,
caps, OVER_ALLOWANCE, the raise and the decrease of the claim. The raise-end report and the commands
stand in `Rumble.lean` and `BudgetEvents.lean`. -/

namespace Sys2Proof.Machine

/-! ### Currents (R139) -/

/-- The amplifier current at gain G. -/
def ampCurrent (st : Settings) (g : Nat) : Nat :=
  if g = 0 then 0 else st.a0 + ceilDiv (st.a1 * g) 255

/-- The motor current at duty D. -/
def motorCurrent (st : Settings) (d : Nat) : Nat := ceilDiv (st.iFull * d) 255

/-- roundup2: the least even number of mA equal to or above x, limited to 510. -/
def roundup2 (x : Nat) : Nat := min 510 (2 * ((x + 1) / 2))

/-- The least claim C_min. -/
def leastClaim (st : Settings) : Nat := roundup2 st.iCore

/-- The part's own draw estimate I_own, from the gain and duty in use (log 22). -/
def ownDraw (s : State) : Nat :=
  s.settings.iCore + ampCurrent s.settings s.se.gEff + motorCurrent s.settings s.rd.dEff

/-! ### Headroom and caps (R145 to R147) -/

/-- What an entry counts: its claim, or its previous claim while it is yielding (R145). -/
def Peer.counted (p : Peer) : Nat := if p.yielding then p.previous else p.claim

/-- P_sum, the sum of the counted values (R145). -/
def peerSum (b : Budget) : Nat := (b.peers.toList.map fun p => (p.map Peer.counted).getD 0).sum

/-- H_room = A − P_sum (R145). -/
def headroom (b : Budget) : Int := (b.allowance : Int) - peerSum b

/-- The grant base B (R145). With an odd I_core the least claim is I_core + 1, so once it is acknowledged
B − I_core is 1 with C_rel = C_min, and R146 and R147 share that 1 mA; R157 says that the caps stay at 0
there (DESIGN CHOICE: the formulas are followed, log 35). -/
def grantBase (s : State) : Int :=
  if s.ps.state ≠ .active ∨ s.bu.holding then 0 else min (headroom s.bu) s.bu.released

/-- The sound demand G_dem (R146). -/
def gainDemand (s : State) : Nat := max s.se.gTarget s.se.gEff

/-- The sound share g_s (R146). -/
def soundShare (s : State) : Nat :=
  min (ampCurrent s.settings (gainDemand s)) (grantBase s - s.settings.iCore).toNat

/-- The largest gain whose amplifier current fits in g_s (R146). -/
def ceilingFor (st : Settings) (share : Nat) : Nat :=
  if st.a1 = 0 then (if st.a0 ≤ share then 255 else 0)
  else if share < st.a0 + 1 then 0
  else min 255 ((share - st.a0) * 255 / st.a1)

/-- The gain ceiling of a recomputation (R146). -/
def gainCeiling (s : State) : Nat := ceilingFor s.settings (soundShare s)

/-- The motor share g_m (R147). -/
def motorShare (s : State) : Nat :=
  min (motorCurrent s.settings s.rd.dRes)
    (grantBase s - s.settings.iCore -
      ampCurrent s.settings (min (gainDemand s) (gainCeiling s))).toNat

/-- The duty cap D_budget of a recomputation (R147). -/
def dutyCap (s : State) : Nat := min 255 (motorShare s * 255 / s.settings.iFull)

/-- D_eff recomputed from its inputs (R128). -/
def refreshDuty (s : State) : State :=
  s.withRd { s.rd with dEff := effectiveDuty s.settings s.ps.state s.rd }

/-- The mixer records a new gain ceiling; a gain above it is cut to it at once (R109). -/
def takeCeiling (c : Nat) (s : State) : State :=
  s.withSe { s.se with gCeiling := c, gEff := min s.se.gEff c }

/-- The Rumble Driver takes a new duty cap and recomputes D_eff (R128). -/
def takeCap (c : Nat) (s : State) : State := refreshDuty (s.withRd { s.rd with dBudget := c })

/-- The caps of a recomputation are handed (R148). -/
def handCaps (s : State) : State := takeCap (dutyCap s) (takeCeiling (gainCeiling s) s)

/-- OVER_ALLOWANCE is examined, in ACTIVE and in DOZE: the flag is set while H_room is below I_core,
and each change raises the notice (R149). The recomputation that ends a start leaves it out
(`recomputeAtStart`). -/
def examineOver (s : State) : State :=
  let now := decide (headroom s.bu < s.settings.iCore)
  if s.serving && (now != s.bu.overFlag) then
    raiseNotice (.overAllowance now s.bu.allowance (peerSum s.bu) (headroom s.bu))
      (s.withBu { s.bu with overFlag := now })
  else s

/-! ### The own claim (R144, R150, R151, R154) -/

/-- Announcing a CLAIM: handed to all stations at priority 1; C_ann and the last handed time are
renewed (R144). -/
def announce (c : Nat) (s : State) : State :=
  handPost (s.post 1 Config.allStations (.claim c))
    (s.withBu { s.bu with announced := some c, handedAt := some s.now })

/-- The part's demand Q (R150). -/
def claimDemand (s : State) : Nat :=
  s.settings.iCore + ampCurrent s.settings (gainDemand s) + motorCurrent s.settings s.rd.dRes

/-- The wanted claim C_want (R150). -/
def wantedClaim (s : State) : Nat :=
  max (leastClaim s.settings) (min (roundup2 (claimDemand s) : Int) (headroom s.bu)).toNat

/-- The lower claim L (R154). -/
def lowerClaim (s : State) : Nat := max (wantedClaim s) (roundup2 (ownDraw s))

/-- A raise begins or starts over at the wanted claim (R150, R151). -/
def beginRaise (s : State) : State :=
  let c := wantedClaim s
  announce c (s.withBu { s.bu with raise := some { planned := c, settleStart := none } })

/-- The raise and decrease decisions of a recomputation in ACTIVE (R150, R151, R154). -/
def decideClaim (s : State) : State :=
  match s.bu.announced with
  | none => s
  | some ann =>
    if s.ps.state ≠ .active then s
    else match s.bu.raise with
      | some r => if r.planned < wantedClaim s then beginRaise s else s
      | none =>
        if ann < wantedClaim s then (if s.bu.listenEnd.isSome then s else beginRaise s)
        else if lowerClaim s + 4 ≤ ann ∧ s.se.gEff ≤ s.se.gTarget then
          announce (lowerClaim s) (s.withBu { s.bu with released := lowerClaim s })
        else s

/-! ### The recomputation (R145, R148) -/

/-- One recomputation: the caps are handed, OVER_ALLOWANCE is examined, and the raise and decrease
decisions follow (R145, R148). -/
def recomputeOnce (s : State) : State := decideClaim (examineOver (handCaps s))

/-- The inputs that the handing of caps and the decisions can change (R145). -/
def budgetEcho (s : State) : Nat × Nat × Nat := (s.se.gEff, s.rd.dEff, s.bu.released)

/-- A recomputation by `pass`, and a further one while a value handed back or a new C_rel calls for it
(R145, R148; log 12). -/
def recomputeUpTo (pass : State → State) : Nat → State → State
  | 0, s => s
  | n + 1, s =>
    let t := pass s
    if budgetEcho t = budgetEcho s then t else recomputeUpTo pass n t

/-- "The BU recomputes" (R145). -/
def recompute (s : State) : State := recomputeUpTo recomputeOnce 8 s

/-- One recomputation of a start: OVER_ALLOWANCE is not examined, since a start does not raise the notice
and the flag is clear at every start (R149). -/
def recomputeOnceAtStart (s : State) : State := decideClaim (handCaps s)

/-- The recomputation at the entry to ACTIVE that ends a start (R157 step 3, R149). The next recomputation
is the first that may find H_room below I_core (DEDUCED, log 33). -/
def recomputeAtStart (s : State) : State := recomputeUpTo recomputeOnceAtStart 8 s

end Sys2Proof.Machine
end

