-- ==== Sys2Proof/Machine/Rumble.lean ====
section
/-! DEFINITION. The Rumble Driver (chapter 6): plays, steps, steady rumble, heat guard, overcurrent and
the motor check, with the raise-end reports of the Budget Unit (R121, R153). -/

namespace Sys2Proof.Machine

/-! ### The player's record (R116, R117) -/

/-- A running play: STARTING, PLAYING, STARVED or STEADY (R117). -/
def Rumble.running (r : Rumble) : Bool :=
  match r.player with
  | .starting | .playing | .starved | .steady => true
  | .idle | .braking | .checking | .faulted => false

/-- The player holds a play: it is running or BRAKING (R119). -/
def Rumble.holdsPlay (r : Rumble) : Bool := r.running || r.player == .braking

/-- The drive at rest: OFF, with D_req, D_res and D_eff at 0 (R117). -/
def Rumble.stilled (r : Rumble) : Rumble := { r with mode := .off, dReq := 0, dRes := 0, dEff := 0 }

/-- On-cycles of the 2048-cycle motor PWM period (R115). -/
def Rumble.onCycles (r : Rumble) : Nat := if r.mode = .drive then 2048 * r.dEff / 255 else 0

/-- A play ends (R127): RUMBLE_END is raised to its requester when its flag is set and it was
confirmed. A BRAKING play carries the reason recorded when its braking began. -/
def endRumble (why : EndReason) (s : State) : State :=
  let r := s.rd
  let reason := if r.player = .braking then r.endReason.getD why else why
  if r.holdsPlay && r.owed.isNone && r.endNotice then
    raiseTo r.requester
      (.rumbleEnd r.playNo r.kind (if r.kind = .pattern then some r.pattern else none) reason) s
  else s

/-- An owed lookup reply is answered CANCELLED (R120). -/
def cancelRumbleOwed (s : State) : State :=
  match s.rd.owed with
  | none => s
  | some o => replyOwed o .playRumble .cancelled .none (s.withRd { s.rd with owed := none })

/-- The player becomes IDLE or FAULTED with the drive at rest. -/
def restRumble (p : PlayerState) (s : State) : State :=
  s.withRd { s.rd.stilled with player := p }

/-- The braking is over: the play ends with its recorded reason, the drive is OFF, the player IDLE
(R124, R126). -/
def finishBraking (s : State) : State := restRumble .idle (endRumble .finished s)

/-- The player becomes BRAKING with an ending reason; with a brake-ticks setting of 0 it becomes IDLE
at once (R124). -/
def enterBraking (why : EndReason) (s : State) : State :=
  let s := closeRec 0 s
  let s := s.withRd { s.rd with
    player := .braking, endReason := some why, mode := .brake, dReq := 0, dRes := 0, dEff := 0,
    brakeLeft := s.settings.brakeTicks }
  if s.settings.brakeTicks = 0 then finishBraking s else s

/-! ### Steps (R122, R123) -/

/-- D_req at position j of a ramp (R123). -/
def Ramp.duty (r : Ramp) : Nat :=
  ((r.start : Int) + truncDiv (((r.target : Int) - r.start) * r.position) r.length).toNat

/-- A step begins with its full length and takes effect by its flags; its duty is held to the peak
duty (R123). -/
def beginRumbleStep (x : Step) (s : State) : State :=
  match x with
  | .sound _ _ _ _ => s
  | .rumble duty length ramp brake =>
    let d := min duty s.rd.peak
    let r := { s.rd with player := .playing, ticksLeft := length }
    refreshDuty (s.withRd
      (if brake then { r with mode := .brake, dReq := 0, ramp := none }
      else if ramp then
        let q : Ramp := { start := r.dReq, target := d, position := 1, length := length }
        { r with mode := .drive, ramp := some q, dReq := q.duty }
      else { r with mode := .drive, dReq := d, ramp := none }))

/-- The player asks its buffer for the next step (R83, R122). -/
def takeRumbleStep (s : State) : State :=
  match nextStep 0 s with
  | (.step x, s) => beginRumbleStep x s
  | (.ended, s) => enterBraking .finished s
  | (.starved, s) => s.withRd { s.rd with player := .starved }

/-- A play leaves STARTING when its raise has ended and, for a pattern, its first delivery has come
(R121, R125). -/
def tryStart (s : State) : State :=
  if s.rd.player = .starting ∧ s.rd.raiseEnded ∧ s.rd.owed = none then
    match s.rd.kind with
    | .steady =>
      refreshDuty (s.withRd { s.rd with player := .steady, mode := .drive, dReq := s.rd.steadyDuty })
    | .pattern => if (s.fetchRec 0).buffer.isEmpty then s else takeRumbleStep s
  else s

/-- A delivery reaches the player's buffer: a STARVED player begins the first delivered step, a
STARTING one begins when its raise has ended (R83, R121, R122). -/
def rumbleDelivery (s : State) : State :=
  if s.rd.player = .starved then (if (s.fetchRec 0).buffer.isEmpty then s else takeRumbleStep s)
  else tryStart s

/-! ### The motor check's end (R134, R135) -/

/-- The result code of MOTOR_CHECK's reply (R135). -/
def checkCode : CheckOutcome → Option FailReason → Code
  | .normal, _ => .done
  | .openMotor, _ => .done
  | .shortMotor, _ => .done
  | .failed, some .noHeadroom => .noHeadroom
  | .failed, some .guardTrip => .busy
  | .failed, _ => .cancelled

/-- The state that a check came from (R133). -/
def MotorCheck.cameFrom (c : MotorCheck) : PlayerState := if c.cameFaulted then .faulted else .idle

/-- The check ends: the drive is at rest, the context is removed and the reply is sent (R134,
R135). -/
def endCheck (c : MotorCheck) (o : CheckOutcome) (why : Option FailReason) (cur : Option Nat)
    (fault : Option (FaultCause × Nat)) (after : PlayerState) (s : State) : State :=
  replyOwed c.owed .motorCheck (checkCode o why) (.check o why cur after)
    (s.withRd { s.rd.stilled with player := after, lastFault := fault, check := none })

/-- The check ends FAILED: the player returns to the state it came from, the last fault stays (R132,
R134). -/
def failCheck (why : FailReason) (s : State) : State :=
  match s.rd.check with
  | none => s
  | some c => endCheck c .failed (some why) none s.rd.lastFault c.cameFrom s

/-! ### Raise-end reports (R121, R133, R153) -/

/-- The Rumble Driver takes a raise-end report for its present D_res. -/
def takeReport (s : State) : State :=
  let s := s.withRd { s.rd with raiseEnded := true }
  match s.rd.check with
  | some c =>
    if c.driveStart.isSome then s
    else if s.rd.dBudget < s.settings.testDuty then failCheck .noHeadroom s
    else refreshDuty (s.withRd { s.rd with
      check := some { c with driveStart := some s.now }, mode := .drive,
      dReq := s.settings.testDuty })
  | none => tryStart s

/-- What the Sound Engine and the Rumble Driver hand to the Budget Unit (R129, R145). -/
def budgetInputs (s : State) : Nat × Nat × Nat × Nat :=
  (s.se.gTarget, s.se.gEff, s.rd.dRes, s.rd.dEff)

/-- The Budget Unit recomputes when a value handed to it has changed since `s₀` (R145). -/
def recomputeSince (s₀ s : State) : State :=
  if budgetInputs s₀ = budgetInputs s then s else recompute s

/-- The report and the recomputation that the values it changes call for. -/
def report (s : State) : State := recomputeSince s (takeReport s)

/-- A waiting reserved duty can be reported: no raise is in progress and the listen period is over
(R153). -/
def State.reportable (s : State) : Bool :=
  decide (0 < s.rd.dRes) && s.ps.state == .active && s.bu.raise.isNone && s.bu.listenEnd.isNone

/-- The Budget Unit follows a step of the other blocks that began at `s₀`: it recomputes when a value
handed to it has changed, and hands the raise-end report for a new D_res that started no raise
(R145, R153). -/
def budgetFollow (s₀ s : State) : State :=
  let t := recomputeSince s₀ s
  if s.rd.dRes ≠ s₀.rd.dRes ∧ t.reportable then report t else t

/-! ### Requests (R118 to R120, R125, R126, R133) -/

/-- The reply of a FAULTED player: its last fault (R132). -/
def faultData (f : Option (FaultCause × Nat)) : ReplyData :=
  match f with
  | none => .none
  | some (cause, cur) => .lastFault cause cur

/-- Tests 3 to 5 of R118: the first that fails gives the reply. -/
def rumbleRefusal (r : Rumble) (priority : Nat) : Option (Code × ReplyData) :=
  if r.player = .faulted then some (.motorFault, faultData r.lastFault)
  else if r.player = .checking then some (.busy, .none)
  else if r.running && decide (priority < r.priority) then some (.busy, .none)
  else none

/-- The player record at the taking of a new play (R119 steps 3 to 5). -/
def Rumble.taken (r : Rumble) (requester : Nat) (kind : PlayKind) (pattern priority : Nat)
    (endNotice : Bool) : Rumble :=
  { r.stilled with
    player := .starting, kind := kind, pattern := pattern, playNo := (r.playNo + 1) % 256,
    priority := priority, requester := requester, endNotice := endNotice, owed := none,
    raiseEnded := false, ticksLeft := 0, ramp := none, brakeLeft := 0, endReason := none }

/-- Taking the player for a new play (R119 steps 1 to 5); D_res 0 is handed to the Budget Unit. -/
def takePlayer (a : Ask) (kind : PlayKind) (pattern priority : Nat) (endNotice : Bool)
    (s : State) : State :=
  let t := closeRec 0 (cancelRumbleOwed (endRumble .replaced s))
  budgetFollow s (t.withRd (t.rd.taken a.source kind pattern priority endNotice))

/-- A lookup result reaches the player (R120). -/
def rumbleResult (l : Lookup) (s : State) : State :=
  match s.rd.owed with
  | none => s
  | some o =>
    let s := s.withRd { s.rd with owed := none }
    match l with
    | .valid e =>
      let s := replyOwed o .playRumble .done (.rumblePlay s.rd.playNo s.rd.priority e.peakDuty)
        (s.withRd { s.rd with peak := e.peakDuty, dRes := e.peakDuty,
                              raiseEnded := s.rd.raiseEnded || e.peakDuty == 0 })
      tryStart s
    | .noSuch => replyOwed o .playRumble .noSuch .none (restRumble .idle s)
    | .badPattern => replyOwed o .playRumble .badPattern .none (restRumble .idle s)

/-- PLAY_RUMBLE served (R118 to R120). -/
def servePlayRumble (a : Ask) (pattern priority : Nat) (endNotice : Bool) (s : State) : State :=
  let priority := playPriority priority
  if s.settings.dirCount ≤ pattern then reply a .playRumble .badArg .none s
  else if entryBeyond s.settings pattern then reply a .playRumble .noSuch .none s
  else match rumbleRefusal s.rd priority with
    | some (c, d) => reply a .playRumble c d s
    | none =>
      let s := takePlayer a .pattern pattern priority endNotice s
      let s := s.withRd { s.rd with owed := some (owedTo a) }
      match startPlay 0 pattern s.rd.playNo s with
      | (t, none) => t
      | (t, some l) => grant (budgetFollow t (rumbleResult l t))

/-- STEADY_RUMBLE served (R125). It carries no pattern: the pattern field keeps the number of the play
before it (DESIGN CHOICE, log 32). -/
def serveSteadyRumble (a : Ask) (duty duration priority : Nat) (endNotice : Bool)
    (s : State) : State :=
  let priority := playPriority priority
  match rumbleRefusal s.rd priority with
  | some (c, d) => reply a .steadyRumble c d s
  | none =>
    let s := takePlayer a .steady s.rd.pattern priority endNotice s
    let t := reply a .steadyRumble .done (.steadyPlay s.rd.playNo duty duration priority)
      (s.withRd { s.rd with
        steadyDuty := duty, duration := if duration = 0 then none else some duration, dRes := duty,
        raiseEnded := s.rd.raiseEnded || duty == 0 })
    budgetFollow s (tryStart t)

/-- STOP_RUMBLE's effect on the player by its state; `coast` is the mode COAST (R126). -/
def stopPlayer (coast : Bool) (s : State) : State :=
  match s.rd.player with
  | .idle | .faulted | .checking => s
  | .braking => if coast then finishBraking s else s
  | .starting | .playing | .starved | .steady =>
    if s.rd.owed.isSome then restRumble .idle (closeRec 0 (cancelRumbleOwed s))
    else if coast then
      let s := closeRec 0 (endRumble .stopped s)
      restRumble .idle (s.withRd { s.rd with endReason := some .stopped })
    else enterBraking .stopped s

/-- STOP_RUMBLE served (R126): mode BRAKE 0, COAST 1. -/
def serveStopRumble (a : Ask) (mode : Nat) (s : State) : State :=
  if 2 ≤ mode then reply a .stopRumble .badArg .none s
  else
    let t := stopPlayer (mode == 1) s
    grant (budgetFollow s (reply a .stopRumble .done
      (.rumbleStop (t.rd.player != s.rd.player) t.rd.player) t))

/-- MOTOR_CHECK served (R133). -/
def serveMotorCheck (a : Ask) (s : State) : State :=
  if (s.rd.player = .idle ∨ s.rd.player = .faulted) ∧ s.rd.guard = .clear then
    budgetFollow s (s.withRd { s.rd with
      player := .checking, dRes := s.settings.testDuty,
      check := some { owed := (owedTo a), cameFaulted := s.rd.player == .faulted, driveStart := none,
                      sum := 0, count := 0 } })
  else reply a .motorCheck .busy .none s

/-! ### Ticks (R122, R124, R125, R130) -/

/-- The step, ramp, brake and duration work of a tick in ACTIVE (R117). -/
def rumbleStepWork (s : State) : State :=
  let r := s.rd
  match r.player with
  | .playing =>
    let left := r.ticksLeft - 1
    if left = 0 then takeRumbleStep (s.withRd { r with ticksLeft := 0 })
    else match r.ramp with
      | none => s.withRd { r with ticksLeft := left }
      | some q =>
        let q := { q with position := q.position + 1 }
        refreshDuty (s.withRd { r with ticksLeft := left, ramp := some q, dReq := q.duty })
  | .steady =>
    match r.duration with
    | none => s
    | some n =>
      let s := s.withRd { r with duration := some (n - 1) }
      if n - 1 = 0 then enterBraking .finished s else s
  | .braking =>
    let s := s.withRd { r with brakeLeft := r.brakeLeft - 1 }
    if r.brakeLeft - 1 = 0 then finishBraking s else s
  | .idle | .starting | .starved | .checking | .faulted => s

/-- The heat estimate after a tick (R130). -/
def heatAfter (st : Settings) (r : Rumble) : Nat :=
  clampNat (r.heat + r.dEff - st.coolRate) 0 65535

/-- The guard state is examined (R130); a trip ends a check in its DRIVE phase (R134). -/
def examineGuard (s : State) : State :=
  let r := s.rd
  if r.guard = .clear ∧ s.settings.hTrip ≤ r.heat then
    let s := raiseNotice (.motorGuard .tripped r.heat)
      (count .guardTrips (refreshDuty (s.withRd { r with guard := .tripped })))
    if (r.check.bind MotorCheck.driveStart).isSome then failCheck .guardTrip s else s
  else if r.guard = .tripped ∧ r.heat ≤ s.settings.hClear then
    raiseNotice (.motorGuard .clear r.heat) (refreshDuty (s.withRd { r with guard := .clear }))
  else s

/-- The heat update of a tick in ACTIVE or DOZE (R130). -/
def heatTick (s : State) : State :=
  examineGuard (s.withRd { s.rd with heat := heatAfter s.settings s.rd })

/-- A tick of the Rumble Driver in ACTIVE (R117, R130). -/
def rumbleTick (s : State) : State := heatTick (rumbleStepWork s)

/-! ### The motor current sense and the check's drive (R131, R134) -/

/-- The overcurrent trip (R131); in a check it ends the check SHORT (R134, log 30). -/
def overcurrent (cur : Nat) (s : State) : State :=
  let fault := Notice.motorFault cur
  match s.rd.check with
  | some c =>
    raiseNotice fault
      (endCheck c .shortMotor none (some cur) (some (.shortMotor, cur)) .faulted s)
  | none =>
    let s := closeRec 0 (endRumble .fault s)
    raiseNotice fault
      (restRumble .faulted (s.withRd { s.rd with lastFault := some (.overcurrent, cur) }))

/-- A sample of the motor current (R131): it is taken in DRIVE with D_eff above 0, saturates at 511,
and joins the check's sum from 10,486 counts after the drive start (R134). -/
def senseSample (current : Nat) (s : State) : State :=
  let cur := min current 511
  if s.rd.mode = .drive ∧ 0 < s.rd.dEff then
    if s.settings.overTrip < cur then overcurrent cur s
    else match s.rd.check with
      | none => s
      | some c =>
        match c.driveStart with
        | none => s
        | some t =>
          if t + Config.checkWindowCounts ≤ s.now then
            s.withRd { s.rd with check := some { c with sum := c.sum + cur, count := c.count + 1 } }
          else s
  else s

/-- The verdict on a measured current (R134). -/
def checkVerdict (st : Settings) (cur : Nat) : CheckOutcome :=
  if cur < st.openThreshold then .openMotor
  else if st.shortThreshold < cur then .shortMotor
  else .normal

/-- The check's 20 ms drive is over (R134). -/
def finishCheck (c : MotorCheck) (s : State) : State :=
  if c.count = 0 then failCheck .noHeadroom s
  else
    let cur := min (c.sum / c.count) 511
    match checkVerdict s.settings cur with
    | .openMotor =>
      endCheck c .openMotor none (some cur) (some (.openMotor, cur)) .faulted s
    | .shortMotor =>
      endCheck c .shortMotor none (some cur) (some (.shortMotor, cur)) .faulted s
    | .normal => endCheck c .normal none (some cur) none .idle s
    | .failed => s

/-! ### Entry to DOZE (R136) -/

/-- The Rumble Driver stops the motor at the entry to DOZE and at OFF_SOON (R136). The Budget Unit's
own part of that entry recomputes with the values handed here (log 10). -/
def rumbleDoze (s : State) : State :=
  let s := closeRec 0 (failCheck .power (cancelRumbleOwed (endRumble .power s)))
  restRumble (if s.rd.player = .faulted then .faulted else .idle) s

end Sys2Proof.Machine
end

