-- ==== Sys2Proof/Machine/Sound.lean ====
section
/-! DEFINITION. The Sound Engine (chapter 5): plays, notes, waveforms, envelopes, mixing, gain. -/

namespace Sys2Proof.Machine

/-! ### Notes and waves (R97 to R99, R104) -/

/-- The note table, octave by octave (R97): round(440 × 2^((n − 57)/12) × 512). -/
def noteTable : List Nat :=
  [8372, 8870, 9397, 9956, 10548, 11175, 11840, 12544, 13290, 14080, 14917, 15804] ++
  [16744, 17740, 18795, 19912, 21096, 22351, 23680, 25088, 26580, 28160, 29834, 31609] ++
  [33488, 35479, 37589, 39824, 42192, 44701, 47359, 50175, 53159, 56320, 59669, 63217] ++
  [66976, 70959, 75178, 79649, 84385, 89402, 94719, 100351, 106318, 112640, 119338, 126434] ++
  [133952, 141918, 150356, 159297, 168769, 178805, 189437, 200702, 212636, 225280, 238676, 252868] ++
  [267905, 283835, 300713, 318594, 337539, 357610, 378874, 401403, 425272, 450560, 477352, 505737] ++
  [535809, 567670, 601425, 637188, 675077, 715219, 757749, 802807, 850544, 901120, 954703, 1011473] ++
  [1071618, 1135340, 1202851, 1274376, 1350154, 1430439, 1515497, 1605613, 1701088, 1802240, 1909407, 2022946]

/-- The increment of a sounding note (R97). -/
def noteIncrement (n : Nat) : Nat := noteTable.getD n 0

/-- The sounding note n′ = clamp(n + t, 0, 95) (R97). -/
def soundingNote (n : Nat) (t : Int) : Nat := (clampInt (n + t) 0 95).toNat

/-- The voice with its increment taken from the note table (R97). -/
def Voice.retuned (v : Voice) : Voice :=
  { v with increment := noteIncrement (soundingNote v.note v.transpose) }

/-- One shift of the noise register (R99). -/
def noiseShift (x : BitVec 15) : BitVec 15 :=
  (x >>> 1) ||| (if x.getLsbD 0 != x.getLsbD 1 then 0x4000#15 else 0#15)

/-- The oscillator at an audio sample: the phase rises, and a phase wrap shifts the noise register
(R98, R99). -/
def Voice.advance (v : Voice) : Voice :=
  let sum := v.phase + v.increment
  { v with phase := sum % 16777216, noise := if 16777216 ≤ sum then noiseShift v.noise else v.noise }

/-- The wave value w (R98). -/
def Voice.wave (v : Voice) : Int :=
  match v.waveform with
  | .pulse => if v.phase / 2097152 < v.duty then 127 else -128
  | .triangle =>
    let t := v.phase / 65536
    if t < 128 then 2 * (t : Int) - 128 else 383 - 2 * (t : Int)
  | .noise => if v.noise.getLsbD 0 then 127 else -128

/-- The loudness scale L = floor(s × v / 15) (R101). -/
def Voice.loudness (v : Voice) : Nat := v.stepLevel * v.level / 15

/-- The contribution of a voice to a sample (R104). -/
def Voice.contribution (v : Voice) : Int :=
  if v.state = .idle then 0 else truncDiv (v.wave * v.env * v.loudness) 1024

/-! ### Pending changes (R95, R96) -/

/-- The settings present in a change record replace the voice's settings (R91, R96). -/
def Voice.withSettings (v : Voice) (c : PendingChange) : Voice :=
  { v with
    waveform := c.waveform.getD v.waveform, duty := c.duty.getD v.duty,
    attack := c.attack.getD v.attack, decay := c.decay.getD v.decay,
    sustain := c.sustain.getD v.sustain, release := c.release.getD v.release,
    transpose := c.transpose.getD v.transpose, level := c.level.getD v.level }

/-- The pending change record is applied and emptied; a new transpose recomputes the increment
(R96). -/
def Voice.applyChange (v : Voice) : Voice :=
  let w := { v.withSettings v.change with change := {} }
  if v.change.transpose.isSome then w.retuned else w

/-! ### Ending a play (R102, R110, R111) -/

/-- A confirmed play ends: CUE_END is raised to its requester when its flag is set (R111). -/
def endCue (i : Nat) (why : EndReason) (s : State) : State :=
  let v := s.voice i
  if v.state != .idle && v.owed.isNone && v.endNotice then
    raiseTo v.requester (.cueEnd i v.playNo v.pattern why) s
  else s

/-- A voice becomes IDLE with its envelope OFF at 0 (R87, R103). -/
def restVoice (i : Nat) (s : State) : State :=
  s.withVoice i { s.voice i with state := .idle, stage := .off, env := 0 }

/-- A voice's play ends with a reason and the voice becomes IDLE. -/
def finishVoice (i : Nat) (why : EndReason) (s : State) : State := restVoice i (endCue i why s)

/-- An owed lookup reply is answered CANCELLED (R93). -/
def cancelVoiceOwed (i : Nat) (s : State) : State :=
  match (s.voice i).owed with
  | none => s
  | some o =>
    replyOwed o .playSound .cancelled .none (s.withVoice i { s.voice i with owed := none })

/-- A voice closes its fetch record and becomes RELEASING from its present level, or IDLE at once
when the level is already 0 (R102, R110, R111). -/
def releaseVoice (i : Nat) (why : EndReason) (s : State) : State :=
  let s := closeRec (i + 1) s
  let s := s.withVoice i { s.voice i with endReason := some why }
  if (s.voice i).env = 0 then finishVoice i why s
  else s.withVoice i { s.voice i with state := .releasing, stage := .release }

/-! ### Steps (R94, R100, R101) -/

/-- The note of a beginning step takes effect (R101): note 0..95, rest 126, tie 127. -/
def Voice.beginNote (v : Voice) (note level : Nat) (retrigger : Bool) : Voice :=
  if note = 127 then v
  else if note = 126 then
    { v with stage := .release, lastRest := true }
  else
    let w := { v with note := note, stepLevel := level }.retuned
    if retrigger || v.lastRest then { w with stage := .attack, env := 0, lastRest := false }
    else { w with lastRest := false }

/-- A step begins with its full length; the voice is PLAYING (R94, R100). -/
def beginSoundStep (i : Nat) (x : Step) (s : State) : State :=
  match x with
  | .rumble _ _ _ _ => s
  | .sound note length level retrigger =>
    s.withVoice i
      ({ s.voice i with state := .playing, ticksLeft := length }.beginNote note level retrigger)

/-- The voice asks its buffer for the next step (R83, R100, R102). -/
def takeSoundStep (i : Nat) (s : State) : State :=
  match nextStep (i + 1) s with
  | (.step x, s) => beginSoundStep i x s
  | (.ended, s) => releaseVoice i .finished s
  | (.starved, s) => s.withVoice i { s.voice i with state := .starved }

/-- A delivery reaches the voice's buffer: a STARTING or STARVED voice begins the first delivered
step (R83, R94, R102). -/
def soundDelivery (i : Nat) (s : State) : State :=
  let v := s.voice i
  if (v.state = .starting ∨ v.state = .starved) ∧ ¬ (s.fetchRec (i + 1)).buffer.isEmpty then
    takeSoundStep i s
  else s

/-! ### Ticks (R96, R100, R103, R108) -/

/-- The envelope moves one step (R103). -/
def Voice.moveEnvelope (v : Voice) : Voice :=
  match v.stage with
  | .attack =>
    let e := min 255 (v.env + v.attack)
    { v with env := e, stage := if e = 255 then .decay else .attack }
  | .decay =>
    let e := max v.sustain (v.env - v.decay)
    { v with env := e, stage := if e = v.sustain then .sustain else .decay }
  | .sustain => v
  | .release =>
    let e := v.env - v.release
    { v with env := e, stage := if e = 0 then .off else .release }
  | .off => { v with env := 0 }

/-- The envelope work of a tick: PLAYING and RELEASING voices move; a RELEASING voice whose envelope
is OFF becomes IDLE and its play ends with the recorded reason (R103, R111). -/
def envelopeTick (i : Nat) (s : State) : State :=
  let v := s.voice i
  if v.state = .playing then s.withVoice i v.moveEnvelope
  else if v.state = .releasing then
    let s := s.withVoice i v.moveEnvelope
    if (s.voice i).stage = .off then finishVoice i (v.endReason.getD .finished) s else s
  else s

/-- The step work of a tick (R100). -/
def soundStepWork (i : Nat) (s : State) : State :=
  let v := s.voice i
  if v.state = .playing then
    let s := s.withVoice i { v with ticksLeft := v.ticksLeft - 1 }
    if v.ticksLeft - 1 = 0 then takeSoundStep i s else s
  else s

/-- A tick of one voice: pending changes, step work, envelope work (R96, R100, R103). -/
def voiceTick (i : Nat) (s : State) : State :=
  envelopeTick i (soundStepWork i (s.withVoice i (s.voice i).applyChange))

/-- The gain moves by at most 8 toward min(G_target, G_ceiling) and the clip window opens (R108). -/
def Sound.slew (x : Sound) : Sound :=
  let goal := min x.gTarget x.gCeiling
  { x with
    gEff := if x.gEff < goal then min (x.gEff + 8) goal else max (x.gEff - 8) goal
    clipOpen := true }

/-- A tick of the Sound Engine in ACTIVE: voices 0 to 3, then the mixer (R87, R108; log 11). -/
def soundTick (s : State) : State :=
  let s := voiceTick 3 (voiceTick 2 (voiceTick 1 (voiceTick 0 s)))
  s.withSe s.se.slew

/-! ### Samples (R98, R105, R106) -/

/-- The sum S of the four contributions (R105). -/
def mixSum (x : Sound) : Int := (x.voices.toList.map Voice.contribution).sum

/-- out before it is saturated (R105). -/
def mixOut (x : Sound) : Int := truncDiv (mixSum x * x.gEff) 256

/-- An audio sample: the oscillators advance in every voice state; in ACTIVE the mixer forms the
compare value and counts the first clipped sample of a tick interval, elsewhere it is held at 512
(R98, R105, R106; log 21). -/
def audioSample (s : State) : State :=
  let x := { s.se with voices := s.se.voices.map Voice.advance }
  if s.ps.state = .active then
    let out := clampInt (mixOut x) (-512) 511
    let clipped := out != mixOut x
    let s := if clipped && x.clipOpen then count .clips s else s
    s.withSe { x with compare := (out + 512).toNat, clipOpen := x.clipOpen && !clipped }
  else s.withSe { x with compare := 512 }

/-! ### Requests (R88 to R93, R95, R107, R110) -/

/-- A play's age in ticks (R90). -/
def playAge (counter : Nat) (v : Voice) : Nat := (counter + 4294967296 - v.startedAt) % 4294967296

/-- The voice of a list with the least key, the lowest-numbered among equals; the list is in
rising order. -/
def leastBy (key : Nat → Nat) : List Nat → Option Nat
  | [] => none
  | i :: rest =>
    match leastBy key rest with
    | none => some i
    | some j => if key j < key i then some j else some i

/-- The voice that a request for ANY takes (R90). -/
def anyVoice (s : State) (priority : Nat) : Option Nat :=
  let all := [0, 1, 2, 3]
  match all.find? fun i => (s.voice i).state == .idle with
  | some i => some i
  | none =>
    match leastBy (fun i => (s.voice i).env) (all.filter fun i => (s.voice i).state == .releasing) with
    | some i => some i
    | none =>
      leastBy (fun i => 4294967296 - playAge s.btg.tickCounter (s.voice i))
        (all.filter fun i => decide ((s.voice i).priority ≤ priority))

/-- The voice that a request takes: a named one (R89) or ANY (R90). -/
def chooseVoice (s : State) (voice priority : Nat) : Option Nat :=
  if voice = 4 then anyVoice s priority
  else if (s.voice voice).state = .idle ∨ (s.voice voice).priority ≤ priority then some voice
  else none

/-- The voice record at the taking of a new play (R91 steps 2 to 7). -/
def Voice.taken (v : Voice) (a : Ask) (pattern priority : Nat) (endNotice : Bool) (tick : Nat)
    (f : PendingChange) : Voice :=
  { v.applyChange.withSettings f with
    playNo := (v.playNo + 1) % 256, pattern := pattern, priority := priority,
    requester := a.source, endNotice := endNotice, startedAt := tick,
    phase := 0, noise := 0x7FFF, ticksLeft := 0, stepLevel := 0, lastRest := true,
    stage := .off, env := 0, endReason := none, state := .starting, owed := some (owedTo a) }

/-- The values in use that DONE carries (R92). -/
def Voice.inUse (v : Voice) : VoiceInUse where
  waveform := v.waveform
  duty := v.duty
  attack := v.attack
  decay := v.decay
  sustain := v.sustain
  release := v.release
  transpose := v.transpose
  level := v.level

/-- A lookup result reaches a voice (R92). -/
def soundResult (i : Nat) (l : Lookup) (s : State) : State :=
  let v := s.voice i
  match v.owed with
  | none => s
  | some o =>
    let s := s.withVoice i { v with owed := none }
    match l with
    | .valid _ => replyOwed o .playSound .done (.soundPlay i v.playNo v.priority v.inUse) s
    | .noSuch => replyOwed o .playSound .noSuch .none (restVoice i s)
    | .badPattern => replyOwed o .playSound .badPattern .none (restVoice i s)

/-- Taking a voice and starting its play (R91). -/
def takeVoice (a : Ask) (i pattern priority : Nat) (endNotice : Bool) (f : PendingChange)
    (s : State) : State :=
  let s := cancelVoiceOwed i (endCue i .replaced s)
  let s := s.withVoice i
    ((s.voice i).taken a pattern priority endNotice s.btg.tickCounter f)
  match startPlay (i + 1) pattern (s.voice i).playNo s with
  | (s, none) => s
  | (s, some l) => soundResult i l s

/-- PLAY_SOUND served (R88): voice 4 is ANY. -/
def servePlaySound (a : Ask) (voice pattern priority : Nat) (endNotice : Bool) (f : VoiceFields)
    (s : State) : State :=
  let priority := playPriority priority
  if 5 ≤ voice ∨ ¬ VoiceFields.waveformOk f then reply a .playSound .badArg .none s
  else if s.settings.dirCount ≤ pattern then reply a .playSound .badArg .none s
  else if entryBeyond s.settings pattern then reply a .playSound .noSuch .none s
  else match chooseVoice s voice priority with
    | none => reply a .playSound .busy .none s
    | some i => takeVoice a i pattern priority endNotice (VoiceFields.clamped f) s

/-- VOICE_SET served (R95). -/
def serveVoiceSet (a : Ask) (voice : Nat) (f : VoiceFields) (s : State) : State :=
  if 4 ≤ voice ∨ ¬ VoiceFields.waveformOk f then reply a .voiceSet .badArg .none s
  else
    let c := (s.voice voice).change.update (VoiceFields.clamped f)
    reply a .voiceSet .done (.pendingChange c) (s.withVoice voice { s.voice voice with change := c })

/-- MASTER_LEVEL served (R107). -/
def serveMasterLevel (a : Ask) (level : Nat) (s : State) : State :=
  let m := min level 63
  let t := recomputeSince s (s.withSe { s.se with master := m, gTarget := 4 * m })
  reply a .masterLevel .done (.master t.se.master t.se.gTarget t.se.gEff t.se.gCeiling) t

/-- A stop reaches a voice (R110). -/
def stopVoice (mode : SoundStop) (i : Nat) (s : State) : State :=
  let v := s.voice i
  match v.state with
  | .idle => s
  | .starting | .playing | .starved =>
    if v.owed.isSome then restVoice i (closeRec (i + 1) (cancelVoiceOwed i s))
    else match mode with
      | .release => releaseVoice i .stopped s
      | .cut =>
        let s := finishVoice i .stopped (closeRec (i + 1) s)
        s.withVoice i { s.voice i with endReason := some .stopped }
  | .releasing =>
    match mode with
    | .release => s
    | .cut => finishVoice i (v.endReason.getD .stopped) s

/-- The stop ended the voice's play or set it releasing (R110). -/
def stopCounts (s t : State) (i : Nat) : Bool := (t.voice i).state != (s.voice i).state

/-- The voices that a stop reaches: the named one, or all for 4. -/
def stopReach (voice : Nat) : List Nat := if voice = 4 then [0, 1, 2, 3] else [voice]

/-- STOP_SOUND served (R110). -/
def serveStopSound (a : Ask) (voice mode : Nat) (s : State) : State :=
  match soundStopOf mode with
  | none => reply a .stopSound .badArg .none s
  | some m =>
    if 5 ≤ voice then reply a .stopSound .badArg .none s
    else
      let t := (stopReach voice).foldl (fun s i => stopVoice m i s) s
      reply a .stopSound .done (.soundStop ((stopReach voice).countP (stopCounts s t))) t

/-! ### Entry to DOZE (R113) -/

/-- Step 1 of R113 for a voice: one that owes a lookup reply answers it CANCELLED, and its play, which
was not confirmed, is over (R93, R111). -/
def dozeOwed (i : Nat) (s : State) : State :=
  if (s.voice i).owed.isSome then restVoice i (cancelVoiceOwed i s) else s

/-- Step 3 of R113 for a voice: IDLE with its envelope OFF at 0, its fetch record closed (R77). -/
def dozeRest (i : Nat) (s : State) : State := restVoice i (closeRec (i + 1) s)

/-- A step of R113 for voices 0, 1, 2 and 3 in turn. R113 orders no voice before another (DESIGN CHOICE,
log 10). -/
def eachVoice (f : Nat → State → State) (s : State) : State := f 3 (f 2 (f 1 (f 0 s)))

/-- The Sound Engine at the entry to DOZE and at OFF_SOON, in the numbered steps of R113. Where several
voices end at once, their CANCELLED replies and then their CUE_END posts are handed for voices 0, 1, 2
and 3 in turn, which R113 leaves open: it shows in the queue order of posts with equal headers (DESIGN
CHOICE, log 10). The Budget Unit's own part of that entry recomputes with the G_eff handed here
(log 10). -/
def soundDoze (s : State) : State :=
  let s := eachVoice dozeRest (eachVoice (fun i => endCue i .power) (eachVoice dozeOwed s))
  s.withSe { s.se with gEff := 0, compare := 512 }

end Sys2Proof.Machine
end

