-- ==== Sys2Proof/Machine/Beat.lean ====
section
/-! DEFINITION. The Beat Tracker and Tick Generator (chapter 3). -/

namespace Sys2Proof.Machine

/-! ### Ticks (R61, R63, R65, R67, R68) -/

/-- The length of tick `j` of an interval of period `p` in `n` ticks (R61). -/
def tickLength (p n j : Nat) : Nat := p / n + if j < p % n then 1 else 0

/-- A tick is issued: the tick counter rises, and the tick is handed on. In ACTIVE the Sound Engine
and the Rumble Driver take it, and the Budget Unit follows; in DOZE the heat estimate alone takes it;
in STARTING the blocks hold their start values (R67, R68, R117; log 11). -/
def issueTick (s : State) : State :=
  let s := s.withBtg { s.btg with tickCounter := (s.btg.tickCounter + 1) % 4294967296 }
  match s.ps.state with
  | .active => grant (budgetFollow s (rumbleTick (soundTick s)))
  | .doze => heatTick s
  | .starting | .keep => s

/-- The generator is about to issue tick `j`: the index after it, the timer loaded with its length,
and the timer held after the last tick while LOCKED (R61, R63). -/
def BeatGen.loaded (x : BeatGen) (n j : Nat) : BeatGen :=
  { x with
    nextIndex := j + 1
    timer := tickLength x.interval n j
    timerHeld := x.tracker == .locked && decide (n ≤ j + 1) }

/-- The next tick of the interval is issued (R63). -/
def issueNext (s : State) : State :=
  issueTick (s.withBtg (s.btg.loaded s.settings.ticks s.btg.nextIndex))

/-- A new interval begins with the present P: tick 0 is issued (R62, R64 to R66). -/
def beginInterval (s : State) : State :=
  issueTick (s.withBtg ({ s.btg with interval := s.btg.period }.loaded s.settings.ticks 0))

/-- The owed ticks of an ending interval, in index order (R62). -/
def catchUp : Nat → State → State
  | 0, s => s
  | n + 1, s => catchUp n (issueTick s)

/-! ### Beats (R57 to R60, R62, R66) -/

/-- k, the number of frames that a beat spans (R59). -/
def frameStep (new last : Nat) : Nat := (new + 256 - last) % 256

/-- P after a beat taken in LOCKED (R59). -/
def measured (p capture k : Nat) : Nat :=
  if 1 ≤ k ∧ k ≤ 4 then
    (clampInt (p + truncDiv (((capture / k : Nat) : Int) - p) 4) Config.minPeriod
      Config.maxPeriod).toNat
  else p

/-- A beat taken in LOCKED (R62). -/
def beatLocked (frame last : Nat) (s : State) : State :=
  let s := catchUp (s.settings.ticks - s.btg.nextIndex) s
  beginInterval (s.withBtg { s.btg with
    period := measured s.btg.period s.btg.capture (frameStep frame last)
    capture := 0, lastCount := some frame })

/-- A beat taken in FREE (R66). -/
def beatFree (frame : Nat) (s : State) : State :=
  beginInterval (s.withBtg { s.btg with tracker := .locked, capture := 0, lastCount := some frame })

/-- The frame count of a BEAT's payload: one byte (R57, R204). -/
def beatFrame : List Byte → Option Nat
  | [b] => some b.toNat
  | _ => none

/-- The Beat Tracker examines a BEAT handed to it (R57). No beat reaches it in STARTING. -/
def handBeat (source : Nat) (payload : List Byte) (s : State) : State :=
  if s.ps.state = .active then
    match beatFrame payload with
    | none => s
    | some frame =>
      if source ≠ s.settings.beatStation then count .foreignBeats s
      else if s.btg.lastCount = some frame then count .beatDuplicates s
      else match s.btg.tracker with
        | .locked => beatLocked frame (s.btg.lastCount.getD frame) s
        | .free => beatFree frame s
  else s

/-! ### Timer events (R63 to R65; log 2) -/

/-- The tick timer runs out: the next tick is issued, or in FREE a new free interval begins. -/
def timerExpiry (s : State) : State :=
  if s.powered && !s.btg.timerHeld then
    let s := elapse s.btg.timer s
    if s.btg.nextIndex < s.settings.ticks then issueNext s else beginInterval s
  else s

/-- The capture reaches four periods in LOCKED: the tracker goes FREE and a free interval begins
(R64). -/
def lossExpiry (s : State) : State :=
  if s.btg.tracker = .locked then
    let s := elapse (4 * s.btg.interval - s.btg.capture) s
    beginInterval (s.withBtg { s.btg with tracker := .free, capture := 4 * s.btg.interval })
  else s

/-! ### Starts and DOZE (R69, R70) -/

/-- The settings read has ended: the first free interval begins with tick 0 (R69). -/
def beatBegin (s : State) : State := beginInterval (s.withBtg (beatStart s.settings.period))

/-- The Beat Tracker at the entry to DOZE and at OFF_SOON (R70). -/
def beatDoze (s : State) : State :=
  if s.btg.tracker = .locked then
    let t := s.withBtg { s.btg with tracker := .free }
    if s.btg.timerHeld then beginInterval t else t
  else s

end Sys2Proof.Machine
end

