-- ==== Sys2Proof/Machine/BudgetEvents.lean ====
section
/-! DEFINITION. What the Budget Unit does at posts, timers, claim outcomes and power changes
(chapter 7). -/

namespace Sys2Proof.Machine

/-- The Budget Unit replaced and its caps recomputed. -/
def recomputeWith (b : Budget) (s : State) : State := recompute (s.withBu b)

/-! ### The allowance (R140, R141) -/

/-- An ALLOWANCE handed to the Budget Unit (R140). -/
def handAllowance (source : Nat) (payload : List Byte) (s : State) : State :=
  match payload with
  | [b] =>
    if s.serving ∧ source = s.settings.powerStation then
      recomputeWith { s.bu with allowance := 2 * b.toNat, heard := some s.now, fresh := true } s
    else s
  | _ => s

/-- A fresh allowance becomes 600 ms old (R141). -/
def allowanceExpiry (s : State) : State :=
  match s.bu.heard with
  | none => s
  | some t =>
    if s.bu.fresh then
      let s := reach (t + Config.staleCounts) s
      recomputeWith { s.bu with allowance := s.settings.safeAllowance, fresh := false } s
    else s

/-! ### Peer claims (R142, R143) -/

/-- The entry of a station after a kept CLAIM of `c` mA at time `now` (R142). -/
def peerAfter (old : Option Peer) (c now : Nat) : Peer :=
  let previous := (old.map Peer.claim).getD 0
  { claim := c, previous := previous, raisedAt := if previous < c then some now else none,
    lastHeard := now, yielding := false }

/-- The peer entry of a station. -/
def Budget.peer (b : Budget) (st : Nat) : Option Peer := getAt b.peers st none

/-- The peer entry of a station replaced. -/
def Budget.withPeer (b : Budget) (st : Nat) (p : Option Peer) : Budget :=
  { b with peers := setAt b.peers st p }

/-- A CLAIM is kept (R142): its rail is 0 and its source is another station than the part and the
power station. -/
def keepsClaim (s : State) (source : Nat) (rail : Byte) : Bool :=
  s.serving && rail == 0 && decide (source < 15) && source != s.lif.own &&
  source != s.settings.powerStation

/-- A CLAIM handed to the Budget Unit (R142). -/
def handClaim (source : Nat) (payload : List Byte) (s : State) : State :=
  match payload with
  | [rail, c] =>
    if keepsClaim s source rail then
      recomputeWith
        (s.bu.withPeer source (some (peerAfter (s.bu.peer source) (2 * c.toNat) s.now))) s
    else s
  | _ => s

/-- A station's entry becomes 600 ms old and is removed (R143). -/
def peerExpiry (station : Nat) (s : State) : State :=
  match s.bu.peer station with
  | none => s
  | some p =>
    let s := reach (p.lastHeard + Config.staleCounts) s
    recomputeWith (s.bu.withPeer station none) s

/-! ### The raise's release and the listen period (R152, R153, R157) -/

/-- A peer raised within the settle window around `t` (R152 step 1). -/
def raisedNear (p : Peer) (t : Nat) : Bool :=
  match p.raisedAt with
  | none => false
  | some r => decide (t ≤ r + Config.settleCounts ∧ r ≤ t + Config.settleCounts)

/-- Higher-numbered peers that raised within the window yield (R152 step 1). -/
def Budget.markYielding (b : Budget) (own t : Nat) : Budget :=
  { b with peers := Vector.ofFn fun i : Fin 15 =>
      (b.peer i).map fun p =>
        if raisedNear p t ∧ own < i.val then { p with yielding := true } else p }

/-- C_rel at the release (R152 steps 2 and 3). -/
def releasedClaim (st : Settings) (b : Budget) (planned : Nat) : Nat :=
  max (leastClaim st) (min (planned : Int) (headroom b)).toNat

/-- The raise is released (R152 steps 1 to 5): yielding marks, C_rel, the caps, and the lower actual
claim; the decisions of the recomputation follow. -/
def releaseRaise (r : Raise) (t : Nat) (s : State) : State :=
  let b := s.bu.markYielding s.lif.own t
  let c := releasedClaim s.settings b r.planned
  let s := examineOver (handCaps (s.withBu { b with released := c, raise := none }))
  recompute (if c < r.planned then announce c s else s)

/-- The settle end of an open window (R152); the raise-end report follows the caps (R153). -/
def settleExpiry (s : State) : State :=
  match s.bu.raise with
  | none => s
  | some r =>
    match r.settleStart with
    | none => s
    | some t =>
      let s := releaseRaise r t (reach (t + Config.settleCounts) s)
      grant (if 0 < s.rd.dRes then report s else s)

/-- The listen period ends (R157, R153). -/
def listenExpiry (s : State) : State :=
  match s.bu.listenEnd with
  | none => s
  | some t =>
    let s := reach t s
    let s := recomputeWith { s.bu with listenEnd := none } s
    grant (if s.reportable then report s else s)

/-! ### Refresh, claim age and outcomes (R144, R151, R155, R156) -/

/-- A refresh CLAIM is due (R155). -/
def refreshExpiry (s : State) : State :=
  match s.bu.handedAt, s.bu.announced with
  | some t, some ann =>
    let s := reach (t + Config.refreshCounts) s
    if s.ps.state = .doze then announce (leastClaim s.settings) s
    else if s.bu.raise.isSome || decide (s.se.gTarget < s.se.gEff) || s.bu.listenEnd.isSome then
      announce ann s
    else
      let c := min ann (lowerClaim s)
      recompute (announce c (s.withBu { s.bu with released := c }))
  | _, _ => s

/-- The last acknowledge becomes 500 ms old: the claim-age guard holds (R156). -/
def ageExpiry (s : State) : State :=
  match s.bu.acked with
  | none => s
  | some (_, t) =>
    if s.bu.holding then s
    else
      let s := reach (t + Config.claimAgeCounts) s
      recomputeWith { s.bu with holding := true } s

/-- The raise waits for the acknowledge of a CLAIM of `c` mA (R151). -/
def Raise.awaits (r : Raise) (c : Nat) : Bool := r.settleStart.isNone && r.planned == c

/-- An own CLAIM of `c` mA was acknowledged now (R144, R151, R156). -/
def claimAcked (c : Nat) (s : State) : State :=
  let b := { s.bu with
    acked := some (c, s.now), holding := false,
    raise := s.bu.raise.map fun r => if r.awaits c then { r with settleStart := some s.now } else r }
  if s.bu.holding then recomputeWith b s else s.withBu b

/-- An own CLAIM of `c` mA ended unacknowledged: a raise that waits for it announces it again (R144,
R151). -/
def claimFailed (c : Nat) (s : State) : State :=
  if s.bu.raise.any fun r => r.awaits c then announce c s else s

/-! ### Power changes (R157, R158) -/

/-- The Budget Unit at the entry to ACTIVE that ends a start (R157). -/
def budgetActive (s : State) : State :=
  let c := leastClaim s.settings
  let s := announce c (s.withBu { s.bu with released := c })
  recomputeAtStart (s.withBu { s.bu with listenEnd := some (s.now + Config.listenCounts) })

/-- The Budget Unit at the entry to DOZE and at OFF_SOON (R158). -/
def budgetDoze (s : State) : State :=
  let s := recomputeWith { s.bu with raise := none } s
  let c := leastClaim s.settings
  announce c (s.withBu { s.bu with released := c })

end Sys2Proof.Machine
end

