-- ==== Sys2Proof/Machine/Notice.lean ====
section
/-! DEFINITION. The requests of the Notice Unit (R196, R197, R199) and IDENT (R202). -/

namespace Sys2Proof.Machine

/-- NOTICE_ENABLE served (R196). -/
def serveNoticeEnable (a : Ask) (mask : Nat) (s : State) : State :=
  if 4095 < mask then reply a .noticeEnable .badArg .none s
  else
    let m := BitVec.ofNat 12 mask
    reply a .noticeEnable .done (.maskAndFlags m s.nu.pendingFlags) (s.withNu { s.nu with mask := m })

/-- NOTICE_READ served (R197): the reply carries the flags as they stood, and they are cleared. -/
def serveNoticeRead (a : Ask) (s : State) : State :=
  reply a .noticeRead .done (.flagsAndMask s.nu.pendingFlags s.nu.mask)
    (s.withNu { s.nu with pendingFlags := 0 })

/-- The eight counters of a group, A 0 or B 1 (R198). -/
def Notices.group (x : Notices) (g : Nat) : List Counter :=
  (List.range 8).map fun i => getAt x.counters (8 * g + i) zeroCounter

/-- A group of counters cleared (R199). -/
def Notices.clearGroup (x : Notices) (g : Nat) : Notices :=
  { x with counters :=
      (List.range 8).foldl (fun v i => setAt v (8 * g + i) zeroCounter) x.counters }

/-- STATS_READ served (R199). The counts that the reply itself brings fall after the clear (DESIGN CHOICE
for a reply that meets a full queue, log 34). -/
def serveStatsRead (a : Ask) (group : Nat) (s : State) : State :=
  if 2 ≤ group then reply a .statsRead .badArg .none s
  else reply a .statsRead .done (.counters (s.nu.group group)) (s.withNu (s.nu.clearGroup group))

end Sys2Proof.Machine
end

