-- ==== Sys2Proof/Machine/SaveStore.lean ====
section
/-! DEFINITION. The Save Store (chapter 1): write and read streams, page copies, erasing, the start
scrub. -/

namespace Sys2Proof.Machine

/-! ### Pages (R1 to R3, R22) -/

/-- The page numbers. -/
def pageNumbers : List Nat := List.range Config.pageCount

/-- The FREE count (R3). -/
def SaveStore.freeCount (x : SaveStore) : Nat := pageNumbers.countP fun p => (x.page p).mark == .free

/-- The lowest-numbered FREE page (R2). -/
def SaveStore.lowestFree (x : SaveStore) : Option Nat :=
  pageNumbers.find? fun p => (x.page p).mark == .free

/-- Every page of a list takes a mark. -/
def SaveStore.markAll (x : SaveStore) (m : Mark) (l : List Nat) : SaveStore :=
  l.foldl (fun x p => x.withMark p m) x

/-- The open read stream's snapshot names the page (R22). -/
def SaveStore.inSnapshot (x : SaveStore) (p : Nat) : Bool :=
  match x.read with
  | none => false
  | some r => r.snapshot.contains p

/-- Released pages become PINNED when the open snapshot names them, FREE otherwise (R22). -/
def SaveStore.release (x : SaveStore) (l : List Nat) : SaveStore :=
  l.foldl (fun x p => x.withMark p (if x.inSnapshot p then .pinned else .free)) x

/-- A page's check agrees with its content (R1). -/
def SaveStore.checkAgrees (x : SaveStore) (p : Nat) : Bool := (x.page p).check == pageCrc x.ram p

/-- Bytes of the page RAM written from an address upward. -/
def SaveStore.poke (x : SaveStore) (a : Nat) (l : List Byte) : SaveStore :=
  { x with ram := Memory.writeRun x.ram a l }

/-- A slot is marked DAMAGED. -/
def SaveStore.damage (x : SaveStore) (slot : Nat) : SaveStore :=
  x.withSlot slot { x.slot slot with state := .damaged }

/-- A slot is marked DAMAGED and SLOT_DAMAGED is raised (R12, R21, R25, R26). -/
def damageSlot (slot : Nat) (cause : DamageCause) (s : State) : State :=
  raiseNotice (.slotDamaged slot cause) (s.withSs (s.ss.damage slot))

/-! ### The write stream (R7 to R12) -/

/-- The write stream context replaced. -/
def State.withWrite (s : State) (w : Option WriteStream) : State := s.withSs { s.ss with write := w }

/-- The pages of a staged list become FREE (R9, R13, R17, R30). -/
def SaveStore.freeStaged (x : SaveStore) (w : WriteStream) : SaveStore :=
  x.markAll .free (w.staged.map Prod.snd)

/-- The write stream ends and its staged pages become FREE. -/
def abandonStream (w : WriteStream) (s : State) : State :=
  (s.withSs (s.ss.freeStaged w)).withWrite none

/-- The write stream breaks (R9). -/
def breakStream (w : WriteStream) (cause : LostCause) (s : State) : State :=
  raiseTo w.owner (.streamLost w.slot cause w.received)
    ((s.withSs (s.ss.freeStaged w)).withWrite
      (some { w with staged := [], condition := .broken, held := [], postBytes := 0 }))

/-- The page that a stream has staged for a position. -/
def WriteStream.pageAt (w : WriteStream) (pos : Nat) : Option Nat :=
  (w.staged.find? fun x => x.1 == pos).map Prod.snd

/-- The slot byte at which the post's data goes on when `n` of its bytes are left (R10, R11). -/
def WriteStream.place (w : WriteStream) (n : Nat) : Nat := w.offset + w.received + (w.postBytes - n)

/-- A data byte goes into a staged page; the 256th byte of a REPLACE page completes it (R1, R10). -/
def SaveStore.putByte (x : SaveStore) (patch : Bool) (p at_ : Nat) (b : Byte) : SaveStore :=
  let x := { x with ram := Memory.write x.ram (pageBase p + at_ % 256) b }
  if !patch && at_ % 256 == 255 then x.makeCheck p else x

/-- The post's data bytes are written in order: a byte whose position has no staged page allocates
one. A PATCH page is filled with 0xFF, or waits for the copy of the slot's LIVE page, which holds the
rest of the post back (R10 to R12). An empty list ends the post: bytes received rises and the toggle
flips (R8; log 14). Without a FREE page the stream breaks (log 15). -/
def feed : List Byte → State → State
  | [], s =>
    match s.ss.write with
    | none => s
    | some w => s.withWrite (some { w with
        received := w.received + w.postBytes, toggle := 1 - w.toggle, condition := .opened,
        held := [], postBytes := 0 })
  | b :: rest, s =>
    match s.ss.write with
    | none => s
    | some w =>
      let at_ := w.place (rest.length + 1)
      let pos := at_ / 256
      match w.pageAt pos with
      | some p => feed rest (s.withSs (s.ss.putByte w.patch p at_ b))
      | none =>
        match s.ss.lowestFree with
        | none => breakStream w .overlong s
        | some p =>
          let w' := { w with staged := w.staged ++ [(pos, p)] }
          let x := { s.ss.withMark p (.staged pos) with write := some w' }
          if ¬ w.patch then feed rest (s.withSs (x.putByte w.patch p at_ b))
          else if pos < (x.slot w.slot).pages.length then
            s.withSs { x with write := some { w' with condition := .copying, held := b :: rest } }
          else
            let blank := x.poke (pageBase p) (List.replicate 256 0xFF)
            feed rest (s.withSs (blank.putByte w.patch p at_ b))

/-- SAVE_DATA served (R8, R9). -/
def serveSaveData (source toggle : Nat) (data : List Byte) (s : State) : State :=
  match s.ss.write with
  | none => s
  | some w =>
    if source ≠ w.owner then s
    else
      let w := { w with lastActivity := s.now }
      let s' := s.withWrite (some w)
      match w.condition with
      | .copying => s
      | .broken => s'
      | .opened =>
        if data.length = 0 ∨ 30 < data.length then s'
        else if toggle ≠ w.toggle then count .duplicatePages s'
        else if w.total < w.received + data.length then breakStream w .overlong s'
        else feed data (s.withWrite (some { w with postBytes := data.length }))

/-- A copied page: from the slot's present size on its bytes are 0xFF (R11). -/
def copiedBytes (size pos : Nat) (l : List Byte) : List Byte :=
  l.take (size - 256 * pos) ++ List.replicate (256 - (size - 256 * pos)) 0xFF

/-- The page copy completes (R12): with an agreeing source check the copy stands and the held bytes
are written, otherwise the stream breaks and the slot is DAMAGED. The copy takes the source's content
at its completion (log 14). -/
def copyComplete (s : State) : State :=
  match s.ss.write with
  | none => s
  | some w =>
    match w.condition, w.staged.getLast? with
    | .copying, some (pos, p) =>
      let slot := s.ss.slot w.slot
      let src := slot.pages.getD pos 0
      if s.ss.checkAgrees src then
        let x := s.ss.poke (pageBase p) (copiedBytes slot.size pos (pageContent s.ss.ram src))
        feed w.held ((s.withSs x).withWrite (some { w with condition := .opened, held := [] }))
      else damageSlot w.slot .copyCheck (breakStream w .copyCheck s)
    | _, _ => s

/-! ### Opening and closing (R6, R7, R13 to R16) -/

/-- The pages that SAVE_OPEN declares needed (R6). -/
def neededPages : OpenForm → Nat
  | .replace size => ceilDiv size 256
  | .patch offset length => ceilDiv (offset + length) 256 - offset / 256
  | .other _ => 0

/-- SAVE_OPEN's arguments lie in range (R6 check 1). -/
def openArgsOk (slot : Nat) : OpenForm → Bool
  | .replace size => decide (slot < 8 ∧ 1 ≤ size ∧ size ≤ Config.maxSlotBytes)
  | .patch offset length =>
    decide (slot < 8 ∧ 1 ≤ length ∧ offset + length ≤ Config.maxSlotBytes)
  | .other _ => false

/-- Checks 4 and 5 of SAVE_OPEN, which concern a PATCH (R6). -/
def patchRefusal (x : SaveStore) (slot : Nat) : OpenForm → Option Code
  | .patch offset _ =>
    match (x.slot slot).state with
    | .empty => some .empty
    | .damaged => some .damaged
    | .live => if (x.slot slot).size < offset then some .badArg else none
  | .replace _ => none
  | .other _ => none

/-- The first check of SAVE_OPEN that fails (R6). -/
def openRefusal (s : State) (slot : Nat) (form : OpenForm) : Option Code :=
  if ¬ openArgsOk slot form then some .badArg
  else if s.ss.write.isSome then some .busy
  else if s.guard.asserted then some .guarded
  else match patchRefusal s.ss slot form with
    | some c => some c
    | none => if s.ss.freeCount < neededPages form then some .noSpace else none

/-- The write stream that an accepted SAVE_OPEN creates (R7). -/
def openedStream (source now slot : Nat) (form : OpenForm) : WriteStream where
  slot := slot
  owner := source
  patch := match form with | .patch _ _ => true | .replace _ => false | .other _ => false
  offset := match form with | .patch offset _ => offset | .replace _ => 0 | .other _ => 0
  total := match form with | .patch _ length => length | .replace size => size | .other _ => 0
  received := 0
  toggle := 0
  needed := neededPages form
  staged := []
  condition := .opened
  lastActivity := now
  held := []
  postBytes := 0

/-- SAVE_OPEN served (R6, R7). -/
def serveSaveOpen (a : Ask) (slot : Nat) (form : OpenForm) (s : State) : State :=
  match openRefusal s slot form with
  | some c => reply a .saveOpen c .none s
  | none =>
    reply a .saveOpen .done (.opened (neededPages form) s.cal.running)
      (s.withWrite (some (openedStream a.source s.now slot form)))

/-- The staged pages of a REPLACE are padded and completed, those of a PATCH completed (R14, R15). -/
def SaveStore.complete (x : SaveStore) (w : WriteStream) : SaveStore :=
  if w.patch then w.staged.foldl (fun x q => x.makeCheck q.2) x
  else
    match w.staged.getLast? with
    | none => x
    | some (_, p) =>
      if w.total % 256 = 0 then x
      else (x.poke (pageBase p + w.total % 256)
        (List.replicate (256 - w.total % 256) 0xFF)).makeCheck p

/-- The page list of the slot after the commit (R14, R15). -/
def WriteStream.newPages (w : WriteStream) (old : List Nat) : List Nat :=
  if w.patch then
    w.staged.foldl (fun l q => if q.1 < l.length then l.set q.1 q.2 else l ++ [q.2]) old
  else w.staged.map Prod.snd

/-- The slot's size after the commit (R14, R15). -/
def WriteStream.newSize (w : WriteStream) (old : Nat) : Nat :=
  if w.patch then max old (w.offset + w.total) else w.total

/-- The slot record after the commit (R14 to R16). -/
def committedSlot (c : Calendar) (w : WriteStream) (r : Slot) : Slot where
  state := .live
  size := w.newSize r.size
  pages := w.newPages r.pages
  stamp := if c.running then some c.time else none
  day := c.today
  commits := satInc r.commits 65535

/-- The commit, one keep-domain step (R14 to R16): checks are made, the staged pages become LIVE, the
replaced pages are released and the slot takes its new record. -/
def SaveStore.commit (x : SaveStore) (c : Calendar) (w : WriteStream) : SaveStore :=
  let old := x.slot w.slot
  let fresh := committedSlot c w old
  let x := w.staged.foldl (fun x q => x.withMark q.2 (.live w.slot q.1)) (x.complete w)
  let x := x.release (old.pages.filter fun p => !fresh.pages.contains p)
  { x.withSlot w.slot fresh with write := none }

/-- SAVE_CLOSE in mode COMMIT on an own, unbroken stream (R13 checks 5 to 8). -/
def closeCommit (a : Ask) (count : Nat) (w : WriteStream) (s : State) : State :=
  if count ≠ w.received ∨ w.received ≠ w.total then
    reply a .saveClose .countMismatch .none (abandonStream w s)
  else if s.guard.asserted then reply a .saveClose .guarded .none (abandonStream w s)
  else if w.patch ∧ (s.ss.slot w.slot).state = .damaged then
    reply a .saveClose .damaged .none (abandonStream w s)
  else
    let x := s.ss.commit s.cal w
    let r := x.slot w.slot
    reply a .saveClose .done (.committed r.stamp r.day r.commits) (s.withSs x)

/-- SAVE_CLOSE served (R13): mode COMMIT 0, ABANDON 1. -/
def serveSaveClose (a : Ask) (count mode : Nat) (s : State) : State :=
  if 2 ≤ mode then reply a .saveClose .badArg .none s
  else match s.ss.write with
    | none => reply a .saveClose .noStream .none s
    | some w =>
      if a.source ≠ w.owner then reply a .saveClose .notOwner .none s
      else if w.condition = .broken then reply a .saveClose .broken .none (s.withWrite none)
      else if mode = 1 then reply a .saveClose .done .none (abandonStream w s)
      else closeCommit a count w s

/-! ### The read stream (R19 to R22) -/

/-- The first check of SAVE_READ that fails (R19). -/
def readRefusal (s : State) (slot offset length : Nat) : Option Code :=
  if 8 ≤ slot ∨ length = 0 then some .badArg
  else if s.ss.read.isSome then some .busy
  else match (s.ss.slot slot).state with
    | .empty => some .empty
    | .damaged => some .damaged
    | .live => if (s.ss.slot slot).size ≤ offset then some .badArg else none

/-- The read stream context replaced. -/
def State.withRead (s : State) (r : Option ReadStream) : State := s.withSs { s.ss with read := r }

/-- SAVE_READ served (R19). -/
def serveSaveRead (a : Ask) (slot offset length : Nat) (s : State) : State :=
  match readRefusal s slot offset length with
  | some c => reply a .saveRead c .none s
  | none =>
    let r := s.ss.slot slot
    let n := min length (r.size - offset)
    reply a .saveRead .done (.reading n)
      (s.withRead (some { slot := slot, reader := a.source, snapshot := r.pages, next := offset,
                          left := n, toggle := 0, verified := [], damaged := false }))

/-- The data bytes of the next READ_DATA (R20). -/
def ReadStream.size (r : ReadStream) : Nat := min 30 r.left

/-- The snapshot positions whose bytes the next READ_DATA takes, in order (R20). -/
def ReadStream.positions (r : ReadStream) : List Nat :=
  let first := r.next / 256
  (List.range ((r.next + r.size - 1) / 256 + 1 - first)).map (first + ·)

/-- The snapshot page at a position. -/
def ReadStream.pageAt (r : ReadStream) (pos : Nat) : Nat := r.snapshot.getD pos 0

/-- The first position that the next READ_DATA needs and whose page is not verified (R20). -/
def ReadStream.unverified (r : ReadStream) : Option Nat :=
  r.positions.find? fun pos => !r.verified.contains (r.pageAt pos)

/-- The data of the next READ_DATA (R20). -/
def readBytes (m : List Host.Cell) (r : ReadStream) : List Byte :=
  (List.range r.size).map fun i =>
    Memory.read m (pageBase (r.pageAt ((r.next + i) / 256)) + (r.next + i) % 256)

/-- The read stream ends: every PINNED page becomes FREE (R22). -/
def SaveStore.endRead (x : SaveStore) : SaveStore :=
  { x.markAll .free (pageNumbers.filter fun p => (x.page p).mark == .pinned) with read := none }

/-- READ_DATA is handed over while three places of the transmit queue are free, with every page it
needs verified, or as the damaged post (R20, R21). -/
def readHandover (s : State) : State :=
  match s.ss.read with
  | none => s
  | some r =>
    if Config.queuePlaces < s.lif.queue.length + Config.readDataPlaces then s
    else if r.damaged then
      handPost (s.post 3 r.reader (.readData r.toggle true true [])) (s.withSs s.ss.endRead)
    else if r.unverified.isSome then s
    else
      let last := decide (r.left ≤ r.size)
      let rest := { r with
        next := r.next + r.size, left := r.left - r.size, toggle := 1 - r.toggle }
      handPost (s.post 3 r.reader (.readData r.toggle last false (readBytes s.ss.ram r)))
        (if last then s.withSs s.ss.endRead else s.withRead (some rest))

/-- The verification of a snapshot page completes (R20, R21). -/
def readVerify (s : State) : State :=
  match s.ss.read with
  | none => s
  | some r =>
    match r.unverified with
    | none => s
    | some pos =>
      if r.damaged then s
      else
        let p := r.pageAt pos
        if s.ss.checkAgrees p then s.withRead (some { r with verified := r.verified ++ [p] })
        else
          let t := s.withRead (some { r with damaged := true })
          if (s.ss.page p).mark = .live r.slot pos then damageSlot r.slot .readCheck t else t

/-! ### Erasing and asking (R23, R24) -/

/-- A write stream is open on the slot. -/
def SaveStore.writing (x : SaveStore) (slot : Nat) : Bool :=
  match x.write with
  | none => false
  | some w => w.slot == slot

/-- SAVE_ERASE served (R23). -/
def serveSaveErase (a : Ask) (slot : Nat) (s : State) : State :=
  if 8 ≤ slot then reply a .saveErase .badArg .none s
  else if s.ss.writing slot then reply a .saveErase .busy .none s
  else if s.guard.asserted then reply a .saveErase .guarded .none s
  else if (s.ss.slot slot).state = .empty then reply a .saveErase .done .none s
  else
    let x := (s.ss.release (s.ss.slot slot).pages).withSlot slot emptySlot
    reply a .saveErase .done .none (slotEmptied slot (s.withSs x))

/-- What SAVE_INFO reports (R24). -/
def slotReport (s : State) (slot : Nat) : SlotReport :=
  let r := s.ss.slot slot
  let e := s.cal.elapsed r.stamp
  { state := r.state, size := r.size, stamp := r.stamp, day := r.day, commits := r.commits
    elapsed := e.1, ahead := e.2, free := s.ss.freeCount, guarded := s.guard.asserted
    writing := s.ss.writing slot }

/-- SAVE_INFO served (R24). -/
def serveSaveInfo (a : Ask) (slot : Nat) (s : State) : State :=
  if 8 ≤ slot then reply a .saveInfo .badArg .none s
  else reply a .saveInfo .done (.slotInfo (slotReport s slot)) s

/-! ### The idle timeout (R17) -/

/-- The settings stream idle timeout in counts: 100 ms units, rounded up (log 16). -/
def idleCounts (st : Settings) : Nat := ceilDiv (st.idleUnits * 1048576) 10

/-- A write stream expires (R17, R9); during a copy it cannot (R12). -/
def idleExpiry (s : State) : State :=
  match s.ss.write with
  | none => s
  | some w =>
    let t := reach (w.lastActivity + idleCounts s.settings) s
    match w.condition with
    | .copying => s
    | .broken => t.withWrite none
    | .opened => raiseTo w.owner (.streamLost w.slot .timeout w.received) (abandonStream w t)

/-! ### The start scrub (R25 to R27) -/

/-- The slot numbers. -/
def slotNumbers : List Nat := List.range 8

/-- A page that the scrub frees first: STAGED or PINNED (R25 step 1). -/
def Mark.leftover : Mark → Bool
  | .staged _ => true
  | .pinned => true
  | .free => false
  | .live _ _ => false

/-- A page that carries LIVE with this slot. -/
def Mark.ofSlot (k : Nat) : Mark → Bool
  | .live j _ => j == k
  | .free => false
  | .staged _ => false
  | .pinned => false

/-- Some page LIVE in slot `k` has a failing check (R25 step 2). -/
def SaveStore.slotFails (x : SaveStore) (k : Nat) : Bool :=
  pageNumbers.any fun p => Mark.ofSlot k (x.page p).mark && !x.checkAgrees p

/-- Step 2 of the scrub for one slot (R25): a LIVE slot with a failing page is DAMAGED; one already
DAMAGED stays so and raises nothing. -/
def scrubCheckSlot (s : State) (k : Nat) : State :=
  if (s.ss.slot k).state = .live ∧ s.ss.slotFails k then damageSlot k .scrubCheck s else s

/-- The scrub begins: steps 1 and 2 (R25; log 13). -/
def scrubBegin (s : State) : State :=
  let l := pageNumbers.filter fun p => (s.ss.page p).mark.leftover
  slotNumbers.foldl scrubCheckSlot
    (s.withSs { s.ss.markAll .free l with scrub := some l.length })

/-- A slot's page list can be rebuilt, given the pages accepted for earlier slots (R26). -/
def rebuildable (r : Slot) (accepted : List Nat) : Bool :=
  r.pages.length == ceilDiv r.size 256 && r.pages.all (fun p => decide (p < Config.pageCount)) &&
  decide r.pages.Nodup && r.pages.all fun p => !accepted.contains p

/-- The pages of a list with their positions. -/
def positioned (l : List Nat) : List (Nat × Nat) := (List.range l.length).zip l

/-- Every page of the slot's list carries LIVE with the slot and its position (R26). -/
def SaveStore.marksAgree (x : SaveStore) (k : Nat) (l : List Nat) : Bool :=
  (positioned l).all fun q => (x.page q.2).mark == .live k q.1

/-- Step 3 of the scrub for one slot: the pages accepted so far, the slots emptied so far and the
part (R26). -/
def scrubSlot (acc : List Nat × List Nat × State) (k : Nat) : List Nat × List Nat × State :=
  let s := acc.2.2
  let r := s.ss.slot k
  if r.state = .empty then acc
  else if rebuildable r acc.1 then
    if s.ss.marksAgree k r.pages then (acc.1 ++ r.pages, acc.2.1, s)
    else
      let x := (positioned r.pages).foldl (fun x q => x.withMark q.2 (.live k q.1)) s.ss
      (acc.1 ++ r.pages, acc.2.1, damageSlot k .scrubList (s.withSs x))
  else
    let t := slotEmptied k (s.withSs (s.ss.withSlot k emptySlot))
    (acc.1, acc.2.1 ++ [k], raiseNotice (.slotDamaged k .scrubEmptied) t)

/-- A page is marked LIVE. -/
def Mark.isLive : Mark → Bool
  | .live _ _ => true
  | .free => false
  | .staged _ => false
  | .pinned => false

/-- The scrub completes: step 3, the freeing of LIVE pages that no list accepted, and the results
handed to the Power Supervisor (R26, R27; log 19). -/
def scrubEnd (freed : Nat) (s : State) : State :=
  let (accepted, emptied, t) := slotNumbers.foldl scrubSlot ([], [], s)
  let stray := pageNumbers.filter fun p => (t.ss.page p).mark.isLive && !accepted.contains p
  let x := { t.ss.markAll .free stray with scrub := none }
  let damaged := slotNumbers.filter fun k => (x.slot k).state == .damaged || emptied.contains k
  (t.withSs x).withPs { t.ps with freed := freed + stray.length, damaged := damaged }

/-! ### Entry to DOZE and to KEEP (R29, R30) -/

/-- The write stream at the entry to DOZE (R30). -/
def dozeWrite (s : State) : State :=
  match s.ss.write with
  | none => s
  | some w =>
    match w.condition with
    | .broken => s.withWrite none
    | .opened | .copying =>
      raiseTo w.owner (.streamLost w.slot .power w.received) (abandonStream w s)

/-- The Save Store at the entry to DOZE and at OFF_SOON (R30). -/
def storeDoze (s : State) : State :=
  let s := dozeWrite s
  if s.ss.read.isSome then s.withSs s.ss.endRead else s

/-- The stream contexts are lost at the entry to KEEP; marks stay as they stand (R29). -/
def SaveStore.keep (x : SaveStore) : SaveStore := { x with write := none, read := none, scrub := none }

/-- The count of LIVE slots (R28, R202). -/
def SaveStore.liveSlots (x : SaveStore) : Nat := slotNumbers.countP fun k => (x.slot k).state == .live

end Sys2Proof.Machine
end

