-- ==== Sys2Proof/Machine/Requests.lean ====
section
/-! DEFINITION. Request admission (R183), the inbox (R185) and the request commands. A request command
enters at request admission (log 1). -/

namespace Sys2Proof.Machine

/-! ### Serving (R185, R190, R191) -/

/-- IDENT served (R202). -/
def serveIdent (a : Ask) (s : State) : State :=
  reply a .ident .done
    (.identity s.lif.own s.ps.startKind s.ss.liveSlots s.ps.settingsValid) s

/-- A request whose payload does not fit its layout is refused BAD_ARG (R191); SAVE_DATA has no
reply. -/
def serveMisfit (a : Ask) (k : Kind) (s : State) : State :=
  if k = .saveData then s else reply a k .badArg .none s

/-- The owning block serves a request (R185). -/
def serve (e : Entry) (s : State) : State :=
  let a := e.ask
  match e.request with
  | .ident => serveIdent a s
  | .playSound voice pattern priority endNotice f =>
    servePlaySound a voice pattern priority endNotice f s
  | .stopSound voice mode => serveStopSound a voice mode s
  | .voiceSet voice f => serveVoiceSet a voice f s
  | .masterLevel level => serveMasterLevel a level s
  | .playRumble pattern priority endNotice => servePlayRumble a pattern priority endNotice s
  | .steadyRumble duty duration priority endNotice =>
    serveSteadyRumble a duty duration priority endNotice s
  | .stopRumble mode => serveStopRumble a mode s
  | .motorCheck => serveMotorCheck a s
  | .saveOpen slot form => serveSaveOpen a slot form s
  | .saveData toggle data => serveSaveData a.source toggle data s
  | .saveClose count mode => serveSaveClose a count mode s
  | .saveRead slot offset length => serveSaveRead a slot offset length s
  | .saveErase slot => serveSaveErase a slot s
  | .saveInfo slot => serveSaveInfo a slot s
  | .clockSet time zone hour => serveClockSet a time zone hour s
  | .clockRead => serveClockRead a s
  | .clockAccept => serveClockAccept a s
  | .clockTrim trim => serveClockTrim a trim s
  | .appointSet tag due period link => serveAppointSet a tag due period link s
  | .appointClear tag => serveAppointClear a tag s
  | .appointList start => serveAppointList a start s
  | .noticeEnable mask => serveNoticeEnable a mask s
  | .noticeRead => serveNoticeRead a s
  | .statsRead group => serveStatsRead a group s
  | .misfit k => serveMisfit a k s

/-- The Save Store's write stream is COPYING (R12). -/
def SaveStore.copying (x : SaveStore) : Bool :=
  match x.write with
  | none => false
  | some w => w.condition == .copying

/-- The owning block can take the request: all but a COPYING Save Store can (R185). -/
def canTake (s : State) (e : Entry) : Bool :=
  !(e.request.kind.owner == .saveStore && s.ss.copying)

/-- The inbox's head is handed on while its owner can take it (R185). -/
def handOn : Nat → State → State
  | 0, s => s
  | n + 1, s =>
    match s.lif.inbox with
    | [] => s
    | e :: rest =>
      if canTake s e then handOn n (serve e (s.withLif { s.lif with inbox := rest })) else s

/-- The inbox is handed on as far as it goes. -/
def drainInbox (s : State) : State := handOn s.lif.inbox.length s

/-! ### Admission (R183) -/

/-- What admission makes of a request with a payload (R183 steps 2 to 4). -/
inductive Admission where
  | notClient | dozing | joins
  deriving DecidableEq, Repr

/-- Steps 2 to 4 of R183. -/
def admission (s : State) (source : Nat) (k : Kind) : Admission :=
  if !s.settings.clientMask.getLsbD source then .notClient
  else if s.ps.state == .doze && !k.servedInDoze then .dozing
  else .joins

/-- A request refused at admission or at the entry to DOZE: a SAVE_DATA is dropped, any other is
answered (R183, R185). -/
def refuseRequest (e : Entry) (c : Code) (s : State) : State :=
  if e.request.kind = .saveData then s else reply e.ask e.request.kind c .none s

/-- A request is admitted: refused, or joined to the inbox's tail, whose head is then handed on
(R183, R185). A request that meets a full inbox is not taken (R181). -/
def enterRequest (e : Entry) (s : State) : State :=
  match admission s e.ask.source e.request.kind with
  | .notClient => refuseRequest e .notClient s
  | .dozing => refuseRequest e .dozing s
  | .joins =>
    if Config.inboxPlaces ≤ s.lif.inbox.length then s
    else drainInbox (s.withLif { s.lif with inbox := s.lif.inbox ++ [e] })

/-- A request command: the request reaches admission where the line would have taken it, in ACTIVE
and, at priority 0, in DOZE (R181, R184; log 1). -/
def request (a : Ask) (r : Request) (s : State) : State :=
  if s.ps.state = .active ∨ (s.ps.state = .doze ∧ a.priority = 0) then
    enterRequest { ask := a, request := r } s
  else s

/-- The inbox at the entry to DOZE and at OFF_SOON (R185): requests not served there are answered
DOZING, the others stay in order. -/
def lineDoze (s : State) : State :=
  let gone := s.lif.inbox.filter fun e => !e.request.kind.servedInDoze
  let stays := s.lif.inbox.filter fun e => e.request.kind.servedInDoze
  gone.foldl (fun s e => refuseRequest e .dozing s) (s.withLif { s.lif with inbox := stays })

/-! ### The request commands -/

/-- The outcome of a step: every command has a next state. -/
abbrev Result := Host.Outcome State Fault Refusal

/-- IDENT (R202). -/
def execIdent (a : Ask) (s : State) : Result := .next (request a .ident s)
/-- PLAY_SOUND (R88). -/
def execPlaySound (a : Ask) (voice pattern priority : Nat) (endNotice : Bool) (f : VoiceFields)
    (s : State) : Result := .next (request a (.playSound voice pattern priority endNotice f) s)
/-- STOP_SOUND (R110). -/
def execStopSound (a : Ask) (voice mode : Nat) (s : State) : Result :=
  .next (request a (.stopSound voice mode) s)
/-- VOICE_SET (R95). -/
def execVoiceSet (a : Ask) (voice : Nat) (f : VoiceFields) (s : State) : Result :=
  .next (request a (.voiceSet voice f) s)
/-- MASTER_LEVEL (R107). -/
def execMasterLevel (a : Ask) (level : Nat) (s : State) : Result :=
  .next (request a (.masterLevel level) s)
/-- PLAY_RUMBLE (R118). -/
def execPlayRumble (a : Ask) (pattern priority : Nat) (endNotice : Bool) (s : State) : Result :=
  .next (request a (.playRumble pattern priority endNotice) s)
/-- STEADY_RUMBLE (R125). -/
def execSteadyRumble (a : Ask) (duty duration priority : Nat) (endNotice : Bool) (s : State) :
    Result := .next (request a (.steadyRumble duty duration priority endNotice) s)
/-- STOP_RUMBLE (R126). -/
def execStopRumble (a : Ask) (mode : Nat) (s : State) : Result := .next (request a (.stopRumble mode) s)
/-- MOTOR_CHECK (R133). -/
def execMotorCheck (a : Ask) (s : State) : Result := .next (request a .motorCheck s)
/-- SAVE_OPEN (R6). -/
def execSaveOpen (a : Ask) (slot : Nat) (form : OpenForm) (s : State) : Result :=
  .next (request a (.saveOpen slot form) s)
/-- SAVE_DATA (R8): it has no ask tag. -/
def execSaveData (source priority toggle : Nat) (data : List Byte) (s : State) : Result :=
  .next (request { source := source, priority := priority, tag := 0 } (.saveData toggle data) s)
/-- SAVE_CLOSE (R13). -/
def execSaveClose (a : Ask) (count mode : Nat) (s : State) : Result :=
  .next (request a (.saveClose count mode) s)
/-- SAVE_READ (R19). -/
def execSaveRead (a : Ask) (slot offset length : Nat) (s : State) : Result :=
  .next (request a (.saveRead slot offset length) s)
/-- SAVE_ERASE (R23). -/
def execSaveErase (a : Ask) (slot : Nat) (s : State) : Result := .next (request a (.saveErase slot) s)
/-- SAVE_INFO (R24). -/
def execSaveInfo (a : Ask) (slot : Nat) (s : State) : Result := .next (request a (.saveInfo slot) s)
/-- CLOCK_SET (R41). -/
def execClockSet (a : Ask) (time : Nat) (zone : Option Int) (hour : Option Nat) (s : State) :
    Result := .next (request a (.clockSet time zone hour) s)
/-- CLOCK_READ (R43). -/
def execClockRead (a : Ask) (s : State) : Result := .next (request a .clockRead s)
/-- CLOCK_ACCEPT (R42). -/
def execClockAccept (a : Ask) (s : State) : Result := .next (request a .clockAccept s)
/-- CLOCK_TRIM (R35). -/
def execClockTrim (a : Ask) (trim : Int) (s : State) : Result := .next (request a (.clockTrim trim) s)
/-- APPOINT_SET (R47). -/
def execAppointSet (a : Ask) (tag due period : Nat) (link : Option Nat) (s : State) : Result :=
  .next (request a (.appointSet tag due period link) s)
/-- APPOINT_CLEAR (R48). -/
def execAppointClear (a : Ask) (tag : Nat) (s : State) : Result :=
  .next (request a (.appointClear tag) s)
/-- APPOINT_LIST (R49). -/
def execAppointList (a : Ask) (start : Nat) (s : State) : Result :=
  .next (request a (.appointList start) s)
/-- NOTICE_ENABLE (R196). -/
def execNoticeEnable (a : Ask) (mask : Nat) (s : State) : Result :=
  .next (request a (.noticeEnable mask) s)
/-- NOTICE_READ (R197). -/
def execNoticeRead (a : Ask) (s : State) : Result := .next (request a .noticeRead s)
/-- STATS_READ (R199). -/
def execStatsRead (a : Ask) (group : Nat) (s : State) : Result := .next (request a (.statsRead group) s)

end Sys2Proof.Machine
end

