-- ==== Sys2Proof/Machine/Power.lean ====
section
/-! DEFINITION. The Power Supervisor (chapter 8): starts, POWER_MODE, rail loss, the coin cell, and the
start of every block. -/

namespace Sys2Proof.Machine

/-! ### The coin cell (R162, R175, R176) -/

/-- The coin-cell level after a sample (R162). -/
def cellAfter (old : CellLevel) (mv : Nat) : CellLevel :=
  if mv < Config.cellLowMv then .low else if Config.cellOkMv ≤ mv then .ok else old

/-- A coin-cell sample in the present power state: a change from OK to LOW raises BATTERY_LOW in
ACTIVE and DOZE and sets battery-low-seen in STARTING and KEEP; the sample period restarts (R162,
R175, R176). -/
def sampleCell (mv : Nat) (s : State) : State :=
  let level := cellAfter s.ps.cell mv
  let fell := s.ps.cell == .ok && level == .low
  let t := s.withPs { s.ps with
    cell := level, cellCount := 0, lowSeen := s.ps.lowSeen || (fell && !s.serving) }
  if fell && s.serving then raiseNotice (.batteryLow mv) t else t

/-! ### Starting (R165 to R167, R177, R200) -/

/-- The own station that the straps give (R200). -/
def strapStation (sa1 sa0 : Bool) : Nat := 4 + 2 * sa1.toNat + sa0.toNat

/-- Every core-domain field at its start value (R165; in KEEP, log 4). -/
def coreStart (own : Nat) (s : State) : State :=
  { s with
    settings := defaultSettings
    lif := lineStart own
    btg := beatStart defaultSettings.period
    pfu := fetchStart
    se := soundStart
    rd := rumbleStart
    bu := budgetStart defaultSettings.safeAllowance
    ss := s.ss.keep
    nu := noticesStart
    guard := { s.guard with asserted := false, timer := none } }

/-- The keep domain's initial values at a cold start (R166). -/
def coldStart (s : State) : State :=
  { s with
    ss := storeStart
    cal := calendarStart s.cal.zone s.cal.hour
    ps := { s.ps with record := none } }

/-- The core-domain fields of the Power Supervisor at a start (R163, R165). -/
def Power.started (x : Power) : Power :=
  { x with
    state := .starting, orderly := false, startKind := if x.keepIntact then .warm else .cold
    settingsValid := false, freed := 0, damaged := [], dayTurns := 0, rail := .good
    keepSupply := true }

/-- The Pattern Fetch Unit asks for the settings read, which the arbiter grants first (R85, R165). -/
def askSettings (s : State) : State := grant (s.withPfu { s.pfu with settingsWaiting := true })

/-- Rail good: a start begins (R165, R166, R200). -/
def beginStart (own mv : Nat) (s : State) : State :=
  let s := coreStart own (s.withPs s.ps.started)
  let s := if s.ps.startKind = .cold then coldStart s else s
  let s := s.withGuard { s.guard with asserted := s.guard.pinLow }
  askSettings (sampleCell mv s)

/-- What RESUME carries (R177). -/
def resumeReport (x : Power) : ResumeReport where
  kind := x.startKind
  settingsValid := x.settingsValid
  record := x.record
  batteryLowSeen := x.lowSeen
  cell := x.cell
  dayTurns := x.dayTurns
  freed := x.freed
  damaged := x.damaged

/-- RESUME is raised; the record is removed and battery-low-seen cleared (R177). -/
def raiseResume (s : State) : State :=
  raiseNotice (.resume (resumeReport s.ps))
    (s.withPs { s.ps with record := none, lowSeen := false })

/-- HELLO is handed to all stations (R202). -/
def sendHello (s : State) : State :=
  handPost (s.post 2 Config.allStations (.hello s.lif.own s.ps.startKind s.ss.liveSlots)) s

/-- The entry to ACTIVE that ends a start (R157, R167). -/
def enterActive (s : State) : State :=
  let s := budgetActive (s.withPs { s.ps with state := .active })
  appointmentCheck (raiseResume (calendarActive (sendHello s)))

/-- The settings values are handed out (R194, R201): the allowance stays STALE at S (R141). -/
def takeSettings (st : Settings) (valid : Bool) (s : State) : State :=
  { s with
    settings := st
    bu := { s.bu with allowance := st.safeAllowance }
    nu := { s.nu with mask := st.noticeMask }
    ps := { s.ps with settingsValid := valid } }

/-- On a cold start the Calendar takes its zone and rollover hour, and the keep-intact mark is set
(R166). -/
def finishCold (s : State) : State :=
  { s with
    cal := { s.cal with zone := s.settings.zone, hour := s.settings.hour }
    ps := { s.ps with keepIntact := true } }

/-- The settings read completes (R69, R166, R167, R201): a cold start enters ACTIVE, a warm start
begins its scrub (R25). -/
def settingsArrive (bytes : List Byte) (s : State) : State :=
  let s := takeSettings (settingsOf s.lif.own bytes) (settingsValid bytes) (freePort s)
  let s := beatBegin s
  grant (if s.ps.startKind = .cold then enterActive (finishCold s) else scrubBegin s)

/-! ### POWER_MODE (R168 to R170) -/

/-- Every block's step at the entry to DOZE and at OFF_SOON, with the power state already DOZE; the
order of the blocks is the model's (log 10): a tick that the Beat Tracker issues finds the motor at
rest (R130). The requests that stay in the inbox are then served. -/
def enterDoze (s : State) : State :=
  drainInbox (budgetDoze (beatDoze (storeDoze (rumbleDoze (soundDoze
    (lineDoze (s.withPs { s.ps with state := .doze })))))))

/-- The return from DOZE to ACTIVE (R169, R170): the orderly flag is cleared and the Budget Unit
recomputes (R158). -/
def wake (s : State) : State :=
  recompute (s.withPs { s.ps with state := .active, orderly := false })

/-- The modes of POWER_MODE (R168). -/
inductive PowerMode where
  | doze | awake | offSoon
  deriving DecidableEq, Repr

/-- The mode of a mode byte (R168). -/
def powerModeOf : List Byte → Option PowerMode
  | [1] => some .doze
  | [2] => some .awake
  | [3] => some .offSoon
  | _ => none

/-- A kept POWER_MODE acts by the power state (R169). -/
def actMode (m : PowerMode) (s : State) : State :=
  match m with
  | .doze => if s.ps.state = .active then enterDoze s else s
  | .awake => if s.ps.state = .doze then wake s else s
  | .offSoon => enterDoze (s.withPs { s.ps with orderly := true })

/-- A POWER_MODE handed to the Power Supervisor in ACTIVE or DOZE, kept when its source is the power
station and its target the own station or 15 (R168). -/
def handMode (source target : Nat) (m : PowerMode) (s : State) : State :=
  if s.serving ∧ source = s.settings.powerStation ∧
      (target = s.lif.own ∨ target = Config.allStations) then actMode m s
  else s

/-! ### Rail loss and KEEP (R161, R172, R173) -/

/-- The record of a first fail (R173). -/
def failRecord (s : State) : PowerFailRecord where
  phase := s.ps.state
  time := if s.cal.running then some s.cal.time else none
  writeSlot := s.ss.write.map WriteStream.slot
  readActive := s.ss.read.isSome
  motorDriving := s.rd.mode == .drive && decide (0 < s.rd.dEff)
  soundPlaying := s.se.voices.toList.any fun v => v.state != .idle
  failCount := 1

/-- The power-fail record after a rail fail (R173). -/
def recordAfter (s : State) : Option PowerFailRecord :=
  if s.ps.orderly then s.ps.record
  else match s.ps.record with
    | some r => some { r with failCount := satInc r.failCount 255 }
    | none => some (failRecord s)

/-- Rail fail: the part enters KEEP (R172). The coin-cell sample counts as one in KEEP (log 18). The
lost core-domain fields take their start values, but for the start kind and the own station, which hold
their old values until the next start gives them (DESIGN CHOICE, log 4). -/
def railLost (mv : Nat) (s : State) : State :=
  let record := recordAfter s
  let s := calendarKeep s
  let s := coreStart s.lif.own (s.withPs { s.ps with
    record := record, state := .keep, orderly := false, rail := .fail,
    settingsValid := false, freed := 0, damaged := [], dayTurns := 0 })
  sampleCell mv s

/-- The keep domain resets: all keep-domain and core-domain state is lost (R161; log 17). -/
def keepReset (s : State) : State :=
  { State.reset with
    now := s.now, pending := s.pending, guard := { State.reset.guard with pinLow := s.guard.pinLow },
    ps := { powerReset with keepSupply := false } }

/-! ### The power commands -/

/-- POWER_MODE with mode byte 1 (R168, R169). -/
def execPowerModeDoze (source target : Nat) (s : State) : Result :=
  .next (handMode source target .doze s)

/-- POWER_MODE with mode byte 2 (R168, R169). -/
def execPowerModeAwake (source target : Nat) (s : State) : Result :=
  .next (handMode source target .awake s)

/-- POWER_MODE with mode byte 3 (R168, R169). -/
def execPowerModeOffSoon (source target : Nat) (s : State) : Result :=
  .next (handMode source target .offSoon s)

/-- SETTINGS_READ_COMPLETE (R201), while the settings read is in flight in STARTING. -/
def execSettingsReadComplete (bytes : List Byte) (s : State) : Result :=
  .next (match s.pfu.port with
    | none => s
    | some t =>
      if t.job = .settings ∧ s.ps.state = .starting then settingsArrive bytes s else s)

/-- START_SCRUB_COMPLETE (R26, R27), while the scrub runs in STARTING: the part enters ACTIVE. -/
def execStartScrubComplete (s : State) : Result :=
  .next (match s.ss.scrub with
    | none => s
    | some freed => if s.ps.state = .starting then enterActive (scrubEnd freed s) else s)

/-- RAIL_GOOD (R165), from a FAIL level. -/
def execRailGood (sa1 sa0 : Bool) (cellMv : Nat) (s : State) : Result :=
  .next (if s.ps.rail = .fail then beginStart (strapStation sa1 sa0) cellMv s else s)

/-- RAIL_FAIL (R172), from a GOOD level. -/
def execRailFail (cellMv : Nat) (s : State) : Result :=
  .next (if s.ps.rail = .good then railLost cellMv s else s)

/-- KEEP_DOMAIN_RESET (R161). -/
def execKeepDomainReset (s : State) : Result := .next (keepReset s)

/-- KEEP_SUPPLY_RESTORED (R161): the keep domain runs from its reset state, and the sampler
restarts. -/
def execKeepSupplyRestored (s : State) : Result :=
  .next (if s.ps.keepSupply then s
    else s.withPs { s.ps with keepSupply := true, cellCount := 0 })

/-- COIN_CELL_SAMPLE (R162), the scheduled sample: it is taken once the period has passed, and a command
before that changes nothing (log 26). -/
def execCoinCellSample (cellMv : Nat) (s : State) : Result :=
  .next (if s.ps.sampleDue then sampleCell cellMv s else s)

end Sys2Proof.Machine
end

