-- ==== Sys2Proof/Machine/Line.lean ====
section
/-! DEFINITION. The Line Interface (chapter 9): receiving, acknowledging and routing posts, sending
them, SILENT; and the posts handed past the inbox. -/

namespace Sys2Proof.Machine

/-! ### Receiving (R180 to R184) -/

/-- The acknowledge slot of the last received post: driven dominant or left recessive (R181). -/
def setAck (b : Bool) (s : State) : State := s.withLif { s.lif with acked := b }

/-- The kinds that pass the DOZE filter whatever their priority (R184). -/
def passesDoze : Option Kind → Bool
  | some .claim => true
  | some .allowance => true
  | some .powerMode => true
  | _ => false

/-- The DOZE filter drops the post (R184). -/
def dozeDrops (s : State) (p : RxPost) : Bool :=
  s.ps.state == .doze && p.priority != 0 && !passesDoze (kindOfCode p.kindCode)

/-- The request kind of a post that is addressed to the own station and has a payload (R182, R183
step 1). -/
def requestKind (s : State) (p : RxPost) : Option Kind :=
  match kindOfCode p.kindCode with
  | none => none
  | some k =>
    if k.isRequest && p.target == s.lif.own && !p.payload.isEmpty then some k else none

/-- The post is a request that would join the inbox, and the inbox is full (R181, R183). -/
def inboxBars (s : State) (p : RxPost) : Bool :=
  match requestKind s p with
  | none => false
  | some k =>
    admission s p.source k == .joins && decide (Config.inboxPlaces ≤ s.lif.inbox.length)

/-- The inbox entry of a request post: its ask tag is the first payload byte, which SAVE_DATA does not
have (R190). -/
def entryOf (k : Kind) (p : RxPost) : Entry where
  ask := { source := p.source, priority := p.priority
           tag := if k = .saveData then 0 else (p.payload.headD 0).toNat }
  request := readRequest k p.payload

/-- A taken post is routed by its kind (R182). -/
def route (p : RxPost) (s : State) : State :=
  match kindOfCode p.kindCode with
  | some .beat => handBeat p.source p.payload s
  | some .allowance => handAllowance p.source p.payload s
  | some .claim => handClaim p.source p.payload s
  | some .powerMode =>
    match powerModeOf p.payload with
    | none => s
    | some m => handMode p.source p.target m s
  | _ =>
    match requestKind s p with
    | none => s
    | some k => enterRequest (entryOf k p) s

/-- An intact post is taken, or left unacknowledged by the DOZE filter or the full inbox (R181). -/
def takePost (p : RxPost) (s : State) : State :=
  if dozeDrops s p then setAck false (count .dozeSkipped s)
  else if inboxBars s p then setAck false (count .inboxFull s)
  else route p (setAck true (count .postsTaken s))

/-- A received post is judged at the end of its check, in ACTIVE and DOZE. While the transmitter sends,
the post on the line is its own: it is read back (`endSending`), not judged, acknowledged, counted or
routed. An intact post whose start bit came before the entry to ACTIVE (`began`) is not taken, and
counts nothing (R180, R181). -/
def receive (began : Bool) (samples : List BitSamples) (s : State) : State :=
  if ¬ s.serving ∨ s.lif.sending.isSome then setAck false s
  else match judgePost samples with
    | none => setAck false (count .checkErrors s)
    | some p => if began then setAck false s else takePost p s

/-! ### Sending (R188, R189) -/

/-- The transmitter takes the first entry of the queue (R188). -/
def startSending (s : State) : State :=
  if s.serving ∧ s.lif.sending = none ∧ s.lif.silentEnd = none then
    match s.lif.queue with
    | [] => s
    | p :: rest => s.withLif { s.lif with sending := some p, queue := rest }
  else s

/-- An own post ended damaged or unheard: the run count rises, and at 8 the transmitter becomes
SILENT and the queue keeps a CLAIM alone (R189). -/
def LineIf.failed (x : LineIf) (now : Nat) : LineIf :=
  if x.runCount + 1 < Config.silentRun then { x with runCount := x.runCount + 1 }
  else { x with
    runCount := Config.silentRun, silentEnd := some (now + Config.silentCounts),
    removed := x.queue.countP (fun p => !p.isClaim), queue := x.queue.filter TxPost.isClaim }

/-- The current of a CLAIM post (R144). -/
def TxPost.claimOf (p : TxPost) : Option Nat :=
  match p.body with
  | .claim c => some c
  | .hello _ _ _ => none
  | .readData _ _ _ _ => none
  | .reply _ _ _ _ => none
  | .notice _ => none

/-- The outcome of an own CLAIM is reported to the Budget Unit (R144, R188). -/
def reportClaim (p : TxPost) (acked : Bool) (s : State) : State :=
  match p.claimOf with
  | none => s
  | some c => if acked then claimAcked c s else claimFailed c s

/-- An own post failed (R188, R189). At the eighth failure SILENT empties the queue before the outcome
is reported, so a CLAIM announced again by that report joins the emptied queue (DESIGN CHOICE,
log 31). -/
def sendFailed (st : Stat) (p : TxPost) (s : State) : State :=
  let t := count st s
  reportClaim p false (t.withLif ({ t.lif with sending := none }.failed t.now))

/-- An own post ends as the read-back tells (R179, R188). -/
def endSending (read : List BitSamples) (s : State) : State :=
  match s.lif.sending with
  | none => s
  | some p =>
    match p.ending read with
    | .lostArbitration =>
      let t := count .arbLosses s
      returnPost p (t.withLif { t.lif with sending := none })
    | .damaged => sendFailed .ownDamaged p s
    | .unheard => sendFailed .unheard p s
    | .sent =>
      let t := count .postsSent s
      reportClaim p true (t.withLif { t.lif with sending := none, runCount := 0 })

/-- The 250 ms of SILENT have run (R189). -/
def leaveSilent (s : State) : State :=
  match s.lif.silentEnd with
  | none => s
  | some t =>
    let s := reach t s
    let n := s.lif.removed
    raiseNotice (.lineTrouble n) (count .silences
      (s.withLif { s.lif with silentEnd := none, runCount := 0, removed := 0 }))

/-! ### The line commands -/

/-- BEAT handed to the Beat Tracker (R57). -/
def execBeat (source : Nat) (payload : List Byte) (s : State) : Result :=
  .next (handBeat source payload s)

/-- ALLOWANCE handed to the Budget Unit (R140). -/
def execAllowance (source : Nat) (payload : List Byte) (s : State) : Result :=
  .next (handAllowance source payload s)

/-- CLAIM handed to the Budget Unit (R142). -/
def execClaim (source : Nat) (payload : List Byte) (s : State) : Result :=
  .next (handClaim source payload s)

/-- RECEIVE_POST (R180). -/
def execReceivePost (began : Bool) (samples : List BitSamples) (s : State) : Result :=
  .next (receive began samples s)

/-- TRANSMIT_START (R188). -/
def execTransmitStart (s : State) : Result := .next (startSending s)

/-- POST_SEND_END (R188). -/
def execPostSendEnd (read : List BitSamples) (s : State) : Result := .next (endSending read s)

/-- SILENT_END (R189). -/
def execSilentEnd (s : State) : Result := .next (leaveSilent s)

end Sys2Proof.Machine
end

