-- ==== Sys2Proof/Machine/Events.lean ====
section
/-! DEFINITION. The events of timers, samples, fetches and the GUARD pin: one meaning per command. A
timed event brings the time base to its due count (log 2); an event whose condition does not hold
changes nothing (log 26). -/

namespace Sys2Proof.Machine

/-! ### Save Store -/

/-- READ_DATA_HANDOVER (R20). -/
def execReadDataHandover (s : State) : Result := .next (readHandover s)

/-- READ_PAGE_VERIFY_COMPLETE (R21). -/
def execReadPageVerifyComplete (s : State) : Result := .next (readVerify s)

/-- PAGE_COPY_COMPLETE (R12); the inbox that waited on the copy is handed on (R185). -/
def execPageCopyComplete (s : State) : Result := .next (drainInbox (copyComplete s))

/-- STREAM_IDLE_TIMEOUT (R17). -/
def execStreamIdleTimeout (s : State) : Result := .next (idleExpiry s)

/-! ### Calendar, Beat Tracker, Sound Engine -/

/-- SECOND_STEP (R32), when the present second's last crystal count is due. -/
def execSecondStep (s : State) : Result := .next (secondStep s)

/-- TICK_TIMER_EXPIRY (R63, R65). -/
def execTickTimerExpiry (s : State) : Result := .next (timerExpiry s)

/-- LOSS_TIMEOUT (R64). -/
def execLossTimeout (s : State) : Result := .next (lossExpiry s)

/-- AUDIO_SAMPLE (R105), while the core domain runs. -/
def execAudioSample (s : State) : Result := .next (if s.powered then audioSample s else s)

/-! ### Rumble Driver -/

/-- MOTOR_SENSE_SAMPLE (R131). -/
def execMotorSenseSample (current : Nat) (s : State) : Result :=
  .next (budgetFollow s (senseSample current s))

/-- MOTOR_CHECK_DRIVE_END (R134), in the check's DRIVE phase. -/
def execMotorCheckDriveEnd (s : State) : Result :=
  .next (match s.rd.check with
    | none => s
    | some c =>
      match c.driveStart with
      | none => s
      | some t =>
        let s := reach (t + Config.checkDriveCounts) s
        budgetFollow s (finishCheck c s))

/-! ### Pattern Fetch Unit -/

/-- The result of a lookup is handed to the owning block of a player (R76, R92, R120). -/
def handResult (p : Nat) (l : Lookup) (s : State) : State :=
  if p = 0 then budgetFollow s (rumbleResult l s) else soundResult (p - 1) l s

/-- A directory fetch of a player completes (R76). -/
def directoryArrive (p pattern playNo : Nat) (bytes : List Byte) (s : State) : State :=
  match finishLookup p pattern playNo bytes (freePort s) with
  | (t, none) => grant t
  | (t, some l) => grant (handResult p l t)

/-- Delivered steps reach the owning block of a player (R83). -/
def handDelivery (p : Nat) (s : State) : State :=
  if p = 0 then budgetFollow s (rumbleDelivery s) else soundDelivery (p - 1) s

/-- A step fetch of a player completes: the data is delivered when the record is OPEN with the same
play number, and discarded otherwise (R81). -/
def stepsArrive (p playNo j n : Nat) (bytes : List Byte) (s : State) : State :=
  let s := freePort s
  let r := s.fetchRec p
  grant (if r.state = .opened ∧ r.playNo = playNo then handDelivery p (deliver p j n bytes s) else s)

/-- DIRECTORY_FETCH_COMPLETE (R76), while a directory fetch is in flight. -/
def execDirectoryFetchComplete (bytes : List Byte) (s : State) : Result :=
  .next (match s.pfu.port with
    | none => s
    | some t =>
      match t.job with
      | .directory p pattern playNo => directoryArrive p pattern playNo bytes s
      | .settings => s
      | .steps _ _ _ _ => s)

/-- STEP_FETCH_COMPLETE (R81), while a step fetch is in flight. -/
def execStepFetchComplete (bytes : List Byte) (s : State) : Result :=
  .next (match s.pfu.port with
    | none => s
    | some t =>
      match t.job with
      | .steps p playNo j n => stepsArrive p playNo j n bytes s
      | .settings => s
      | .directory _ _ _ => s)

/-! ### Budget Unit -/

/-- ALLOWANCE_STALE (R141). -/
def execAllowanceStale (s : State) : Result := .next (allowanceExpiry s)

/-- PEER_CLAIM_EXPIRY (R143). -/
def execPeerClaimExpiry (station : Nat) (s : State) : Result := .next (peerExpiry station s)

/-- SETTLE_END (R152). -/
def execSettleEnd (s : State) : Result := .next (settleExpiry s)

/-- LISTEN_END (R157). -/
def execListenEnd (s : State) : Result := .next (listenExpiry s)

/-- CLAIM_REFRESH (R155). -/
def execClaimRefresh (s : State) : Result := .next (refreshExpiry s)

/-- CLAIM_AGE_EXPIRY (R156). -/
def execClaimAgeExpiry (s : State) : Result := .next (ageExpiry s)

/-! ### The GUARD pin (R200) -/

/-- The pin changes: a change away from the debounced level starts the timer, a change back stops it;
in KEEP the debouncer is unpowered. -/
def GuardPin.change (g : GuardPin) (powered : Bool) (now : Nat) : GuardPin :=
  { g with
    pinLow := !g.pinLow
    timer := if powered && (!g.pinLow != g.asserted) then some (now + Config.debounceCounts)
      else none }

/-- GUARD_PIN_CHANGE (R200). -/
def execGuardPinChange (s : State) : Result :=
  .next (s.withGuard (s.guard.change s.powered s.now))

/-- GUARD_DEBOUNCE_END (R200): the debounced level takes the pin's level. -/
def execGuardDebounceEnd (s : State) : Result :=
  .next (match s.guard.timer with
    | none => s
    | some t =>
      let s := reach t s
      s.withGuard { s.guard with asserted := s.guard.pinLow, timer := none })

end Sys2Proof.Machine
end

