-- ==== Sys2Proof/Machine/Dispatch.lean ====
section
/-! DEFINITION. The dispatch: one arm per command, one direct call of its meaning. -/

namespace Sys2Proof.Machine

/-- The effect of a command on everything but the queue of waiting commands. -/
def exec (i : Instr) (s : State) : Host.Outcome State Fault Refusal :=
  match i with
  | .ident a => Sys2Proof.Machine.execIdent a s
  | .playSound a voice pattern priority endNotice f => Sys2Proof.Machine.execPlaySound a voice pattern priority endNotice f s
  | .stopSound a voice mode => Sys2Proof.Machine.execStopSound a voice mode s
  | .voiceSet a voice f => Sys2Proof.Machine.execVoiceSet a voice f s
  | .masterLevel a level => Sys2Proof.Machine.execMasterLevel a level s
  | .playRumble a pattern priority endNotice => Sys2Proof.Machine.execPlayRumble a pattern priority endNotice s
  | .steadyRumble a duty duration priority endNotice => Sys2Proof.Machine.execSteadyRumble a duty duration priority endNotice s
  | .stopRumble a mode => Sys2Proof.Machine.execStopRumble a mode s
  | .motorCheck a => Sys2Proof.Machine.execMotorCheck a s
  | .saveOpen a slot form => Sys2Proof.Machine.execSaveOpen a slot form s
  | .saveData source priority toggle data => Sys2Proof.Machine.execSaveData source priority toggle data s
  | .saveClose a count mode => Sys2Proof.Machine.execSaveClose a count mode s
  | .saveRead a slot offset length => Sys2Proof.Machine.execSaveRead a slot offset length s
  | .saveErase a slot => Sys2Proof.Machine.execSaveErase a slot s
  | .saveInfo a slot => Sys2Proof.Machine.execSaveInfo a slot s
  | .clockSet a time zone hour => Sys2Proof.Machine.execClockSet a time zone hour s
  | .clockRead a => Sys2Proof.Machine.execClockRead a s
  | .clockAccept a => Sys2Proof.Machine.execClockAccept a s
  | .clockTrim a trim => Sys2Proof.Machine.execClockTrim a trim s
  | .appointSet a tag due period link => Sys2Proof.Machine.execAppointSet a tag due period link s
  | .appointClear a tag => Sys2Proof.Machine.execAppointClear a tag s
  | .appointList a start => Sys2Proof.Machine.execAppointList a start s
  | .noticeEnable a mask => Sys2Proof.Machine.execNoticeEnable a mask s
  | .noticeRead a => Sys2Proof.Machine.execNoticeRead a s
  | .statsRead a group => Sys2Proof.Machine.execStatsRead a group s
  | .beat source payload => Sys2Proof.Machine.execBeat source payload s
  | .allowance source payload => Sys2Proof.Machine.execAllowance source payload s
  | .claim source payload => Sys2Proof.Machine.execClaim source payload s
  | .powerModeDoze source target => Sys2Proof.Machine.execPowerModeDoze source target s
  | .powerModeAwake source target => Sys2Proof.Machine.execPowerModeAwake source target s
  | .powerModeOffSoon source target => Sys2Proof.Machine.execPowerModeOffSoon source target s
  | .receivePost beganBeforeActive samples => Sys2Proof.Machine.execReceivePost beganBeforeActive samples s
  | .transmitStart => Sys2Proof.Machine.execTransmitStart s
  | .postSendEnd read => Sys2Proof.Machine.execPostSendEnd read s
  | .silentEnd => Sys2Proof.Machine.execSilentEnd s
  | .readDataHandover => Sys2Proof.Machine.execReadDataHandover s
  | .readPageVerifyComplete => Sys2Proof.Machine.execReadPageVerifyComplete s
  | .pageCopyComplete => Sys2Proof.Machine.execPageCopyComplete s
  | .streamIdleTimeout => Sys2Proof.Machine.execStreamIdleTimeout s
  | .startScrubComplete => Sys2Proof.Machine.execStartScrubComplete s
  | .secondStep => Sys2Proof.Machine.execSecondStep s
  | .tickTimerExpiry => Sys2Proof.Machine.execTickTimerExpiry s
  | .lossTimeout => Sys2Proof.Machine.execLossTimeout s
  | .audioSample => Sys2Proof.Machine.execAudioSample s
  | .motorSenseSample current => Sys2Proof.Machine.execMotorSenseSample current s
  | .motorCheckDriveEnd => Sys2Proof.Machine.execMotorCheckDriveEnd s
  | .settingsReadComplete bytes => Sys2Proof.Machine.execSettingsReadComplete bytes s
  | .directoryFetchComplete bytes => Sys2Proof.Machine.execDirectoryFetchComplete bytes s
  | .stepFetchComplete bytes => Sys2Proof.Machine.execStepFetchComplete bytes s
  | .allowanceStale => Sys2Proof.Machine.execAllowanceStale s
  | .peerClaimExpiry station => Sys2Proof.Machine.execPeerClaimExpiry station s
  | .settleEnd => Sys2Proof.Machine.execSettleEnd s
  | .listenEnd => Sys2Proof.Machine.execListenEnd s
  | .claimRefresh => Sys2Proof.Machine.execClaimRefresh s
  | .claimAgeExpiry => Sys2Proof.Machine.execClaimAgeExpiry s
  | .railGood sa1 sa0 cellMv => Sys2Proof.Machine.execRailGood sa1 sa0 cellMv s
  | .railFail cellMv => Sys2Proof.Machine.execRailFail cellMv s
  | .keepDomainReset => Sys2Proof.Machine.execKeepDomainReset s
  | .keepSupplyRestored => Sys2Proof.Machine.execKeepSupplyRestored s
  | .coinCellSample cellMv => Sys2Proof.Machine.execCoinCellSample cellMv s
  | .guardPinChange => Sys2Proof.Machine.execGuardPinChange s
  | .guardDebounceEnd => Sys2Proof.Machine.execGuardDebounceEnd s

end Sys2Proof.Machine
end

