-- ==== Sys2Proof/Safety.lean ====
section
/-! DEFINITION. What counts as a safe run, and the words in which the statements are made: when a
request is heard, and the bounds that every step keeps. -/

namespace Sys2Proof.Machine

/-! ### Requests -/

/-- A request reaches the block that owns its kind at once: the power state serves it (R183, R184),
its source is a client, nothing waits in the inbox, and its owner can take it (R185). -/
def Heard (s : State) (a : Ask) (k : Kind) : Prop :=
  (s.ps.state = .active ∨ (s.ps.state = .doze ∧ a.priority = 0 ∧ k.servedInDoze = true)) ∧
  s.lif.inbox = [] ∧ s.settings.clientMask.getLsbD a.source = true ∧
  (k.owner = .saveStore → s.ss.copying = false)

/-- The request that a request command brings; absent for the other commands. -/
def requestOf : Instr → Option Entry
  | .ident a => some ⟨a, .ident⟩
  | .playSound a v p pr e f => some ⟨a, .playSound v p pr e f⟩
  | .stopSound a v m => some ⟨a, .stopSound v m⟩
  | .voiceSet a v f => some ⟨a, .voiceSet v f⟩
  | .masterLevel a l => some ⟨a, .masterLevel l⟩
  | .playRumble a p pr e => some ⟨a, .playRumble p pr e⟩
  | .steadyRumble a d n pr e => some ⟨a, .steadyRumble d n pr e⟩
  | .stopRumble a m => some ⟨a, .stopRumble m⟩
  | .motorCheck a => some ⟨a, .motorCheck⟩
  | .saveOpen a k f => some ⟨a, .saveOpen k f⟩
  | .saveData source priority t d => some ⟨⟨source, priority, 0⟩, .saveData t d⟩
  | .saveClose a n m => some ⟨a, .saveClose n m⟩
  | .saveRead a k o n => some ⟨a, .saveRead k o n⟩
  | .saveErase a k => some ⟨a, .saveErase k⟩
  | .saveInfo a k => some ⟨a, .saveInfo k⟩
  | .clockSet a t z h => some ⟨a, .clockSet t z h⟩
  | .clockRead a => some ⟨a, .clockRead⟩
  | .clockAccept a => some ⟨a, .clockAccept⟩
  | .clockTrim a t => some ⟨a, .clockTrim t⟩
  | .appointSet a t d r l => some ⟨a, .appointSet t d r l⟩
  | .appointClear a t => some ⟨a, .appointClear t⟩
  | .appointList a i => some ⟨a, .appointList i⟩
  | .noticeEnable a m => some ⟨a, .noticeEnable m⟩
  | .noticeRead a => some ⟨a, .noticeRead⟩
  | .statsRead a g => some ⟨a, .statsRead g⟩
  | .beat _ _ | .allowance _ _ | .claim _ _ | .powerModeDoze _ _ | .powerModeAwake _ _
  | .powerModeOffSoon _ _ | .receivePost _ _ | .transmitStart | .postSendEnd _ | .silentEnd
  | .readDataHandover | .readPageVerifyComplete | .pageCopyComplete | .streamIdleTimeout
  | .startScrubComplete | .secondStep | .tickTimerExpiry | .lossTimeout | .audioSample
  | .motorSenseSample _ | .motorCheckDriveEnd | .settingsReadComplete _
  | .directoryFetchComplete _ | .stepFetchComplete _ | .allowanceStale | .peerClaimExpiry _
  | .settleEnd | .listenEnd | .claimRefresh | .claimAgeExpiry | .railGood _ _ _ | .railFail _
  | .keepDomainReset | .keepSupplyRestored | .coinCellSample _ | .guardPinChange
  | .guardDebounceEnd => none

/-! ### Starts -/

/-- The core domain as RAIL_GOOD leaves it (R165, R200): every block at its start value, the settings
read in flight, the debounced GUARD level at the pin's level. The settings stand at their defaults
until that read (log 6). -/
def startedCore (sa1 sa0 : Bool) (s : State) : State :=
  { s with
    settings := defaultSettings
    lif := lineStart (4 + 2 * sa1.toNat + sa0.toNat)
    btg := beatStart 17556
    pfu := { fetchStart with port := some { job := .settings, address := 0, bytes := 64 } }
    se := soundStart
    rd := rumbleStart
    bu := budgetStart 60
    nu := noticesStart
    guard := { pinLow := s.guard.pinLow, asserted := s.guard.pinLow, timer := none } }

/-- The Power Supervisor as RAIL_GOOD leaves it (R162, R163, R165, R176). -/
def startedPower (kind : StartKind) (mv : Nat) (x : Power) : Power :=
  { state := .starting, orderly := false, startKind := kind, settingsValid := false, freed := 0
    damaged := [], dayTurns := 0, rail := .good, keepIntact := x.keepIntact
    cell := if mv < 2600 then .low else if 2700 ≤ mv then .ok else x.cell
    lowSeen := x.lowSeen || (x.cell == .ok && decide (mv < 2600))
    record := if kind = .cold then none else x.record
    cellCount := 0, keepSupply := true }

/-! ### Bounds that every step keeps -/

/-- A post stands in the queue's order before another: by header, lowest first (R186). -/
def queueSorted : List TxPost → Bool
  | [] => true
  | [_] => true
  | p :: q :: rest => decide (p.header ≤ q.header) && queueSorted (q :: rest)

/-- A CLAIM carries the header that every own CLAIM has (R144, R187). -/
def ownClaimHeader (s : State) (p : TxPost) : Bool :=
  !p.isClaim || p.header == headerValue 1 Kind.claim.code s.lif.own Config.allStations

/-- The queue and the inbox keep their bounds and the queue its order (R185 to R187); every own CLAIM,
queued or being sent, has the one header. -/
def LineBounded (s : State) : Prop :=
  s.lif.queue.length ≤ 8 ∧ s.lif.queue.countP TxPost.isClaim ≤ 1 ∧ s.lif.inbox.length ≤ 4 ∧
  queueSorted s.lif.queue = true ∧ s.lif.queue.all (ownClaimHeader s) = true ∧
  (∀ p, s.lif.sending = some p → ownClaimHeader s p = true)

/-- The limits on what the pins drive: D_eff follows R128, the gain in use stands at or below its
ceiling (R109) and is 0 outside ACTIVE (R108, R113). -/
def DriveLimited (s : State) : Prop :=
  s.rd.dEff = effectiveDuty s.settings s.ps.state s.rd ∧
  s.se.gEff ≤ s.se.gCeiling ∧ (s.ps.state ≠ .active → s.se.gEff = 0)

/-- The duty asked for never stands above the duty reserved (R128), with what keeps it so: a player at
rest or starting asks for none, a lookup reply is owed to a pattern play alone, a step is held to the
peak duty that its play reserved, a ramp stays between its ends, and a check drives at the test duty it
reserved (R117, R121, R123, R125, R133). -/
def DutyReserved (s : State) : Prop :=
  s.rd.dReq ≤ s.rd.dRes ∧
  (s.rd.owed.isSome = true → s.rd.player = .starting ∧ s.rd.kind = .pattern) ∧
  (s.rd.check.isSome = true → s.rd.player = .checking) ∧
  (s.rd.player = .idle ∨ s.rd.player = .faulted ∨ s.rd.player = .braking ∨
    s.rd.player = .starting → s.rd.dReq = 0) ∧
  (s.rd.player = .starting → s.rd.mode = .off ∧ (s.rd.owed = none →
    (s.rd.kind = .pattern → s.rd.peak = s.rd.dRes) ∧
    (s.rd.kind = .steady → s.rd.steadyDuty = s.rd.dRes))) ∧
  (s.rd.player = .playing ∨ s.rd.player = .starved → s.rd.peak = s.rd.dRes) ∧
  (s.rd.player = .playing → ∀ q, s.rd.ramp = some q →
    q.start ≤ s.rd.peak ∧ q.target ≤ s.rd.peak ∧ q.position + s.rd.ticksLeft ≤ q.length + 1) ∧
  (∀ c, s.rd.check = some c → c.driveStart = none → s.rd.dRes = s.settings.testDuty) ∧
  (s.ps.state = .starting ∨ s.ps.state = .keep → s.rd.check = none ∧ s.lif.inbox = [])

/-- The Calendar's laws (R31 to R35, R40, R42); the prescaler stands below the present second's
length. -/
def CalendarSound (c : Calendar) : Prop :=
  c.time ≤ Config.maxTime ∧ c.mark ≤ Config.maxTime ∧ c.time ≤ c.mark ∧
  (c.time < c.mark → c.rewound = true) ∧ (c.rewound = false → c.rewind = 0) ∧
  (c.ended = true ↔ c.time = Config.maxTime) ∧
  (c.running = false → c.time = 0 ∧ c.mark = 0 ∧ c.rewound = false ∧ c.appointments = []) ∧
  c.prescaler < c.secondLength ∧ (c.running = false ∨ c.ended = true → c.prescaler = 0) ∧
  -127 ≤ c.trimRequested ∧ c.trimRequested ≤ 127 ∧ -127 ≤ c.trimUse ∧ c.trimUse ≤ 127

/-- Two appointments stand in the list's order: by due, then tag (R46). -/
def appointmentBefore (e f : Appointment) : Prop :=
  e.due < f.due ∨ (e.due = f.due ∧ e.tag < f.tag)

/-- The appointment list's laws (R46): at most 8 entries, ordered, no tag twice, every due in range
and every slot link naming a slot that is not EMPTY. -/
def AppointmentsSound (s : State) : Prop :=
  s.cal.appointments.length ≤ 8 ∧ s.cal.appointments.Pairwise appointmentBefore ∧
  (s.cal.appointments.map Appointment.tag).Nodup ∧
  ∀ e ∈ s.cal.appointments, e.due ≤ Config.maxTime ∧ e.tag ≤ 254 ∧
    ∀ k, e.link = some k → (s.ss.slot k).state ≠ .empty

/-- The slot directory and the page owner table agree (R2, R4): an EMPTY slot's record is empty, a
LIVE or DAMAGED slot has as many pages as its size needs, and the LIVE marks of each slot are exactly
the positions of its page list. -/
def StoreAgrees (x : SaveStore) : Prop :=
  (∀ k < 8, (x.slot k).state = .empty → x.slot k = emptySlot) ∧
  (∀ k < 8, (x.slot k).state ≠ .empty →
    (x.slot k).pages.length = ceilDiv (x.slot k).size 256 ∧ ∀ p ∈ (x.slot k).pages, p < 128) ∧
  ∀ p < 128, ∀ k pos, (x.page p).mark = .live k pos ↔ k < 8 ∧ (x.slot k).pages[pos]? = some p

/-- STAGED pages are those of the write stream's staged list, and a PINNED page stands in the read
stream's snapshot (R2, R10, R22). -/
def MarksFollowStreams (x : SaveStore) : Prop :=
  ∀ p < 128,
    (∀ pos, (x.page p).mark = .staged pos ↔ ∃ w, x.write = some w ∧ (pos, p) ∈ w.staged) ∧
    ((x.page p).mark = .pinned → x.inSnapshot p = true)

/-- A write stream's laws (R6 to R12): its bytes fit the largest slot, a PATCH goes on from a byte that
its slot has, and the staged pages stand at the positions from its first byte to the last one written;
while COPYING, to the first byte held. -/
def StreamSound (x : SaveStore) (w : WriteStream) : Prop :=
  let first := w.offset / 256
  w.slot < 8 ∧ 1 ≤ w.total ∧ w.offset + w.total ≤ 8192 ∧ w.received ≤ w.total ∧
  (w.patch = false → w.offset = 0) ∧
  (w.patch = true → (x.slot w.slot).state ≠ .empty ∧ w.offset ≤ (x.slot w.slot).size) ∧
  (∀ q ∈ w.staged, q.2 < 128) ∧
  w.staged.map Prod.fst = List.range' first w.staged.length ∧
  match w.condition with
  | .opened => w.staged.length =
      if w.received = 0 then 0 else ceilDiv (w.offset + w.received) 256 - first
  | .copying => w.patch = true ∧ 1 ≤ w.held.length ∧ w.held.length ≤ w.postBytes ∧
      w.postBytes ≤ 30 ∧ w.received + w.postBytes ≤ w.total ∧
      w.staged.length = w.place w.held.length / 256 - first + 1
  | .broken => w.staged = []

/-- The Save Store's laws: the slot directory and the owner table agree, every slot that is not EMPTY
has 1 to 8192 bytes, STAGED and PINNED marks stand only for an open stream, streams are open in ACTIVE
alone, and the scrub runs in STARTING alone, with the leftover marks of a warm start freed (R2, R4, R6,
R22, R25, R28 to R30). No request for a stream waits outside ACTIVE (R185). -/
def StoreSound (s : State) : Prop :=
  let x := s.ss
  StoreAgrees x ∧
  (∀ k < 8, (x.slot k).state ≠ .empty → 1 ≤ (x.slot k).size ∧ (x.slot k).size ≤ 8192) ∧
  (s.serving = true → MarksFollowStreams x) ∧
  (∀ w, x.write = some w → s.ps.state = .active ∧ StreamSound x w) ∧
  (∀ r, x.read = some r → s.ps.state = .active ∧ ∀ p ∈ r.snapshot, p < 128 ∧
    ((x.page p).mark = .pinned ∨ ∃ k pos, (x.page p).mark = .live k pos)) ∧
  (s.ps.state = .starting → s.ps.startKind = .cold ∨ x.scrub ≠ none →
    ∀ p < 128, (x.page p).mark.leftover = false) ∧
  (s.ps.state ≠ .starting → x.scrub = none) ∧
  ∀ e ∈ s.lif.inbox,
    s.serving = true ∧ (s.ps.state = .doze → e.request.kind.servedInDoze = true)

/-- A CLAIM of `c` mA waits in the queue or is being sent (R144). -/
def ClaimOut (s : State) (c : Nat) : Prop :=
  ∃ p, (p ∈ s.lif.queue ∨ s.lif.sending = some p) ∧ p.claimOf = some c

/-- The claim record's laws (R144 to R157): the caps spend no more than the released claim, nothing
while the claim-age guard holds; the released claim stands at or below every CLAIM on its way and the
acknowledged one; it is the announced one without a raise and at least the least claim; a raise has
announced what it plans, and with its window open that value is acknowledged and every CLAIM on its way
carries it. Before the entry to ACTIVE nothing is claimed and nothing drawn. -/
def ClaimSound (s : State) : Prop :=
  let b := s.bu
  let spent := ampCurrent s.settings s.se.gCeiling + motorCurrent s.settings s.rd.dBudget
  (b.acked = none → b.holding = true) ∧
  spent ≤ b.released - s.settings.iCore ∧ (b.holding = true → spent = 0) ∧
  (∀ c t, b.acked = some (c, t) → b.released ≤ c) ∧ (∀ c, ClaimOut s c → b.released ≤ c) ∧
  (∀ c, b.raise = none → b.announced = some c → b.released = c) ∧
  (∀ r, b.raise = some r →
    b.announced = some r.planned ∧ b.released ≤ r.planned ∧ leastClaim s.settings ≤ r.planned ∧
    ∀ t, r.settleStart = some t →
      (∃ u, b.acked = some (r.planned, u)) ∧ ∀ c, ClaimOut s c → c = r.planned) ∧
  (∀ p q c, s.lif.sending = some p → p.isClaim = true → q ∈ s.lif.queue → q.claimOf = some c →
    b.announced = some c) ∧
  (s.serving = true → leastClaim s.settings ≤ b.released) ∧
  (s.ps.state = .doze → b.raise = none ∧ b.released = leastClaim s.settings) ∧
  (s.serving = false → b = budgetStart b.allowance ∧ s.rd = rumbleStart ∧ s.se.gCeiling = 0 ∧
    s.lif.inbox = [] ∧ ∀ c, ¬ ClaimOut s c)

/-- Every settings value lies in the range of its field, and the three pairs are in order (R201,
R204). -/
def SettingsInRange (own : Nat) (st : Settings) : Prop :=
  st.beatStation ≤ 14 ∧ st.powerStation ≤ 14 ∧ st.powerStation ≠ own ∧ st.noticeStation ≤ 14 ∧
  st.clientMask ≠ 0 ∧ st.clientMask.getLsbD 15 = false ∧ 1 ≤ st.ticks ∧ st.ticks ≤ 16 ∧
  10486 ≤ st.period ∧ st.period ≤ 34953 ∧ 1 ≤ st.iCore ∧ st.iCore ≤ 127 ∧ st.a0 ≤ 127 ∧
  st.a1 ≤ 255 ∧ 1 ≤ st.iFull ∧ st.iFull ≤ 255 ∧ st.safeAllowance ≤ 510 ∧
  st.safeAllowance % 2 = 0 ∧ 1 ≤ st.overTrip ∧ st.overTrip ≤ 511 ∧ 1 ≤ st.testDuty ∧
  st.testDuty ≤ 255 ∧ st.openThreshold < st.shortThreshold ∧ st.shortThreshold ≤ 511 ∧
  st.coolRate ≤ 255 ∧ st.hClear < st.hTrip ∧ st.hTrip ≤ 65535 ∧ st.guardDuty ≤ 255 ∧
  st.brakeTicks ≤ 255 ∧ 64 ≤ st.dirOffset ∧ st.dirOffset + 10 ≤ 65536 * st.memUnits ∧
  1 ≤ st.dirCount ∧ st.dirCount ≤ 256 ∧ 1 ≤ st.memUnits ∧ st.memUnits ≤ 255 ∧ -48 ≤ st.zone ∧
  st.zone ≤ 56 ∧ st.hour ≤ 23 ∧ 1 ≤ st.idleUnits ∧ st.idleUnits ≤ 255

/-- A state with which every part of the machine is safe: the page RAM is canonical, the line's queues
are bounded, the drives are limited and reserved, the draw is claimed, and the Calendar, its
appointments and the Save Store are sound. -/
def Safe (s : State) : Prop :=
  Memory.wf s.ss.ram = true ∧ LineBounded s ∧ DriveLimited s ∧ DutyReserved s ∧
  CalendarSound s.cal ∧ AppointmentsSound s ∧ StoreSound s ∧ ClaimSound s

end Sys2Proof.Machine
end

