-- ==== Sys2Proof/Certificates/Slice0/Obligations.lean ====
section
/-! DEFINITION. The statements for the provers. Each docstring names the rules of `spec/` that its
statement formalises, and the log entry of every choice of the model that it rests on. -/

open Sys2Proof Sys2Proof.Machine

/-! ### Steps -/

/-- A step takes the command at the front of the queue and runs it with the queue's rest waiting. -/
def Obligations.StepRunsTheFrontCommand : Prop :=
  ∀ (c : Instr) (rest : List Instr) (s : State),
    step { s with pending := c :: rest } = exec c { s with pending := rest }

/-- With no command waiting, one count passes (the model's choice, log 3): a time base count, every
32nd with a crystal count; in KEEP one crystal count while the keep supply stands. -/
def Obligations.IdleStepPassesOneCount : Prop :=
  ∀ s : State, s.pending = [] →
    (s.ps.state ≠ .keep → s.crystal < 31 →
      step s = .next { elapse 1 s with crystal := s.crystal + 1 }) ∧
    (s.ps.state ≠ .keep → 31 ≤ s.crystal →
      step s = .next (crystalCount { elapse 1 s with crystal := 0 })) ∧
    (s.ps.state = .keep → s.ps.keepSupply = true → step s = .next (crystalCount s)) ∧
    (s.ps.state = .keep → s.ps.keepSupply = false → step s = .next s)

/-- Every command has a next state, and no command touches the queue of waiting commands. -/
def Obligations.EveryCommandAnswersNextAndLeavesTheQueue : Prop :=
  ∀ (c : Instr) (s : State), ∃ t, exec c s = .next t ∧ t.pending = s.pending

/-! ### Invariants of the whole part -/

/-- The page RAM keeps its canonical form, so that equal contents are equal data (R1), and the
Calendar's laws hold, in every step: T at or below W and both in range, the prescaler below the present
second's length, the trims in theirs (R31 to R35, R40, R42). -/
def Obligations.EveryStepKeepsThePageRamAndTheCalendar : Prop :=
  ∀ s t : State, step s = .next t →
    (Memory.wf s.ss.ram = true → Memory.wf t.ss.ram = true) ∧
    (CalendarSound s.cal → CalendarSound t.cal)

/-- The queue and the inbox keep their bounds and their order in every step (R185 to R187). -/
def Obligations.EveryStepKeepsTheLineBounded : Prop :=
  ∀ s t : State, LineBounded s → step s = .next t → LineBounded t

/-- D_eff stands at the effective duty and the gain at or below its ceiling, 0 outside ACTIVE, in every
step (R109, R113, R128). The effective duty is 0 outside ACTIVE and in the drive modes OFF and BRAKE; in
DRIVE it is min(D_req, D_budget) while the guard is CLEAR and min(D_req, D_budget, guard duty) while it is
TRIPPED (R128). -/
def Obligations.EveryStepKeepsTheDrivesLimited : Prop :=
  (∀ s t : State, DriveLimited s → step s = .next t → DriveLimited t) ∧
  ∀ (st : Settings) (p : PowerState) (r : Rumble),
    (p ≠ .active ∨ r.mode = .off ∨ r.mode = .brake → effectiveDuty st p r = 0) ∧
    (p = .active → r.mode = .drive → r.guard = .clear →
      effectiveDuty st p r = min r.dReq r.dBudget) ∧
    (p = .active → r.mode = .drive → r.guard = .tripped →
      effectiveDuty st p r = min (min r.dReq r.dBudget) st.guardDuty)

/-- The duty asked for never stands above the duty reserved, in every step (R128). The claim record
keeps its laws in every step, and with them a gain or a duty in use means that the last acknowledged
claim is at least I_core + Ia(G_eff) + Im(D_eff) (R139, R144, R145); that it is less than 500 ms old
rests on CLAIM_AGE_EXPIRY being taken when it is due (R156, log 2). With A0 and A1 both 0 the ceiling
255 of R146 stands, and nothing is said (log 30). -/
def Obligations.EveryStepKeepsTheDutyReservedAndTheDrawClaimed : Prop :=
  (∀ s t : State, step s = .next t →
    (DutyReserved s → DutyReserved t) ∧ (LineBounded s → ClaimSound s → ClaimSound t)) ∧
  ∀ s : State, DriveLimited s → ClaimSound s → 0 < s.settings.a0 + s.settings.a1 →
    0 < s.settings.iFull → 0 < s.se.gEff ∨ 0 < s.rd.dEff →
    s.bu.holding = false ∧ ∃ claim t, s.bu.acked = some (claim, t) ∧
      s.settings.iCore + ampCurrent s.settings s.se.gEff + motorCurrent s.settings s.rd.dEff ≤ claim

/-- The slot directory and the owner table agree in every step, STAGED and PINNED marks stand only for
an open stream, and the write stream keeps its laws (R2, R4, R6 to R12, R22, R29, R30). -/
def Obligations.EveryStepKeepsTheStoreSound : Prop :=
  ∀ s t : State, StoreSound s → step s = .next t → StoreSound t

/-- The appointment list keeps its laws in every step: at most 8 entries, ordered by due then tag, no
tag twice, and no link to an EMPTY slot (R46). -/
def Obligations.EveryStepKeepsTheAppointmentsSound : Prop :=
  ∀ s t : State, AppointmentsSound s → step s = .next t → AppointmentsSound t

/-- Every one of these invariants holds at reset, and what the reset of the keep domain leaves stands
there (R161): every page FREE, every slot EMPTY, no appointment, no power-fail record, the Calendar
UNSET with T at 0, the coin-cell level OK, battery-low-seen and the keep-intact mark clear; the rail
level is FAIL (R160). That the power state is KEEP there and the core-domain fields stand at their start
values is the model's choice (log 4). No command is waiting. -/
def Obligations.ResetIsSafeAndEmpty : Prop :=
  Safe State.reset ∧
  (∀ p < 128, (State.reset.ss.page p).mark = .free) ∧
  (∀ k < 8, State.reset.ss.slot k = emptySlot) ∧
  State.reset.cal.appointments = [] ∧ State.reset.cal.running = false ∧
  State.reset.cal.time = 0 ∧ State.reset.ps.record = none ∧ State.reset.ps.cell = .ok ∧
  State.reset.ps.lowSeen = false ∧ State.reset.ps.keepIntact = false ∧
  State.reset.ps.state = .keep ∧ State.reset.ps.rail = .fail ∧ State.reset.pending = []

/-! ### Power -/

/-- KEEP_DOMAIN_RESET leaves the reset state without the keep supply; the GUARD pin's level, the time
base's count and the waiting commands are none of its state. KEEP_SUPPLY_RESTORED lets the keep domain
run from there with its sampler restarted, and is without effect while the supply stands (R161, R162).
The reset state also fixes values that R161 leaves undefined or does not give, and these are the model's
choices: the page bytes at 0xFF and the page checks at 0 (log 5, unsafe), the power state KEEP with the
core-domain fields at their start values (log 4, unsafe for a claim about them in KEEP), the phase of the
two clocks (log 3), and, before a start has read or sampled them, the Calendar's zone 0 and rollover hour
5, the settings at their defaults and not valid, the own station 4, the start kind COLD, the start results
and the count of removed posts at 0 and the debounced GUARD level released without a timer (log 6, unsafe).
A KEEP_SUPPLY_RESTORED without effect is one too (log 26). That KEEP_DOMAIN_RESET is taken in every state
and that the sampler restarts without a sample are deduced from R161 (logs 17, 18), the pattern number 0 of
a fetch record from R72 and R76 (log 23). -/
def Obligations.KeepResetLosesTheKeepDomain : Prop :=
  ∀ s : State,
    exec .keepDomainReset s = .next { State.reset with
      now := s.now, pending := s.pending
      guard := { pinLow := s.guard.pinLow, asserted := false, timer := none }
      ps := { State.reset.ps with keepSupply := false } } ∧
    (s.ps.keepSupply = false → exec .keepSupplyRestored s =
      .next { s with ps := { s.ps with keepSupply := true, cellCount := 0 } }) ∧
    (s.ps.keepSupply = true → exec .keepSupplyRestored s = .next s)

/-- RAIL_GOOD begins a start. With the keep-intact mark clear it is cold: every block and every
keep-domain field but the coin-cell monitor's takes its start value; with the mark set it is warm: the
pages, the slots, the Calendar and the power-fail record are kept (R28, R29, R53, R165, R166).
RAIL_FAIL enters KEEP from every powered state: the power-fail record is written, counted or, after
OFF_SOON, left alone; the game day is recorded; pages, marks, slots and appointments stay; the coin
cell is sampled (R45, R172, R173, R176). The core-domain fields, lost in KEEP, stand at their start
values (the model's choice, log 4). The page bytes at 0xFF and the page checks at 0 after a cold start are
the model's choice, where R28 and R1 leave both undefined (log 5, unsafe). In STARTING the settings stand
at their defaults and not valid, the start results and the count of removed posts at 0, and a cold start
keeps zone and hour until the settings read, all the model's choice (log 6, unsafe). The keep supply stands
again at RAIL_GOOD (log 17), and the samples at both events set battery-low-seen as in STARTING and KEEP (log 18). RAIL_GOOD with the
rail good and RAIL_FAIL without it leave everything (log 26). -/
def Obligations.RailEventsStartAndStopThePart : Prop :=
  (∀ (sa1 sa0 : Bool) (mv : Nat) (s : State), s.ps.rail = .fail → s.ps.keepIntact = false →
     exec (.railGood sa1 sa0 mv) s = .next { startedCore sa1 sa0 s with
       ss := storeStart, cal := calendarStart s.cal.zone s.cal.hour
       ps := startedPower .cold mv s.ps }) ∧
  (∀ (sa1 sa0 : Bool) (mv : Nat) (s : State), s.ps.rail = .fail → s.ps.keepIntact = true →
     exec (.railGood sa1 sa0 mv) s = .next { startedCore sa1 sa0 s with
       ss := { s.ss with write := none, read := none, scrub := none }
       ps := startedPower .warm mv s.ps }) ∧
  (∀ (mv : Nat) (s : State), s.ps.rail = .good →
     exec (.railFail mv) s = .next { s with
       settings := defaultSettings, lif := lineStart s.lif.own, btg := beatStart 17556
       pfu := fetchStart, se := soundStart, rd := rumbleStart, bu := budgetStart 60
       nu := noticesStart
       guard := { pinLow := s.guard.pinLow, asserted := false, timer := none }
       ss := { s.ss with write := none, read := none, scrub := none }
       cal := { s.cal with
         keepDay := if s.cal.running then some (s.cal.gameDay s.cal.time) else none }
       ps := { s.ps with
         state := .keep, orderly := false, settingsValid := false, freed := 0, damaged := []
         dayTurns := 0, rail := .fail, cellCount := 0
         cell := if mv < 2600 then .low else if 2700 ≤ mv then .ok else s.ps.cell
         lowSeen := s.ps.lowSeen || (s.ps.cell == .ok && decide (mv < 2600))
         record :=
           if s.ps.orderly then s.ps.record
           else match s.ps.record with
             | some r => some { r with failCount := min (r.failCount + 1) 255 }
             | none => some {
                 phase := s.ps.state
                 time := if s.cal.running then some s.cal.time else none
                 writeSlot := s.ss.write.map WriteStream.slot
                 readActive := s.ss.read.isSome
                 motorDriving := s.rd.mode == .drive && decide (0 < s.rd.dEff)
                 soundPlaying := s.se.voices.toList.any fun v => v.state != .idle
                 failCount := 1 } } }) ∧
  (∀ (sa1 sa0 : Bool) (mv : Nat) (s : State), s.ps.rail = .good →
    exec (.railGood sa1 sa0 mv) s = .next s) ∧
  (∀ (mv : Nat) (s : State), s.ps.rail = .fail → exec (.railFail mv) s = .next s)

/-- COIN_CELL_SAMPLE is the scheduled sample: it is taken once its period has passed, 327,680 crystal
counts in STARTING, ACTIVE and DOZE and 2,097,152 in KEEP, while the keep domain runs; before that, and
with the keep supply lost, nothing changes (log 26). The level follows its two thresholds, the period
restarts, and a fall from OK to LOW raises BATTERY_LOW in ACTIVE and DOZE and sets battery-low-seen in
STARTING and KEEP (R162, R175, R176; a sample that comes late restarts the period late, log 18). -/
def Obligations.CoinCellSampleSetsTheLevel : Prop :=
  ∀ (mv : Nat) (s : State),
    let period := if s.ps.state = .keep then 2097152 else 327680
    let level : CellLevel := if mv < 2600 then .low else if 2700 ≤ mv then .ok else s.ps.cell
    let t (seen : Bool) : State :=
      { s with ps := { s.ps with cell := level, cellCount := 0, lowSeen := seen } }
    (s.ps.keepSupply = false ∨ s.ps.cellCount < period → exec (.coinCellSample mv) s = .next s) ∧
    (s.ps.keepSupply = true → period ≤ s.ps.cellCount →
      (¬ (s.ps.cell = .ok ∧ mv < 2600) → exec (.coinCellSample mv) s = .next (t s.ps.lowSeen)) ∧
      (s.ps.cell = .ok → mv < 2600 → (s.ps.state = .active ∨ s.ps.state = .doze) →
        exec (.coinCellSample mv) s = .next (raiseNotice (.batteryLow mv) (t s.ps.lowSeen))) ∧
      (s.ps.cell = .ok → mv < 2600 → (s.ps.state = .starting ∨ s.ps.state = .keep) →
        exec (.coinCellSample mv) s = .next (t true)))

/-- GUARD_PIN_CHANGE and GUARD_DEBOUNCE_END while the core domain runs: a change away from the
debounced level starts the 16,777-count timer, a change back stops it; at the timer's end the
debounced level takes the pin's (R200). The end brings the time base to its due count (log 2), and
without a running timer it changes nothing (log 26). -/
def Obligations.GuardPinIsDebounced : Prop :=
  ∀ s : State, s.ps.state ≠ .keep →
    (s.guard.pinLow = s.guard.asserted → exec .guardPinChange s = .next { s with
      guard := { pinLow := !s.guard.pinLow, asserted := s.guard.asserted,
                 timer := some (s.now + 16777) } }) ∧
    (s.guard.pinLow ≠ s.guard.asserted → exec .guardPinChange s = .next { s with
      guard := { pinLow := !s.guard.pinLow, asserted := s.guard.asserted, timer := none } }) ∧
    (∀ due, s.guard.timer = some due → exec .guardDebounceEnd s = .next { reach due s with
      guard := { pinLow := s.guard.pinLow, asserted := s.guard.pinLow, timer := none } }) ∧
    (s.guard.timer = none → exec .guardDebounceEnd s = .next s)

/-! ### The service line -/

/-- A post handed by a block takes the place that header and age give it, an own CLAIM the place of the
queued CLAIM; at a full queue the post of the lower rank is lost and QUEUE_DROPS counts once (R186,
R187).
Raising a notice sets its kind's pending flag and no other; a post is formed only in ACTIVE and
DOZE and only for an enabled kind, at priority 2 in ACTIVE and 0 in DOZE (R195). -/
def Obligations.HandedPostsAndNoticesTakeTheirPlace : Prop :=
  (∀ (p : TxPost) (s : State),
     (p.isClaim = true → s.lif.queue.any TxPost.isClaim = true →
       handPost p s = s.withLif { s.lif with
         queue := s.lif.queue.map fun x => if x.isClaim then p else x }) ∧
     (p.isClaim = false ∨ s.lif.queue.any TxPost.isClaim = false → s.lif.queue.length < 8 →
       handPost p s = s.withLif { s.lif with
         queue := s.lif.queue.takeWhile (fun x => decide (x.header ≤ p.header)) ++
           p :: s.lif.queue.dropWhile (fun x => decide (x.header ≤ p.header)) }) ∧
     (∀ rest last, p.isClaim = false ∨ s.lif.queue.any TxPost.isClaim = false →
       s.lif.queue = rest ++ [last] → rest.length = 7 → p.header < last.header →
       handPost p s = count .queueDrops (s.withLif { s.lif with
         queue := rest.takeWhile (fun x => decide (x.header ≤ p.header)) ++
           p :: rest.dropWhile (fun x => decide (x.header ≤ p.header)) })) ∧
     (∀ rest last, p.isClaim = false ∨ s.lif.queue.any TxPost.isClaim = false →
       s.lif.queue = rest ++ [last] → rest.length = 7 → last.header ≤ p.header →
       handPost p s = count .queueDrops s)) ∧
  (∀ (target : Nat) (n : Notice) (s : State),
     let flags := s.nu.pendingFlags ||| BitVec.ofNat 12 (2 ^ n.kind.number)
     let t := s.withNu { s.nu with pendingFlags := flags }
     (∀ k : NoticeKind, flags.getLsbD k.number =
       (s.nu.pendingFlags.getLsbD k.number || k == n.kind)) ∧
     (s.ps.state = .active → s.nu.mask.getLsbD n.kind.number = true →
       raiseTo target n s = handPost ⟨2, s.lif.own, target, .notice n⟩ t) ∧
     (s.ps.state = .doze → s.nu.mask.getLsbD n.kind.number = true →
       raiseTo target n s = handPost ⟨0, s.lif.own, target, .notice n⟩ t) ∧
     (s.ps.state = .starting ∨ s.nu.mask.getLsbD n.kind.number = false → raiseTo target n s = t))

/-- Every post is read back from its line bits, whichever one of a bit's three samples is disturbed:
the bits of header, length, payload and check, with the bits inserted after six equal ones, are judged
intact and give the post that was sent, whatever follows the last check bit (R178, R179, R180; the
stuffing after an inserted bit and after the last check bit as log 7). The part's own post goes out
bit by bit: the dominant start bit, the 16 header bits, the 6 length bits, the payload and the CRC-16
with their inserted bits, then the acknowledge slot left recessive and seven recessive end bits; in
another station's post the part drives the slot dominant exactly when it takes the post (R181, R204).
A bit of the other level follows every six equal bits on the line, and the CRC shifts bit by bit (R178,
R179).
The payloads of the part's posts, byte by byte: READ_DATA's first byte packs toggle, last and damaged
flag; a REPLY is the echoed kind, the ask tag, the result code and the fields of its rule; a NOTICE its
kind and its fields; numbers of more bytes go most significant first, signed ones in two's complement, a
game day as the game day plus 2, UNSET as 0xFFFFFFFF, choices numbered in the order of their rule,
optional fields behind a presence byte, a list behind its count, an absent identity of an entry 0xFF
(R203, R204, with R20, R144, R191, R193, R202 and the rules of the replies). Widths and numbers that R203
leaves out, and the GUARD level's byte, are the model's (log 9). -/
def Obligations.PostSentIsPostReceived : Prop :=
  (∀ (priority kind source target : Nat) (payload : List Byte) (samples : List BitSamples)
     (tail : List Bool),
     priority < 4 → kind < 64 → source < 16 → target < 16 → payload.length ≤ 32 →
     samples.map majority =
       wireBits (headerValue priority kind source target) payload ++ tail →
     judgePost samples = some {
       priority := priority, kindCode := kind, source := source, target := target
       payload := payload }) ∧
  (∀ p : TxPost,
     let bits (w n : Nat) : List Bool := (List.range w).map fun i => n.testBit (w - 1 - i)
     let payload := p.body.payload
     let checked :=
       bits 16 (p.priority * 16384 + p.body.kind.code * 256 + p.source * 16 + p.target) ++
         bits 6 payload.length ++ payload.flatMap fun b => bits 8 b.toNat
     p.line = stuff (false :: (checked ++ bits 16 (crcBits checked).toNat)) ++
       List.replicate 8 true) ∧
  (∀ (p : TxPost) (samples : List BitSamples), p.priority < 4 → p.source < 16 → p.target < 16 →
     p.body.payload.length ≤ 32 → samples.map majority = p.line →
     judgePost samples = some {
       priority := p.priority, kindCode := p.body.kind.code, source := p.source, target := p.target
       payload := p.body.payload }) ∧
  (∀ x : LineIf, x.ackLevel = false ↔ x.acked = true) ∧
  (stuff [] = [] ∧ ∀ (l : List Bool) (b : Bool), stuff (l ++ [b]) =
     stuff l ++ b :: if List.replicate 6 b <:+ stuff l ++ [b] then [!b] else []) ∧
  (crcBits [] = 0xFFFF ∧ ∀ (l : List Bool) (b : Bool), crcBits (l ++ [b]) =
     if (crcBits l).msb = b then crcBits l <<< 1 else (crcBits l <<< 1) ^^^ 0x1021) ∧
  (let one (n : Nat) : List Byte := [BitVec.ofNat 8 n]
   let two (n : Nat) : List Byte := one (n / 256) ++ one n
   let four (n : Nat) : List Byte := two (n / 65536) ++ two n
   let flag (b : Bool) : List Byte := one b.toNat
   let signed (i : Int) : List Byte := one (i % 256).toNat
   let signed2 (i : Int) : List Byte := two (i % 65536).toNat
   let day (g : Int) : List Byte := two (g + 2).toNat
   let time (t : Option Nat) : List Byte := four (t.getD 0xFFFFFFFF)
   let present (l : List Bool) : List Byte := one (l.foldr (fun b n => b.toNat + 2 * n) 0)
   let link (k : Option Nat) : List Byte := one (k.getD 0xFF)
   let code (c : Code) := [Code.done, .busy, .notClient, .badArg, .noSuch, .badPattern, .noSpace,
     .guarded, .damaged, .empty, .noStream, .notOwner, .countMismatch, .broken, .listFull, .unset,
     .motorFault, .dozing, .cancelled, .noHeadroom].idxOf c
   let start (k : StartKind) := [StartKind.cold, .warm].idxOf k
   let phase (x : PowerState) := [PowerState.starting, .active, .doze, .keep].idxOf x
   let level (x : CellLevel) := [CellLevel.ok, .low].idxOf x
   let valid (v : Bool) := [true, false].idxOf v
   let wave (w : Waveform) := [Waveform.pulse, .triangle, .noise].idxOf w
   let kind (k : PlayKind) := [PlayKind.pattern, .steady].idxOf k
   let cause (c : FaultCause) := [FaultCause.overcurrent, .openMotor, .shortMotor].idxOf c
   let player (x : PlayerState) := [PlayerState.idle, .starting, .playing, .starved, .steady,
     .braking, .checking, .faulted].idxOf x
   let outcome (o : CheckOutcome) :=
     [CheckOutcome.openMotor, .shortMotor, .normal, .failed].idxOf o
   let failure (f : FailReason) := [FailReason.noHeadroom, .guardTrip, .power].idxOf f
   let date (d : Date) : List Byte := two d.year.toNat ++ one d.month ++ one d.day
   let record (r : PowerFailRecord) : List Byte := one (phase r.phase) ++ time r.time ++
     link r.writeSlot ++ flag r.readActive ++ flag r.motorDriving ++ flag r.soundPlaying ++
     one r.failCount
   let flags (f : BitVec 12) : List Byte := (List.range 12).flatMap fun i => flag (f.getLsbD i)
   let sent (n : Notice) (number : Nat) (fields : List Byte) : Prop :=
     (Body.notice n).payload = one number ++ fields
   let answers (d : ReplyData) (fields : List Byte) : Prop := ∀ k tag c,
     (Body.reply k tag c d).payload = one k.code ++ one tag ++ one (code c) ++ fields
   (∀ toggle last damaged data, (Body.readData toggle last damaged data).payload =
     one (toggle + 2 * last.toNat + 4 * damaged.toNat) ++ data) ∧
   (∀ c, (Body.claim c).payload = one 0 ++ one (c / 2)) ∧
   (∀ own k live, (Body.hello own k live).payload =
     two 612 ++ one 2 ++ one own ++ one (start k) ++ one live) ∧
   (∀ r, sent (.resume r) 0 (one (start r.kind) ++ one (valid r.settingsValid) ++
     present [r.record.isSome] ++ r.record.toList.flatMap record ++ flag r.batteryLowSeen ++
     one (level r.cell) ++ two r.dayTurns ++ one r.freed ++ one r.damaged.length ++
     r.damaged.flatMap one)) ∧
   (∀ g d w, sent (.dayTurn g d w) 1 (day g ++ date d ++ one w)) ∧
   (∀ tag missed, sent (.appointment tag missed) 2 (one tag ++ one missed)) ∧
   (∀ v n pattern r, sent (.cueEnd v n pattern r) 3 (one v ++ one n ++ one pattern ++
     one ([EndReason.finished, .stopped, .replaced, .power, .fault].idxOf r))) ∧
   (∀ n k pattern r, sent (.rumbleEnd n k pattern r) 4 (one n ++ one (kind k) ++
     present [pattern.isSome] ++ pattern.toList.flatMap one ++
     one ([EndReason.finished, .stopped, .replaced, .fault, .power].idxOf r))) ∧
   (∀ g h, sent (.motorGuard g h) 5 (one ([GuardState.clear, .tripped].idxOf g) ++ two h)) ∧
   (∀ c, sent (.motorFault c) 6 (one 0 ++ two c)) ∧
   (∀ slot c n, sent (.streamLost slot c n) 7 (one slot ++
     one ([LostCause.overlong, .copyCheck, .timeout, .power].idxOf c) ++ two n)) ∧
   (∀ entered a sum room, sent (.overAllowance entered a sum room) 8
     (one ([true, false].idxOf entered) ++ two a ++ two sum ++ signed2 room)) ∧
   (∀ mv, sent (.batteryLow mv) 9 (two mv)) ∧
   (∀ n, sent (.lineTrouble n) 10 (one n)) ∧
   (∀ slot c, sent (.slotDamaged slot c) 11 (one slot ++ one ([DamageCause.readCheck, .copyCheck,
     .scrubCheck, .scrubList, .scrubEmptied].idxOf c))) ∧
   answers .none [] ∧
   (∀ own k live v, answers (.identity own k live v)
     (two 612 ++ one 2 ++ one own ++ one (start k) ++ one live ++ one (valid v))) ∧
   (∀ v n pr u, answers (.soundPlay v n pr u) (one v ++ one n ++ one pr ++ one (wave u.waveform) ++
     one u.duty ++ one u.attack ++ one u.decay ++ one u.sustain ++ one u.release ++
     signed u.transpose ++ one u.level)) ∧
   (∀ n, answers (.soundStop n) (one n)) ∧
   (∀ c, answers (.pendingChange c) (present [c.waveform.isSome, c.duty.isSome, c.attack.isSome,
       c.decay.isSome, c.sustain.isSome, c.release.isSome, c.transpose.isSome, c.level.isSome] ++
     c.waveform.toList.flatMap (fun w => one (wave w)) ++ c.duty.toList.flatMap one ++
     c.attack.toList.flatMap one ++ c.decay.toList.flatMap one ++ c.sustain.toList.flatMap one ++
     c.release.toList.flatMap one ++ c.transpose.toList.flatMap signed ++
     c.level.toList.flatMap one)) ∧
   (∀ l t e c, answers (.master l t e c) (one l ++ one t ++ one e ++ one c)) ∧
   (∀ n pr peak, answers (.rumblePlay n pr peak) (one n ++ one pr ++ one peak)) ∧
   (∀ n duty duration pr, answers (.steadyPlay n duty duration pr)
     (one n ++ one duty ++ two duration ++ one pr)) ∧
   (∀ changed x, answers (.rumbleStop changed x) (flag changed ++ one (player x))) ∧
   (∀ c current, answers (.lastFault c current) (one (cause c) ++ two current)) ∧
   (∀ o f current x, answers (.check o f current x) (one (outcome o) ++
     present [f.isSome, current.isSome] ++ f.toList.flatMap (fun y => one (failure y)) ++
     current.toList.flatMap two ++ one (player x))) ∧
   (∀ n ready, answers (.opened n ready) (one n ++ flag ready)) ∧
   (∀ stamp g n, answers (.committed stamp g n)
     (time stamp ++ present [g.isSome] ++ g.toList.flatMap day ++ two n)) ∧
   (∀ n, answers (.reading n) (two n)) ∧
   (∀ r, answers (.slotInfo r) (one ([SlotState.empty, .live, .damaged].idxOf r.state) ++ two r.size ++
     time r.stamp ++ present [r.day.isSome, r.elapsed.isSome] ++ r.day.toList.flatMap day ++
     two r.commits ++ r.elapsed.toList.flatMap two ++ flag r.ahead ++ one r.free ++
     flag r.guarded ++ flag r.writing)) ∧
   (∀ t w rewound amount g, answers (.clockSet t w rewound amount g)
     (four t ++ four w ++ flag rewound ++ four amount ++ day g)) ∧
   (∀ t w, answers (.clockAccepted t w) (four t ++ four w)) ∧
   (∀ r, answers (.clock r) (flag r.running ++ four r.time ++
     present [r.date.isSome, r.clock.isSome, r.weekday.isSome, r.gameDay.isSome] ++
     r.date.toList.flatMap date ++
     r.clock.toList.flatMap (fun c => one c.1 ++ one c.2.1 ++ one c.2.2) ++
     r.weekday.toList.flatMap one ++ r.gameDay.toList.flatMap day ++ signed r.zone ++ one r.hour ++
     flag r.rewound ++ four r.rewind ++ four r.mark ++ flag r.ended ++ signed r.trimUse)) ∧
   (∀ requested use, answers (.trim requested use) (signed requested ++ signed use)) ∧
   (∀ n, answers (.entries n) (one n)) ∧
   (∀ n l, answers (.appointments n l) (one n ++ l.flatMap fun e => one e.tag ++ four e.due ++
     one ([Repeat.none, .daily, .weekly].idxOf e.period) ++ link e.link)) ∧
   (∀ mask f, answers (.maskAndFlags mask f) (two mask.toNat ++ flags f)) ∧
   (∀ f mask, answers (.flagsAndMask f mask) (flags f ++ two mask.toNat)) ∧
   ∀ l, answers (.counters l) (l.flatMap fun c => two c.count ++ flag c.overflow))

/-- RECEIVE_POST judges the post and acknowledges exactly the posts that it takes: nothing outside
ACTIVE and DOZE, nothing while the transmitter sends, when the post on the line is its own, CHECK_ERRORS
for a faulty post, nothing of an intact post begun before ACTIVE, DOZE_SKIPPED for one the DOZE filter
drops, INBOX_FULL for a request that meets a full inbox; any other post is taken, and its block's work
leaves the acknowledge slot alone (R180, R181, R183, R184).
A post is faulty when a seventh equal bit stands where a bit of the other level was due, from the start
bit through the last check bit, when its length field reads 33..63, or when its check disagrees; a seventh
equal bit right behind the last check bit leaves it intact (R178, R179, R180; log 7). Samples that end
before the last check bit, or begin with a recessive bit, spell no intact post, which is the model's
choice (log 37). -/
def Obligations.ReceivedPostIsTakenOrLeft : Prop :=
  (∀ samples : List BitSamples,
    let got := samples.map majority
    let bits (w n : Nat) : List Bool := (List.range w).map fun i => n.testBit (w - 1 - i)
    let number (l : List Bool) : Nat := l.foldl (fun n b => 2 * n + b.toNat) 0
    let whole (data : List Bool) : Prop := 39 + 8 * number ((data.drop 17).take 6) ≤ data.length
    let checked (header : Nat) (payload : List Byte) : List Bool :=
      bits 16 header ++ bits 6 payload.length ++ payload.flatMap fun b => bits 8 b.toNat
    (∀ (data sent rest : List Bool) (b : Bool), ¬ whole data → stuff data = sent ++ [!b] →
      List.replicate 6 b <:+ sent → got = sent ++ b :: rest → judgePost samples = none) ∧
    (∀ (header n : Nat) (more rest : List Bool), 33 ≤ n → n ≤ 63 →
      got = stuff (false :: (bits 16 header ++ bits 6 n ++ more)) ++ rest →
      judgePost samples = none) ∧
    (∀ (header check : Nat) (payload : List Byte) (rest : List Bool), payload.length ≤ 32 →
      check < 65536 → check ≠ (crcBits (checked header payload)).toNat →
      got = stuff (false :: (checked header payload ++ bits 16 check)) ++ rest →
      judgePost samples = none) ∧
    (∀ (priority kind source target : Nat) (payload : List Byte) (sent rest : List Bool) (b : Bool),
      priority < 4 → kind < 64 → source < 16 → target < 16 → payload.length ≤ 32 →
      wireBits (headerValue priority kind source target) payload = sent ++ [!b] →
      List.replicate 6 b <:+ sent → got = sent ++ b :: rest → judgePost samples = some {
        priority := priority, kindCode := kind, source := source, target := target
        payload := payload }) ∧
    (∀ data, ¬ whole data → got <+: stuff data → judgePost samples = none) ∧
    (∀ rest, got = true :: rest → judgePost samples = none)) ∧
  ∀ (began : Bool) (samples : List BitSamples) (s : State),
    (s.ps.state = .starting ∨ s.ps.state = .keep ∨ s.lif.sending ≠ none →
      exec (.receivePost began samples) s = .next (setAck false s)) ∧
    (s.lif.sending = none →
      (s.ps.state = .active ∨ s.ps.state = .doze → judgePost samples = none →
        exec (.receivePost began samples) s = .next (setAck false (count .checkErrors s))) ∧
      (∀ p, s.ps.state = .active ∨ s.ps.state = .doze → began = true →
        judgePost samples = some p →
        exec (.receivePost began samples) s = .next (setAck false s)) ∧
      (∀ p, s.ps.state = .doze → began = false → judgePost samples = some p → p.priority ≠ 0 →
        kindOfCode p.kindCode ≠ some .claim → kindOfCode p.kindCode ≠ some .allowance →
        kindOfCode p.kindCode ≠ some .powerMode →
        exec (.receivePost began samples) s = .next (setAck false (count .dozeSkipped s))) ∧
      (∀ p k, s.ps.state = .active ∨ (s.ps.state = .doze ∧ p.priority = 0 ∧ k.servedInDoze = true) →
        began = false → judgePost samples = some p → kindOfCode p.kindCode = some k →
        k.isRequest = true → p.target = s.lif.own → p.payload ≠ [] →
        s.settings.clientMask.getLsbD p.source = true → 4 ≤ s.lif.inbox.length →
        exec (.receivePost began samples) s = .next (setAck false (count .inboxFull s))) ∧
      (∀ p, s.ps.state = .active ∨ s.ps.state = .doze → began = false →
        judgePost samples = some p → dozeDrops s p = false → inboxBars s p = false →
        ∃ t, exec (.receivePost began samples) s = .next t ∧ t.lif.acked = true))

/-- A taken post does what the command of its kind does: beats, allowances, claims and power modes
reach their blocks, a request addressed to the own station reaches admission with the fields its
payload spells, and any other post changes nothing (R182, R183, R190, R204; log 1). A heard request
whose payload spells no request of its kind, one of a wrong length among them, is refused BAD_ARG and
changes nothing (R191, R203).
The kind codes, and the payload of each request byte by byte: the ask tag first, SAVE_DATA's toggle in its
place, then the fields in the order of the rule, most significant byte first, zone, trim and transpose in
two's complement, optional fields behind a presence byte with one bit each; a payload of another length
fits no request (R190, R203, R204). A flag is set by any byte but 0, and further bits of a presence byte
are ignored, which is the model's choice (log 8). -/
def Obligations.TakenPostRunsItsCommand : Prop :=
  (∀ (samples : List BitSamples) (p : RxPost) (s : State),
    s.ps.state = .active ∨ s.ps.state = .doze → s.lif.sending = none →
    judgePost samples = some p → dozeDrops s p = false → inboxBars s p = false →
    let t := setAck true (count .postsTaken s)
    (p.kindCode = 3 → exec (.receivePost false samples) s = exec (.beat p.source p.payload) t) ∧
    (p.kindCode = 2 →
      exec (.receivePost false samples) s = exec (.allowance p.source p.payload) t) ∧
    (p.kindCode = 4 → exec (.receivePost false samples) s = exec (.claim p.source p.payload) t) ∧
    (p.kindCode = 1 → p.payload = [1] →
      exec (.receivePost false samples) s = exec (.powerModeDoze p.source p.target) t) ∧
    (p.kindCode = 1 → p.payload = [2] →
      exec (.receivePost false samples) s = exec (.powerModeAwake p.source p.target) t) ∧
    (p.kindCode = 1 → p.payload = [3] →
      exec (.receivePost false samples) s = exec (.powerModeOffSoon p.source p.target) t) ∧
    (∀ k c, kindOfCode p.kindCode = some k → k.isRequest = true → p.target = s.lif.own →
      p.payload ≠ [] → requestOf c = some (entryOf k p) →
      exec (.receivePost false samples) s = exec c t) ∧
    (∀ k, kindOfCode p.kindCode = some k → k.isRequest = true → p.target = s.lif.own →
      let lengths : List (Kind × Nat) := [(.ident, 1), (.stopSound, 3), (.masterLevel, 2),
        (.playRumble, 4), (.steadyRumble, 6), (.stopRumble, 2), (.motorCheck, 1), (.saveClose, 4),
        (.saveRead, 6), (.saveErase, 2), (.saveInfo, 2), (.clockRead, 1), (.clockAccept, 1),
        (.clockTrim, 2), (.appointClear, 2), (.appointList, 2), (.noticeEnable, 3),
        (.noticeRead, 1), (.statsRead, 2)]
      (∀ n, (k, n) ∈ lengths → p.payload.length ≠ n → ∀ c, requestOf c ≠ some (entryOf k p)) ∧
      ∀ tag rest, p.payload = tag :: rest → (∀ c, requestOf c ≠ some (entryOf k p)) →
        let a : Ask := { source := p.source, priority := p.priority, tag := tag.toNat }
        Heard t a k → exec (.receivePost false samples) s = .next (reply a k .badArg .none t)) ∧
    (kindOfCode p.kindCode = none ∨ (16 ≤ p.kindCode ∧ p.target ≠ s.lif.own) ∨
        (16 ≤ p.kindCode ∧ p.payload = []) ∨ (8 ≤ p.kindCode ∧ p.kindCode < 16) ∨
        (p.kindCode = 1 ∧ p.payload ≠ [1] ∧ p.payload ≠ [2] ∧ p.payload ≠ [3]) →
      exec (.receivePost false samples) s = .next t)) ∧
  (let codes : List (Nat × Kind) := [(0x01, .powerMode), (0x02, .allowance), (0x03, .beat),
     (0x04, .claim), (0x08, .hello), (0x09, .notice), (0x0A, .reply), (0x0B, .readData),
     (0x10, .ident), (0x11, .playSound), (0x12, .stopSound), (0x13, .voiceSet), (0x14, .masterLevel),
     (0x18, .playRumble), (0x19, .steadyRumble), (0x1A, .stopRumble), (0x1B, .motorCheck),
     (0x20, .saveOpen), (0x21, .saveData), (0x22, .saveClose), (0x23, .saveRead), (0x24, .saveErase),
     (0x25, .saveInfo), (0x28, .clockSet), (0x29, .clockRead), (0x2A, .clockAccept),
     (0x2B, .clockTrim), (0x2C, .appointSet), (0x2D, .appointClear), (0x2E, .appointList),
     (0x30, .noticeEnable), (0x31, .noticeRead), (0x32, .statsRead)]
   (∀ n k, kindOfCode n = some k ↔ (n, k) ∈ codes) ∧
   ∀ n k, (n, k) ∈ codes → k.code = n ∧ (k.isRequest = true ↔ 0x10 ≤ n)) ∧
  (∀ (k : Kind) (p : RxPost) (tag : Byte) (rest : List Byte), p.payload = tag :: rest →
    entryOf k p = {
      ask := {
        source := p.source, priority := p.priority
        tag := if k = .saveData then 0 else tag.toNat }
      request := readRequest k p.payload }) ∧
  ∀ (t a b c d e f g : Byte) (w du ak de su re tr le : Option Byte) (rest : List Byte),
    let n (x : Byte) : Nat := x.toNat
    let two (x y : Byte) : Nat := 256 * x.toNat + y.toNat
    let four (x y z u : Byte) : Nat := 65536 * two x y + two z u
    let signed (x : Byte) : Int := if x.toNat < 128 then x.toNat else (x.toNat : Int) - 256
    let set (x : Byte) : Bool := decide (x ≠ 0)
    let opts (l : List (Option Byte)) : List Byte := l.flatMap Option.toList
    let named (mask : Byte) (l : List (Option Byte)) : Prop :=
      ∀ i < l.length, mask.getLsbD i = (l[i]?.getD none).isSome
    let due (mask : Byte) (k : Nat) : Nat := (List.range k).countP fun i => mask.getLsbD i
    let voice : VoiceFields := {
      waveform := w.map n, duty := du.map n, attack := ak.map n, decay := de.map n
      sustain := su.map n, release := re.map n, transpose := tr.map signed, level := le.map n }
    let voices := [w, du, ak, de, su, re, tr, le]
    readRequest .ident [t] = .ident ∧
    (named f voices → readRequest .playSound ([t, a, b, c, d, f] ++ opts voices) =
      .playSound (n a) (n b) (n c) (set d) voice) ∧
    readRequest .stopSound [t, a, b] = .stopSound (n a) (n b) ∧
    (named b voices → readRequest .voiceSet ([t, a, b] ++ opts voices) = .voiceSet (n a) voice) ∧
    readRequest .masterLevel [t, a] = .masterLevel (n a) ∧
    readRequest .playRumble [t, a, b, c] = .playRumble (n a) (n b) (set c) ∧
    readRequest .steadyRumble [t, a, b, c, d, e] =
      .steadyRumble (n a) (two b c) (n d) (set e) ∧
    readRequest .stopRumble [t, a] = .stopRumble (n a) ∧
    readRequest .motorCheck [t] = .motorCheck ∧
    readRequest .saveOpen [t, a, 0, b, c] = .saveOpen (n a) (.replace (two b c)) ∧
    readRequest .saveOpen [t, a, 1, b, c, d, e] = .saveOpen (n a) (.patch (two b c) (two d e)) ∧
    (2 ≤ n b → readRequest .saveOpen ([t, a, b] ++ rest) = .saveOpen (n a) (.other (n b))) ∧
    readRequest .saveData (t :: rest) = .saveData (n t) rest ∧
    readRequest .saveClose [t, a, b, c] = .saveClose (two a b) (n c) ∧
    readRequest .saveRead [t, a, b, c, d, e] = .saveRead (n a) (two b c) (two d e) ∧
    readRequest .saveErase [t, a] = .saveErase (n a) ∧
    readRequest .saveInfo [t, a] = .saveInfo (n a) ∧
    (named e [w, du] → readRequest .clockSet ([t, a, b, c, d, e] ++ opts [w, du]) =
      .clockSet (four a b c d) (w.map signed) (du.map n)) ∧
    readRequest .clockRead [t] = .clockRead ∧
    readRequest .clockAccept [t] = .clockAccept ∧
    readRequest .clockTrim [t, a] = .clockTrim (signed a) ∧
    (named g [w] → readRequest .appointSet ([t, a, b, c, d, e, f, g] ++ opts [w]) =
      .appointSet (n a) (four b c d e) (n f) (w.map n)) ∧
    readRequest .appointClear [t, a] = .appointClear (n a) ∧
    readRequest .appointList [t, a] = .appointList (n a) ∧
    readRequest .noticeEnable [t, a, b] = .noticeEnable (two a b) ∧
    readRequest .noticeRead [t] = .noticeRead ∧
    readRequest .statsRead [t, a] = .statsRead (n a) ∧
    (rest.length ≠ due f 8 →
      readRequest .playSound ([t, a, b, c, d, f] ++ rest) = .misfit .playSound) ∧
    (rest.length ≠ due b 8 → readRequest .voiceSet ([t, a, b] ++ rest) = .misfit .voiceSet) ∧
    (rest.length ≠ 2 → readRequest .saveOpen ([t, a, 0] ++ rest) = .misfit .saveOpen) ∧
    (rest.length ≠ 4 → readRequest .saveOpen ([t, a, 1] ++ rest) = .misfit .saveOpen) ∧
    (rest.length ≠ due e 2 →
      readRequest .clockSet ([t, a, b, c, d, e] ++ rest) = .misfit .clockSet) ∧
    (rest.length ≠ due g 1 →
      readRequest .appointSet ([t, a, b, c, d, e, f, g] ++ rest) = .misfit .appointSet) ∧
    ∀ k m, (k, m) ∈ [(Kind.playSound, 6), (.voiceSet, 3), (.saveOpen, 3), (.clockSet, 6),
      (.appointSet, 8)] → rest.length < m → readRequest k rest = .misfit k

/-- TRANSMIT_START moves the queue's first post to the transmitter when it holds none, is not SILENT
and the part serves the line; otherwise nothing changes (R188, R189, R192; log 26).
SILENT_END: the transmitter leaves SILENT at its due count with the run count 0, SILENCES counts
and LINE_TROUBLE carries the number of posts removed (R189, R193; log 2). -/
def Obligations.TransmitterStartsAndLeavesSilence : Prop :=
  (∀ s : State,
     (∀ p rest, s.ps.state = .active ∨ s.ps.state = .doze → s.lif.sending = none →
       s.lif.silentEnd = none → s.lif.queue = p :: rest →
       exec .transmitStart s = .next { s with
         lif := { s.lif with sending := some p, queue := rest } }) ∧
     (s.ps.state = .starting ∨ s.ps.state = .keep ∨ s.lif.sending ≠ none ∨
         s.lif.silentEnd ≠ none ∨ s.lif.queue = [] →
       exec .transmitStart s = .next s)) ∧
  (∀ (due : Nat) (s : State), s.lif.silentEnd = some due →
     exec .silentEnd s = .next (raiseNotice (.lineTrouble s.lif.removed) (count .silences
       { reach due s with lif := { s.lif with silentEnd := none, runCount := 0, removed := 0 } }))) ∧
  (∀ s : State, s.lif.silentEnd = none → exec .silentEnd s = .next s)

/-- The four endings of an own post, told by the bits its sender reads back. A bit of the start bit and
header sent recessive and read dominant loses arbitration: ARB_LOSSES counts and the post, unless it is
a CLAIM and a newer one is queued, stands before the posts of its header again; with 8 posts queued, the
one of the lower rank is lost and QUEUE_DROPS counts. Else a bit from the length to the last check bit
read other than sent is damage, and a recessive acknowledge slot leaves the post unheard: it counts and
raises the run count, and at 8 the transmitter becomes SILENT for 262,144 counts and keeps of the queue
its CLAIM alone. A dominant slot means sent: POSTS_SENT counts and the run count is 0. A CLAIM's outcome
goes to the Budget Unit after that (R179, R186, R188, R189, R144; the order at the eighth failure log 31;
inserted bits, missing samples and a dominant header bit read recessive log 36); with no own post being
sent nothing changes, which is the model's choice (log 26).
The outcome of a CLAIM at the Budget Unit. Acknowledged: C_ack and t_ack are renewed, the
claim-age guard ends with a recomputation, and a raise that waits for this very value opens its settle
window. Ended unacknowledged: a raise that waits for this value announces it again. Other posts report
nothing (R144, R151, R156, R188). -/
def Obligations.PostSendEndingsActAndReportClaims : Prop :=
  (∀ (p : TxPost) (read : List BitSamples) (s : State), s.lif.sending = some p →
     let run := exec (.postSendEnd read) s
     let idle : LineIf := { s.lif with sending := none }
     let header :=
       (List.range 16).map fun i => (p.priority * 16384 + p.body.kind.code * 256 + p.source * 16 +
         p.target).testBit (15 - i)
     let head := (stuff (false :: header)).length
     let slot := (wireBits p.header p.body.payload).length
     let got (i : Nat) : Option Bool := if i < read.length then read[i]?.map majority else p.line[i]?
     let lost := ∃ i < head, p.line[i]? = some true ∧ got i = some false
     let damaged := ∃ i, head ≤ i ∧ i < slot ∧ got i ≠ p.line[i]?
     let unheard := got slot = some true
     (lost →
       (p.isClaim = false ∨ s.lif.queue.any TxPost.isClaim = false → s.lif.queue.length < 8 →
         run = .next (count .arbLosses { s with lif := { idle with
           queue := s.lif.queue.takeWhile (fun x => decide (x.header < p.header)) ++
             p :: s.lif.queue.dropWhile (fun x => decide (x.header < p.header)) } })) ∧
       (p.isClaim = true → s.lif.queue.any TxPost.isClaim = true →
         run = .next (count .arbLosses { s with lif := idle })) ∧
       (∀ rest last, p.isClaim = false ∨ s.lif.queue.any TxPost.isClaim = false →
         s.lif.queue = rest ++ [last] → rest.length = 7 →
         let back := count .arbLosses { s with lif := idle }
         (p.header < last.header → run =
           .next (count .queueDrops { back with lif := { idle with
             queue := rest.takeWhile (fun x => decide (x.header < p.header)) ++
               p :: rest.dropWhile (fun x => decide (x.header < p.header)) } })) ∧
         (last.header ≤ p.header → run = .next (count .queueDrops back)))) ∧
     (∀ st, ¬ lost → (damaged ∧ st = .ownDamaged) ∨ (¬ damaged ∧ unheard ∧ st = .unheard) →
       (s.lif.runCount < 7 → run = .next (reportClaim p false (count st
         { s with lif := { idle with runCount := s.lif.runCount + 1 } }))) ∧
       (7 ≤ s.lif.runCount → run = .next (reportClaim p false (count st
         { s with lif := { idle with
           runCount := 8, silentEnd := some (s.now + 262144)
           removed := s.lif.queue.countP (fun x => !x.isClaim)
           queue := s.lif.queue.filter TxPost.isClaim } })))) ∧
     (¬ lost → ¬ damaged → ¬ unheard → run = .next (reportClaim p true (count .postsSent
       { s with lif := { idle with runCount := 0 } })))) ∧
  (∀ (priority source target c : Nat) (s : State),
     let p : TxPost := ⟨priority, source, target, .claim c⟩
     let acked (raise : Option Raise) : Budget :=
       { s.bu with acked := some (c, s.now), holding := false, raise := raise }
     let opened : Option Raise := s.bu.raise.map fun r =>
       if r.settleStart = none ∧ r.planned = c then { r with settleStart := some s.now } else r
     (s.bu.holding = false → reportClaim p true s = { s with bu := acked opened }) ∧
     (s.bu.holding = true → reportClaim p true s = recompute { s with bu := acked opened }) ∧
     (s.bu.raise = some { planned := c, settleStart := none } →
       reportClaim p false s = announce c s) ∧
     (s.bu.raise ≠ some { planned := c, settleStart := none } → reportClaim p false s = s) ∧
     (∀ (q : TxPost) (ok : Bool), q.isClaim = false → reportClaim q ok s = s)) ∧
  ∀ (read : List BitSamples) (s : State), s.lif.sending = none →
    exec (.postSendEnd read) s = .next s

/-! ### Requests -/

/-- A request of a station outside the client mask is refused NOT_CLIENT; in DOZE one that is not
served there is refused DOZING; either way a SAVE_DATA is dropped (R183, R184, R190).
A heard request is handed to its block at once. One of the Save Store's that comes while the write
stream is COPYING joins the inbox and waits, in an empty inbox too; behind a waiting inbox head every
request joins the tail, and at a full inbox it is not taken. Where the part would not take the post,
nothing changes (R12, R181, R184, R185; log 1).
The hand-on of the inbox: its head leaves it and is served while its owner can take it, then the next,
in order; it stops at an empty inbox and at a head of the Save Store's while the write stream is, or has
become again, COPYING (R12, R185). -/
def Obligations.RequestIsRefusedServedOrWaits : Prop :=
  (∀ (c : Instr) (e : Entry) (s : State), requestOf c = some e →
     s.ps.state = .active ∨ (s.ps.state = .doze ∧ e.ask.priority = 0) →
     let refused (code : Code) : State :=
       if e.request.kind = .saveData then s else reply e.ask e.request.kind code .none s
     (s.settings.clientMask.getLsbD e.ask.source = false → exec c s = .next (refused .notClient)) ∧
     (s.settings.clientMask.getLsbD e.ask.source = true → s.ps.state = .doze →
       e.request.kind.servedInDoze = false → exec c s = .next (refused .dozing))) ∧
  (∀ (c : Instr) (e : Entry) (s : State), requestOf c = some e →
     (Heard s e.ask e.request.kind → exec c s = .next (serve e s)) ∧
     (∀ head rest, s.ps.state = .active → s.settings.clientMask.getLsbD e.ask.source = true →
       s.lif.inbox = head :: rest → head.request.kind.owner = .saveStore → s.ss.copying = true →
       (rest.length < 3 → exec c s = .next { s with
         lif := { s.lif with inbox := s.lif.inbox ++ [e] } }) ∧
       (3 ≤ rest.length → exec c s = .next s)) ∧
     (s.ps.state = .active ∨ (s.ps.state = .doze ∧ e.ask.priority = 0 ∧
         e.request.kind.servedInDoze = true) →
       s.settings.clientMask.getLsbD e.ask.source = true → s.lif.inbox = [] →
       e.request.kind.owner = .saveStore → s.ss.copying = true →
       exec c s = .next { s with lif := { s.lif with inbox := [e] } }) ∧
     (s.ps.state = .starting ∨ s.ps.state = .keep ∨
         (s.ps.state = .doze ∧ e.ask.priority ≠ 0) → exec c s = .next s)) ∧
  ∀ s : State,
    let copying := ∃ w, s.ss.write = some w ∧ w.condition = .copying
    (s.lif.inbox = [] → drainInbox s = s) ∧
    ∀ head rest, s.lif.inbox = head :: rest →
      (head.request.kind.owner = .saveStore ∧ copying → drainInbox s = s) ∧
      (head.request.kind.owner ≠ .saveStore ∨ ¬ copying →
        drainInbox s = drainInbox (serve head { s with lif := { s.lif with inbox := rest } }))

/-- IDENT, CLOCK_READ, SAVE_INFO and APPOINT_LIST are answered with what their rules list, and change
nothing else (R202, R43, R24, R49).
NOTICE_ENABLE, NOTICE_READ and STATS_READ: the mask is replaced, the flags are read and cleared in
one step, and the eight counters of a group are read and cleared, the other group's left alone; the
counts that the reply itself brings fall after the clear, QUEUE_DROPS of a reply that meets a full queue
too, which is the model's choice (R196, R197, R198, R199; log 34). -/
def Obligations.ReadingAndNoticeRequestsAct : Prop :=
  (∀ (a : Ask) (s : State),
     (Heard s a .ident → exec (.ident a) s = .next (reply a .ident .done
       (.identity s.lif.own s.ps.startKind
         ((List.range 8).countP fun k => (s.ss.slot k).state == .live) s.ps.settingsValid) s)) ∧
     (Heard s a .clockRead → exec (.clockRead a) s = .next (reply a .clockRead .done (.clock {
       running := s.cal.running, time := s.cal.time
       date := if s.cal.running then some (s.cal.localDate s.cal.time) else none
       clock := if s.cal.running then some (s.cal.localClock s.cal.time) else none
       weekday := if s.cal.running then some (s.cal.weekday s.cal.time) else none
       gameDay := if s.cal.running then some (s.cal.gameDay s.cal.time) else none
       zone := s.cal.zone, hour := s.cal.hour, rewound := s.cal.rewound, rewind := s.cal.rewind
       mark := s.cal.mark, ended := s.cal.ended, trimUse := s.cal.trimUse }) s)) ∧
     (∀ slot, Heard s a .saveInfo → slot < 8 → exec (.saveInfo a slot) s =
       .next (reply a .saveInfo .done (.slotInfo {
         state := (s.ss.slot slot).state, size := (s.ss.slot slot).size
         stamp := (s.ss.slot slot).stamp, day := (s.ss.slot slot).day
         commits := (s.ss.slot slot).commits
         elapsed := (s.cal.elapsed (s.ss.slot slot).stamp).1
         ahead := (s.cal.elapsed (s.ss.slot slot).stamp).2
         free := (List.range 128).countP fun p => (s.ss.page p).mark == .free
         guarded := s.guard.asserted, writing := s.ss.writing slot }) s)) ∧
     (∀ slot, Heard s a .saveInfo → 8 ≤ slot →
       exec (.saveInfo a slot) s = .next (reply a .saveInfo .badArg .none s)) ∧
     (∀ start, Heard s a .appointList → start < 8 → exec (.appointList a start) s =
       .next (reply a .appointList .done (.appointments s.cal.appointments.length
         ((s.cal.appointments.drop start).take 4)) s)) ∧
     (∀ start, Heard s a .appointList → 8 ≤ start →
       exec (.appointList a start) s = .next (reply a .appointList .badArg .none s))) ∧
  (∀ (a : Ask) (s : State),
     (∀ mask, Heard s a .noticeEnable → mask ≤ 4095 → exec (.noticeEnable a mask) s =
       .next (reply a .noticeEnable .done (.maskAndFlags (BitVec.ofNat 12 mask) s.nu.pendingFlags)
         { s with nu := { s.nu with mask := BitVec.ofNat 12 mask } })) ∧
     (∀ mask, Heard s a .noticeEnable → 4095 < mask → exec (.noticeEnable a mask) s =
       .next (reply a .noticeEnable .badArg .none s)) ∧
     (Heard s a .noticeRead → exec (.noticeRead a) s =
       .next (reply a .noticeRead .done (.flagsAndMask s.nu.pendingFlags s.nu.mask)
         { s with nu := { s.nu with pendingFlags := 0 } })) ∧
     (∀ group, Heard s a .statsRead → group < 2 → ∃ (l : List Counter) (cs : Vector Counter 16),
       exec (.statsRead a group) s = .next (reply a .statsRead .done (.counters l)
         { s with nu := { s.nu with counters := cs } }) ∧
       l.length = 8 ∧
       ∀ i : Fin 16,
         (i.val / 8 = group → l[i.val % 8]? = some s.nu.counters[i] ∧
           cs[i] = { count := 0, overflow := false }) ∧
         (i.val / 8 ≠ group → cs[i] = s.nu.counters[i])) ∧
     (∀ group, Heard s a .statsRead → 2 ≤ group → exec (.statsRead a group) s =
       .next (reply a .statsRead .badArg .none s)))

/-! ### The Calendar -/

/-- The game day is the floor of (X + 900·Z − 3600·Hr) / 86400, lies in −2..36525 for every time and
every zone and hour in range, and meets both ends; the commit, CLOCK_READ, CLOCK_SET, the day-turn
check and the elapsed days use it with the present zone and hour; UNSET gives none (R38). -/
def Obligations.GameDayIsTheFloorAndInRange : Prop :=
  ∀ c : Calendar,
    (∀ x : Nat, c.gameDay x = ⌊((x : ℚ) + 900 * c.zone - 3600 * c.hour) / 86400⌋) ∧
    (∀ x : Nat, x ≤ 3155759999 → -48 ≤ c.zone → c.zone ≤ 56 → c.hour ≤ 23 →
      -2 ≤ c.gameDay x ∧ c.gameDay x ≤ 36525) ∧
    (c.zone = -48 → c.hour = 23 → c.gameDay 0 = -2) ∧
    (c.zone = 56 → c.hour = 0 → c.gameDay 3155759999 = 36525) ∧
    (c.running = false → c.today = none ∧ c.report.gameDay = none ∧
      (∀ x, c.elapsed x = (none, false)) ∧ ∀ w r, (committedSlot c w r).day = none) ∧
    (c.running = true → c.today = some (c.gameDay c.time) ∧
      c.report.gameDay = some (c.gameDay c.time) ∧
      (∀ x : Nat, c.elapsed (some x) = (some (c.gameDay c.time - c.gameDay x).toNat,
        decide (c.gameDay c.time < c.gameDay x))) ∧
      ∀ w r, (committedSlot c w r).day = some (c.gameDay c.time)) ∧
    (∀ time zone hour,
      (c.set time zone hour).lastDay = some ((c.set time zone hour).gameDay time)) ∧
    (∀ s : State, s.cal = c → c.running = true → s.serving = true →
      (dayTurnCheck s).cal.lastDay = some (c.gameDay c.time))

/-- CLOCK_ACCEPT: refused UNSET while UNSET; otherwise REWOUND is cleared, the rewind amount becomes 0,
W becomes T and DONE carries both; nothing else changes, and with REWOUND already clear nothing at all
(R42). -/
def Obligations.ClockAcceptEndsTheRewind : Prop :=
  ∀ (a : Ask) (s : State), Heard s a .clockAccept →
    (s.cal.running = false →
      exec (.clockAccept a) s = .next (reply a .clockAccept .unset .none s)) ∧
    (s.cal.running = true → exec (.clockAccept a) s =
      .next (reply a .clockAccept .done (.clockAccepted s.cal.time s.cal.time)
        { s with cal := { s.cal with rewound := false, rewind := 0, mark := s.cal.time } })) ∧
    (s.cal.running = true → CalendarSound s.cal → s.cal.rewound = false →
      exec (.clockAccept a) s =
        .next (reply a .clockAccept .done (.clockAccepted s.cal.time s.cal.mark) s))

/-- CLOCK_SET with every argument in range sets T, END, zone, hour, W and the last game day in one
step, the appointment check follows, and DONE carries the result; any argument out of range is refused
BAD_ARG with no change. CLOCK_TRIM stores the clamped trim as requested and leaves the trim in use
(R41, R35, R50). -/
def Obligations.ClockSetAndTrimAct : Prop :=
  ∀ (a : Ask) (s : State),
    (∀ (time : Nat) (zone : Option Int) (hour : Option Nat), Heard s a .clockSet →
      time ≤ 3155759999 → (∀ z, zone = some z → -48 ≤ z ∧ z ≤ 56) →
      (∀ h, hour = some h → h ≤ 23) →
      let back : Bool := s.cal.running && decide (time < s.cal.mark)
      let c : Calendar := { s.cal with
        running := true, time := time, prescaler := 0, ended := decide (time = 3155759999)
        zone := zone.getD s.cal.zone, hour := hour.getD s.cal.hour
        mark := if back then s.cal.mark else time
        rewound := s.cal.rewound || back
        rewind := if back then s.cal.mark - time else s.cal.rewind }
      exec (.clockSet a time zone hour) s =
        .next (reply a .clockSet .done
          (.clockSet time c.mark c.rewound c.rewind (c.gameDay time))
          (appointmentCheck { s with cal := { c with lastDay := some (c.gameDay time) } }))) ∧
    (∀ (time : Nat) (zone : Option Int) (hour : Option Nat), Heard s a .clockSet →
      3155759999 < time ∨ (∃ z, zone = some z ∧ (z < -48 ∨ 56 < z)) ∨
        (∃ h, hour = some h ∧ 23 < h) →
      exec (.clockSet a time zone hour) s = .next (reply a .clockSet .badArg .none s)) ∧
    (∀ trim : Int, Heard s a .clockTrim → exec (.clockTrim a trim) s =
      .next (reply a .clockTrim .done (.trim (max (-127) (min trim 127)) s.cal.trimUse)
        { s with cal := { s.cal with trimRequested := max (-127) (min trim 127) } }))

/-- APPOINT_SET applies its four checks in order and changes nothing where one fails; otherwise the
entry of the same tag leaves, the new one takes its place by due and tag, and DONE carries the number
of entries (R46, R47, R191). -/
def Obligations.AppointSetChecksInOrder : Prop :=
  ∀ (a : Ask) (tag due period : Nat) (link : Option Nat) (s : State), Heard s a .appointSet →
    let others := s.cal.appointments.filter fun e => e.tag != tag
    exec (.appointSet a tag due period link) s = .next (
      if 255 ≤ tag ∨ 3 ≤ period ∨ (∃ k, link = some k ∧ 8 ≤ k) ∨ 3155759999 < due then
        reply a .appointSet .badArg .none s
      else if s.cal.running = false then reply a .appointSet .unset .none s
      else if ∃ k, link = some k ∧ (s.ss.slot k).state = .empty then
        reply a .appointSet .empty .none s
      else if 8 ≤ others.length then reply a .appointSet .listFull .none s
      else
        let e : Appointment := {
          tag := tag, due := due, link := link
          period := if period = 0 then .none else if period = 1 then .daily else .weekly }
        let earlier : Appointment → Bool := fun x =>
          decide (x.due < due ∨ (x.due = due ∧ x.tag < tag))
        reply a .appointSet .done (.entries (others.length + 1)) { s with cal := { s.cal with
          appointments := others.takeWhile earlier ++ e :: others.dropWhile earlier } })

/-- APPOINT_CLEAR: the entry of the tag leaves and DONE carries the number left; a tag that no entry
has is refused NO_SUCH; ALL (255) empties the list and answers DONE with 0, an empty list included and
while UNSET, where the list is empty (R48). -/
def Obligations.AppointClearRemovesEntries : Prop :=
  ∀ (a : Ask) (s : State), Heard s a .appointClear →
    (∀ tag < 255, (∃ e ∈ s.cal.appointments, e.tag = tag) →
      let l := s.cal.appointments.filter fun e => e.tag != tag
      exec (.appointClear a tag) s = .next (reply a .appointClear .done (.entries l.length)
        { s with cal := { s.cal with appointments := l } })) ∧
    (∀ tag < 255, (∀ e ∈ s.cal.appointments, e.tag ≠ tag) →
      exec (.appointClear a tag) s = .next (reply a .appointClear .noSuch .none s)) ∧
    exec (.appointClear a 255) s = .next (reply a .appointClear .done (.entries 0)
      { s with cal := { s.cal with appointments := [] } }) ∧
    (CalendarSound s.cal → s.cal.running = false → s.cal.appointments = [])

/-- The crystal counts of a Calendar that is RUNNING below its maximum: each but the last of a second
raises the prescaler, where a second has 32768 counts and, in the last second of a minute, 32768 + trim
in use. The last count, which SECOND_STEP brings, is the second step: T rises by one, the prescaler
restarts, trim is loaded at a whole minute, W follows T once T has reached it, END is set at the maximum;
in ACTIVE and DOZE the day-turn check and then the appointment check follow. SECOND_STEP before the last
count, so right after a CLOCK_SET, and while UNSET or with END set, changes nothing (R32, R33, R40, R41,
R44, R50; log 26). The coin-cell sampler counts the same crystal (R162; the idle steps that count it log
3); that it stops at the end of its period, 327,680 or 2,097,152 counts, and waits there for its sample is
the model's choice (log 18). -/
def Obligations.SecondStepCountsAndChecks : Prop :=
  ∀ s : State,
    let length : Int := if s.cal.time % 60 = 59 then 32768 + s.cal.trimUse else 32768
    let counts := s.cal.running = true ∧ s.cal.ended = false
    let last := length ≤ s.cal.prescaler + 1
    let most := if s.ps.state = .keep then 2097152 else 327680
    let u : State := { s with ps := { s.ps with cellCount := min (s.ps.cellCount + 1) most } }
    let t := s.cal.time + 1
    let c : Calendar := { s.cal with
      time := t, prescaler := 0
      trimUse := if t % 60 = 0 then s.cal.trimRequested else s.cal.trimUse
      mark := max s.cal.mark t
      ended := decide (3155759999 ≤ t) }
    let turned : State := { u with cal := { c with lastDay := some (c.gameDay t) } }
    (counts → ¬ last → crystalCount s = { u with
      cal := { s.cal with prescaler := s.cal.prescaler + 1 } } ∧ exec .secondStep s = .next s) ∧
    (¬ counts → crystalCount s = u ∧ exec .secondStep s = .next s) ∧
    (counts → last → exec .secondStep s = .next (crystalCount s)) ∧
    (counts → last → s.ps.state = .starting ∨ s.ps.state = .keep →
      exec .secondStep s = .next { u with cal := c }) ∧
    (counts → last → s.ps.state = .active ∨ s.ps.state = .doze →
      s.cal.lastDay = some (c.gameDay t) →
      exec .secondStep s = .next (appointmentCheck { u with cal := c })) ∧
    (counts → last → s.ps.state = .active ∨ s.ps.state = .doze →
      s.cal.lastDay ≠ some (c.gameDay t) →
      exec .secondStep s = .next (appointmentCheck
        (raiseNotice (.dayTurn (c.gameDay t) (c.localDate t) (c.weekday t)) turned)))

/-- The appointment check raises APPOINTMENT once for each due entry, in list order, with its missed
count, and leaves no entry due: a NONE entry is gone, a repeating one stands at its first due after T
or is gone where that lies beyond the largest T, and every other entry stays (R50, R51). -/
def Obligations.AppointmentCheckFiresEachDueEntryOnce : Prop :=
  ∀ s : State, AppointmentsSound s → s.cal.running = true →
    s.ps.state = .active ∨ s.ps.state = .doze →
    ∃ l : List Appointment,
      appointmentCheck s =
        (s.cal.appointments.filter fun e => decide (e.due ≤ s.cal.time)).foldl
          (fun t e => raiseNotice (.appointment e.tag (match e.period with
            | .none => 0
            | .daily => min ((s.cal.time - e.due) / 86400) 255
            | .weekly => min ((s.cal.time - e.due) / 604800) 255)) t)
          { s with cal := { s.cal with appointments := l } } ∧
      l.Pairwise appointmentBefore ∧
      ∀ x, x ∈ l ↔ ∃ e ∈ s.cal.appointments,
        (s.cal.time < e.due ∧ x = e) ∨
        (e.due ≤ s.cal.time ∧ e.period = .daily ∧ x.due ≤ 3155759999 ∧
          x = { e with due := e.due + ((s.cal.time - e.due) / 86400 + 1) * 86400 }) ∨
        (e.due ≤ s.cal.time ∧ e.period = .weekly ∧ x.due ≤ 3155759999 ∧
          x = { e with due := e.due + ((s.cal.time - e.due) / 604800 + 1) * 604800 })

/-! ### The Save Store -/

/-- SAVE_OPEN applies its checks in the order of R6 and changes nothing where one fails; otherwise it
opens the write stream, allocates no page, and DONE carries the needed pages and the stamp-ready flag
(R3, R6, R7). -/
def Obligations.SaveOpenChecksInOrderAndOpens : Prop :=
  ∀ (a : Ask) (slot : Nat) (s : State), Heard s a .saveOpen →
    let free := (List.range 128).countP fun p => (s.ss.page p).mark == .free
    let no (c : Code) : State := reply a .saveOpen c .none s
    let done (patch : Bool) (offset total needed : Nat) : State :=
      reply a .saveOpen .done (.opened needed s.cal.running) { s with ss := { s.ss with
        write := some {
          slot := slot, owner := a.source, patch := patch, offset := offset, total := total
          received := 0, toggle := 0, needed := needed, staged := [], condition := .opened
          lastActivity := s.now, held := [], postBytes := 0 } } }
    (∀ size, exec (.saveOpen a slot (.replace size)) s = .next (
      if 8 ≤ slot ∨ size = 0 ∨ 8192 < size then no .badArg
      else if s.ss.write ≠ none then no .busy
      else if s.guard.asserted = true then no .guarded
      else if free < (size + 255) / 256 then no .noSpace
      else done false 0 size ((size + 255) / 256))) ∧
    (∀ offset length, exec (.saveOpen a slot (.patch offset length)) s = .next (
      if 8 ≤ slot ∨ length = 0 ∨ 8192 < offset + length then no .badArg
      else if s.ss.write ≠ none then no .busy
      else if s.guard.asserted = true then no .guarded
      else if (s.ss.slot slot).state = .empty then no .empty
      else if (s.ss.slot slot).state = .damaged then no .damaged
      else if (s.ss.slot slot).size < offset then no .badArg
      else if free < (offset + length + 255) / 256 - offset / 256 then no .noSpace
      else done true offset length ((offset + length + 255) / 256 - offset / 256))) ∧
    (∀ mode, exec (.saveOpen a slot (.other mode)) s = .next (no .badArg))

/-- What becomes of a SAVE_DATA post: dropped without a stream of its own; last activity alone
refreshed for a payload of no or more than 30 bytes and for a BROKEN stream; a duplicate counted; the
stream broken by bytes beyond its total, with its staged pages FREE and STREAM_LOST raised; otherwise
its bytes are written in order (R8, R9, R193). -/
def Obligations.SaveDataIsTakenByTheRules : Prop :=
  ∀ (source priority toggle : Nat) (data : List Byte) (s : State),
    Heard s ⟨source, priority, 0⟩ .saveData →
    let run := exec (.saveData source priority toggle data) s
    let stream (w : WriteStream) : State := { s with ss := { s.ss with write := some w } }
    (s.ss.write = none → run = .next s) ∧
    ∀ w, s.ss.write = some w →
      let fresh : WriteStream := { w with lastActivity := s.now }
      let fits := 1 ≤ data.length ∧ data.length ≤ 30
      (source ≠ w.owner → run = .next s) ∧
      (source = w.owner → ¬ fits ∨ w.condition = .broken → run = .next (stream fresh)) ∧
      (source = w.owner → fits → w.condition = .opened → toggle ≠ w.toggle →
        run = .next (count .duplicatePages (stream fresh))) ∧
      (source = w.owner → fits → w.condition = .opened → toggle = w.toggle →
        w.total < w.received + data.length →
        run = .next (raiseTo w.owner (.streamLost w.slot .overlong w.received) { s with
          ss := { s.ss.markAll .free (w.staged.map Prod.snd) with write := some { fresh with
            staged := [], condition := .broken, held := [], postBytes := 0 } } })) ∧
      (source = w.owner → fits → w.condition = .opened → toggle = w.toggle →
        w.received + data.length ≤ w.total →
        run = .next (feed data (stream { fresh with postBytes := data.length })))

/-- The bytes of a post land in the staged pages of their positions, given as many FREE pages as it
reaches positions without a page, byte i of the stream at byte
(offset + i) mod 256 of position (offset + i) / 256. A position without a page takes the lowest FREE
page: in REPLACE as it is, in PATCH behind the slot's page list filled with 0xFF. The check of a REPLACE
page is made when its byte 255 is written. Bytes received rises by the post's bytes, the toggle flips,
and no other byte, mark, check, slot or stream changes (R1, R2, R8, R10, R11).
A PATCH byte whose position has no staged page but a LIVE page of the slot begins a page copy: the
lowest FREE page is STAGED for the position, the stream is COPYING, the post's bytes before it are
written, and it and the bytes after it are held (R2, R11, R12).
PAGE_COPY_COMPLETE. With an agreeing source check the copy holds the LIVE page's bytes, 0xFF from
the slot's present size on, and the held bytes are written; otherwise the stream breaks, its staged
pages are FREE, STREAM_LOST and then SLOT_DAMAGED are raised and the slot is DAMAGED. The inbox then
goes on (R11, R12, R185; the moment of the copy log 14); without a copy nothing but that happens, which
is the model's choice (log 26). -/
def Obligations.SaveDataBytesLandAndPagesAreCopied : Prop :=
  (∀ (data : List Byte) (w : WriteStream) (s : State), s.ss.write = some w →
     Memory.wf s.ss.ram = true → (∀ q ∈ w.staged, (s.ss.page q.2).mark = .staged q.1) →
     1 ≤ data.length → data.length ≤ w.postBytes → w.postBytes ≤ 30 →
     let base := w.offset + w.received + (w.postBytes - data.length)
     let reached := List.range' (base / 256) ((base + data.length - 1) / 256 + 1 - base / 256)
     let free := (List.range 128).filter fun p => (s.ss.page p).mark == .free
     (w.patch = true → ∀ pos ∈ reached,
       (w.pageAt pos).isSome = true ∨ (s.ss.slot w.slot).pages.length ≤ pos) →
     (reached.filter fun pos => (w.pageAt pos).isNone).length ≤ free.length →
     let fresh := (reached.filter fun pos => (w.pageAt pos).isNone).zip free
     let w' : WriteStream := { w with
       received := w.received + w.postBytes, toggle := 1 - w.toggle, condition := .opened
       held := [], postBytes := 0, staged := w.staged ++ fresh }
     let lands (i p a : Nat) : Prop :=
       w'.pageAt ((base + i) / 256) = some p ∧ a = 256 * p + (base + i) % 256
     ∃ ram owner,
       feed data s = { s with ss := { s.ss with ram := ram, owner := owner, write := some w' } } ∧
       (∀ i < data.length, ∃ p a, lands i p a ∧ some (Memory.read ram a) = data[i]?) ∧
       (∀ a, (∀ i < data.length, ∀ p, ¬ lands i p a) → Memory.read ram a =
         if w.patch = true ∧ a / 256 ∈ fresh.map Prod.snd then 0xFF
         else Memory.read s.ss.ram a) ∧
       ∀ p : Fin 128,
         (∀ pos, (pos, p.val) ∈ fresh → owner[p].mark = .staged pos) ∧
         (p.val ∉ fresh.map Prod.snd → owner[p].mark = s.ss.owner[p].mark) ∧
         (w.patch = false → (∃ i < data.length, lands i p (256 * p + 255)) →
           owner[p].check = crcBytes (pageContent ram p)) ∧
         (w.patch = true ∨ (∀ i < data.length, ¬ lands i p (256 * p + 255)) →
           owner[p].check = s.ss.owner[p].check)) ∧
  (∀ (before rest : List Byte) (b : Byte) (w : WriteStream) (p : Nat) (s : State),
     s.ss.write = some w → w.patch = true → Memory.wf s.ss.ram = true →
     before.length + 1 + rest.length ≤ w.postBytes → w.postBytes ≤ 30 →
     let base := w.offset + w.received + (w.postBytes - (before.length + 1 + rest.length))
     let pos := (base + before.length) / 256
     (∀ i < before.length, (w.pageAt ((base + i) / 256)).isSome = true) → w.pageAt pos = none →
     pos < (s.ss.slot w.slot).pages.length →
     p < 128 → (s.ss.page p).mark = .free → (∀ q < p, (s.ss.page q).mark ≠ .free) →
     let lands (i a : Nat) : Prop := ∃ q, w.pageAt ((base + i) / 256) = some q ∧
       a = 256 * q + (base + i) % 256
     ∃ ram, Memory.wf ram = true ∧
       feed (before ++ b :: rest) s = { s with ss := { s.ss.withMark p (.staged pos) with
         ram := ram
         write := some { w with
           staged := w.staged ++ [(pos, p)], condition := .copying, held := b :: rest } } } ∧
       (∀ i < before.length, ∀ a, lands i a → some (Memory.read ram a) = before[i]?) ∧
       ∀ a, (∀ i < before.length, ¬ lands i a) → Memory.read ram a = Memory.read s.ss.ram a) ∧
  (∀ (w : WriteStream) (l : List (Nat × Nat)) (pos p src : Nat) (s : State),
     s.ss.write = some w → w.condition = .copying → w.staged = l ++ [(pos, p)] →
     (s.ss.slot w.slot).pages[pos]? = some src → Memory.wf s.ss.ram = true →
     (s.ss.checkAgrees src = true → ∃ ram,
       exec .pageCopyComplete s = .next (drainInbox (feed w.held { s with ss := { s.ss with
         ram := ram, write := some { w with condition := .opened, held := [] } } })) ∧
       (∀ i < 256, Memory.read ram (256 * p + i) =
         if 256 * pos + i < (s.ss.slot w.slot).size then Memory.read s.ss.ram (256 * src + i)
         else 0xFF) ∧
       ∀ x, x < 256 * p ∨ 256 * p + 256 ≤ x → Memory.read ram x = Memory.read s.ss.ram x) ∧
     (s.ss.checkAgrees src = false →
       exec .pageCopyComplete s = .next (drainInbox (damageSlot w.slot .copyCheck
         (raiseTo w.owner (.streamLost w.slot .copyCheck w.received) { s with
           ss := { s.ss.markAll .free (w.staged.map Prod.snd) with write := some { w with
             staged := [], condition := .broken, held := [], postBytes := 0 } } }))))) ∧
  ∀ s : State, (∀ w, s.ss.write = some w → w.condition ≠ .copying) →
    exec .pageCopyComplete s = .next (drainInbox s)

/-- SAVE_CLOSE applies its checks in the order of R13: a bad mode, no stream and another owner leave
the stream; a BROKEN stream ends; ABANDON, a count that disagrees, GUARD and a PATCH of a DAMAGED slot
abandon it with its staged pages FREE; otherwise it commits in one step (R13, R16). -/
def Obligations.SaveCloseChecksInOrder : Prop :=
  ∀ (a : Ask) (count mode : Nat) (s : State), Heard s a .saveClose →
    let run := exec (.saveClose a count mode) s
    (2 ≤ mode → run = .next (reply a .saveClose .badArg .none s)) ∧
    (mode < 2 → s.ss.write = none → run = .next (reply a .saveClose .noStream .none s)) ∧
    ∀ w, mode < 2 → s.ss.write = some w →
      let ended : State := { s with ss := {
        s.ss.markAll .free (w.staged.map Prod.snd) with write := none } }
      run = .next (
        if a.source ≠ w.owner then reply a .saveClose .notOwner .none s
        else if w.condition = .broken then
          reply a .saveClose .broken .none { s with ss := { s.ss with write := none } }
        else if mode = 1 then reply a .saveClose .done .none ended
        else if count ≠ w.received ∨ w.received ≠ w.total then
          reply a .saveClose .countMismatch .none ended
        else if s.guard.asserted = true then reply a .saveClose .guarded .none ended
        else if w.patch = true ∧ (s.ss.slot w.slot).state = .damaged then
          reply a .saveClose .damaged .none ended
        else
          let x := s.ss.commit s.cal w
          reply a .saveClose .done
            (.committed (x.slot w.slot).stamp (x.slot w.slot).day (x.slot w.slot).commits)
            { s with ss := x })

/-- The commit: the staged pages carry LIVE with the slot and their positions, the pages that leave the
list are PINNED where the open snapshot names them and FREE otherwise, no other mark changes; a REPLACE
takes the staged pages as its list and pads the last with 0xFF, a PATCH, whose positions run on without
a gap, puts each staged page at its position or at the list's end; the slot is LIVE with its new size,
stamp, game day and commit count, the checks of the pages padded or patched are made, and every other
slot, byte and check stays (R14, R15, R16, R22). -/
def Obligations.CommitMakesTheStagedPagesLive : Prop :=
  ∀ (x : SaveStore) (c : Calendar) (w : WriteStream), w.slot < 8 → Memory.wf x.ram = true →
    (∀ q ∈ w.staged, q.2 < 128) → (w.staged.map Prod.snd).Nodup →
    (∀ p ∈ (x.slot w.slot).pages, p < 128) →
    (∀ q ∈ w.staged, q.2 ∉ (x.slot w.slot).pages) →
    let y := x.commit c w
    let old := x.slot w.slot
    let new := y.slot w.slot
    (new.state = .live ∧ new.commits = min (old.commits + 1) 65535 ∧
      new.stamp = (if c.running then some c.time else none) ∧
      new.day = (if c.running then some (c.gameDay c.time) else none) ∧
      new.size = (if w.patch then max old.size (w.offset + w.total) else w.total)) ∧
    (w.patch = false → new.pages = w.staged.map Prod.snd) ∧
    (∀ first, w.patch = true → w.staged.map Prod.fst = List.range' first w.staged.length →
      first ≤ old.pages.length →
      new.pages.length = max old.pages.length (first + w.staged.length) ∧
      (∀ q ∈ w.staged, new.pages[q.1]? = some q.2) ∧
      ∀ i, (∀ q ∈ w.staged, q.1 ≠ i) → new.pages[i]? = old.pages[i]?) ∧
    (∀ q ∈ w.staged, (y.page q.2).mark = .live w.slot q.1) ∧
    (∀ p ∈ old.pages, p ∉ new.pages →
      (y.page p).mark = if x.inSnapshot p then .pinned else .free) ∧
    (∀ p, (∀ q ∈ w.staged, q.2 ≠ p) → (p ∉ old.pages ∨ p ∈ new.pages) → y.page p = x.page p) ∧
    (∀ k, k ≠ w.slot → y.slot k = x.slot k) ∧ y.write = none ∧ y.read = x.read ∧
    y.scrub = x.scrub ∧
    (w.patch = true → y.ram = x.ram ∧
      (∀ q ∈ w.staged, (y.page q.2).check = crcBytes (pageContent x.ram q.2)) ∧
      ∀ p, (∀ q ∈ w.staged, q.2 ≠ p) → (y.page p).check = (x.page p).check) ∧
    (w.patch = false → ∀ l pos p, w.staged = l ++ [(pos, p)] → w.total % 256 ≠ 0 →
      (∀ i, w.total % 256 ≤ i → i < 256 → Memory.read y.ram (256 * p + i) = 0xFF) ∧
      (∀ a, a < 256 * p + w.total % 256 ∨ 256 * p + 256 ≤ a →
        Memory.read y.ram a = Memory.read x.ram a) ∧
      (y.page p).check = crcBytes (pageContent y.ram p) ∧
      ∀ q, q ≠ p → (y.page q).check = (x.page q).check) ∧
    (w.patch = false → w.total % 256 = 0 →
      y.ram = x.ram ∧ ∀ q, (y.page q).check = (x.page q).check)

/-- SAVE_READ applies its checks in order and changes nothing where one fails; otherwise it opens the
read stream on a snapshot of the slot's page list, with the length shortened to the slot's end, and
DONE carries the actual length (R19). -/
def Obligations.SaveReadChecksInOrderAndOpens : Prop :=
  ∀ (a : Ask) (slot offset length : Nat) (s : State), Heard s a .saveRead →
    let no (c : Code) : State := reply a .saveRead c .none s
    let size := (s.ss.slot slot).size
    exec (.saveRead a slot offset length) s = .next (
      if 8 ≤ slot ∨ length = 0 then no .badArg
      else if s.ss.read ≠ none then no .busy
      else if (s.ss.slot slot).state = .empty then no .empty
      else if (s.ss.slot slot).state = .damaged then no .damaged
      else if size ≤ offset then no .badArg
      else reply a .saveRead .done (.reading (min length (size - offset))) { s with
        ss := { s.ss with read := some {
          slot := slot, reader := a.source, snapshot := (s.ss.slot slot).pages, next := offset
          left := min length (size - offset), toggle := 0, verified := [], damaged := false } } })

/-- SAVE_ERASE: refused BAD_ARG, BUSY or GUARDED in that order; an EMPTY slot is DONE with nothing
changed; otherwise the slot becomes EMPTY, its pages PINNED where the open snapshot names them and FREE
otherwise, and the appointments linked to it are gone (R22, R23, R52). -/
def Obligations.SaveEraseEmptiesTheSlot : Prop :=
  ∀ (a : Ask) (slot : Nat) (s : State), Heard s a .saveErase →
    let run := exec (.saveErase a slot) s
    let busy := ∃ w, s.ss.write = some w ∧ w.slot = slot
    (8 ≤ slot → run = .next (reply a .saveErase .badArg .none s)) ∧
    (slot < 8 → busy → run = .next (reply a .saveErase .busy .none s)) ∧
    (slot < 8 → ¬ busy → s.guard.asserted = true →
      run = .next (reply a .saveErase .guarded .none s)) ∧
    (slot < 8 → ¬ busy → s.guard.asserted = false → (s.ss.slot slot).state = .empty →
      run = .next (reply a .saveErase .done .none s)) ∧
    (slot < 8 → ¬ busy → s.guard.asserted = false → (s.ss.slot slot).state ≠ .empty →
      ∃ owner slots,
        run = .next (reply a .saveErase .done .none { s with
          ss := { s.ss with owner := owner, slots := slots }
          cal := { s.cal with
            appointments := s.cal.appointments.filter fun e => e.link != some slot } }) ∧
        (∀ k : Fin 8, slots[k] = if k.val = slot then emptySlot else s.ss.slots[k]) ∧
        ∀ p : Fin 128, owner[p] =
          if p.val ∈ (s.ss.slot slot).pages then
            { s.ss.owner[p] with mark := if s.ss.inSnapshot p.val then .pinned else .free }
          else s.ss.owner[p])

/-- READ_DATA_HANDOVER: with 5 or fewer posts queued and every page that it needs verified, the next
READ_DATA leaves at priority 3 with the bytes of the snapshot, and the stream moves on or, with its
last bytes, ends with its PINNED pages FREE; a damaged stream hands the damaged post and ends; a full
queue and an unverified page hold it back (R20, R21, R22, R187), and with no read stream open nothing
changes, which is the model's choice (log 26).
READ_PAGE_VERIFY_COMPLETE examines the first page that the next READ_DATA needs and that is not yet
verified: it joins the verified set, or the stream is damaged, and with the page still LIVE in the slot
at its position the slot is DAMAGED and SLOT_DAMAGED raised (R20, R21); with nothing to verify, without a read
stream, with a damaged one or with every page that the next READ_DATA needs verified, nothing changes (log
26). -/
def Obligations.ReadDataIsVerifiedAndHandedFromTheSnapshot : Prop :=
  (∀ s : State,
     (s.ss.read = none ∨ 5 < s.lif.queue.length → exec .readDataHandover s = .next s) ∧
     (s.ss.endRead.read = none ∧ s.ss.endRead = { s.ss with
         owner := s.ss.endRead.owner, read := none } ∧
       ∀ p : Fin 128, s.ss.endRead.owner[p] = { s.ss.owner[p] with
         mark := if s.ss.owner[p].mark = .pinned then .free else s.ss.owner[p].mark }) ∧
     ∀ r, s.ss.read = some r → s.lif.queue.length ≤ 5 →
       let n := min 30 r.left
       let ready := ∀ pos, r.next / 256 ≤ pos → pos ≤ (r.next + n - 1) / 256 →
         r.snapshot.getD pos 0 ∈ r.verified
       let data := (List.range n).map fun i => Memory.read s.ss.ram
         (256 * r.snapshot.getD ((r.next + i) / 256) 0 + (r.next + i) % 256)
       let post (last damaged : Bool) (l : List Byte) : TxPost :=
         ⟨3, s.lif.own, r.reader, .readData r.toggle last damaged l⟩
       (r.damaged = true → exec .readDataHandover s =
         .next (handPost (post true true []) { s with ss := s.ss.endRead })) ∧
       (r.damaged = false → ¬ ready → exec .readDataHandover s = .next s) ∧
       (r.damaged = false → ready → 30 < r.left → exec .readDataHandover s =
         .next (handPost (post false false data) { s with ss := { s.ss with read := some { r with
           next := r.next + 30, left := r.left - 30, toggle := 1 - r.toggle } } })) ∧
       (r.damaged = false → ready → r.left ≤ 30 → exec .readDataHandover s =
         .next (handPost (post true false data) { s with ss := s.ss.endRead }))) ∧
  (∀ (r : ReadStream) (pos : Nat) (s : State), s.ss.read = some r → r.damaged = false →
     r.next / 256 ≤ pos → pos ≤ (r.next + min 30 r.left - 1) / 256 →
     r.snapshot.getD pos 0 ∉ r.verified →
     (∀ j, r.next / 256 ≤ j → j < pos → r.snapshot.getD j 0 ∈ r.verified) →
     let p := r.snapshot.getD pos 0
     let bad : State := { s with ss := { s.ss with read := some { r with damaged := true } } }
     ((s.ss.page p).check = crcBytes (pageContent s.ss.ram p) →
       exec .readPageVerifyComplete s = .next { s with ss := { s.ss with
         read := some { r with verified := r.verified ++ [p] } } }) ∧
     ((s.ss.page p).check ≠ crcBytes (pageContent s.ss.ram p) →
       (s.ss.page p).mark = .live r.slot pos →
       exec .readPageVerifyComplete s = .next (raiseNotice (.slotDamaged r.slot .readCheck)
         { bad with ss :=
           (bad.ss.withSlot r.slot { s.ss.slot r.slot with state := .damaged }) })) ∧
     ((s.ss.page p).check ≠ crcBytes (pageContent s.ss.ram p) →
       (s.ss.page p).mark ≠ .live r.slot pos →
       exec .readPageVerifyComplete s = .next bad)) ∧
  ∀ s : State,
    (s.ss.read = none → exec .readPageVerifyComplete s = .next s) ∧
    ∀ r : ReadStream, s.ss.read = some r →
      (r.damaged = true → exec .readPageVerifyComplete s = .next s) ∧
      ((∀ pos, r.next / 256 ≤ pos → pos ≤ (r.next + min 30 r.left - 1) / 256 →
          r.snapshot.getD pos 0 ∈ r.verified) →
        exec .readPageVerifyComplete s = .next s)

/-- STREAM_IDLE_TIMEOUT: an OPEN stream is abandoned with its staged pages FREE and STREAM_LOST raised,
a BROKEN one ends in silence (R9, R12, R17). The time base stands at the due count (log 2), the setting
in 100 ms units rounded up (log 16). That it leaves everything during a copy, where R12 rules it out, and
without a stream is the model's choice (log 26). -/
def Obligations.IdleTimeoutEndsTheStream : Prop :=
  ∀ s : State,
    (s.ss.write = none → exec .streamIdleTimeout s = .next s) ∧
    ∀ w, s.ss.write = some w →
      let due := w.lastActivity + (s.settings.idleUnits * 1048576 + 9) / 10
      (w.condition = .opened → exec .streamIdleTimeout s =
        .next (raiseTo w.owner (.streamLost w.slot .timeout w.received) { reach due s with
          ss := { s.ss.markAll .free (w.staged.map Prod.snd) with write := none } })) ∧
      (w.condition = .broken → exec .streamIdleTimeout s =
        .next { reach due s with ss := { s.ss with write := none } }) ∧
      (w.condition = .copying → exec .streamIdleTimeout s = .next s)

/-! ### Starts and power modes -/

/-- Whatever the pattern memory holds, every settings value lies in its range (R201, R204); with the
marker, the version or the sum wrong every setting is at its default. In a valid record a field in its
range is the setting taken, a field out of it gives the default, N is clamped, and the three pairs are
judged together. -/
def Obligations.SettingsAreAlwaysInRange : Prop :=
  ∀ (own : Nat) (bytes : List Byte), own ≠ 2 →
    SettingsInRange own (settingsOf own bytes) ∧
    (byteAt bytes 0 ≠ 0x4E ∨ byteAt bytes 1 ≠ 0x43 ∨ byteAt bytes 2 ≠ 1 ∨
        halfAt bytes 62 ≠ ((List.range 62).map (byteAt bytes)).sum % 65536 →
      settingsOf own bytes = defaultSettings) ∧
    (byteAt bytes 0 = 0x4E → byteAt bytes 1 = 0x43 → byteAt bytes 2 = 1 →
      halfAt bytes 62 = ((List.range 62).map (byteAt bytes)).sum % 65536 →
      let st := settingsOf own bytes
      let one (i lo hi dflt x : Nat) : Prop :=
        x = if lo ≤ byteAt bytes i ∧ byteAt bytes i ≤ hi then byteAt bytes i else dflt
      let two (i lo hi dflt : Nat) : Nat :=
        if lo ≤ halfAt bytes i ∧ halfAt bytes i ≤ hi then halfAt bytes i else dflt
      let power := if byteAt bytes 4 ≤ 14 then byteAt bytes 4 else 2
      let offset := 65536 * byteAt bytes 30 + halfAt bytes 31
      let zone : Int := if byteAt bytes 35 < 128 then byteAt bytes 35 else (byteAt bytes 35 : Int) - 256
      one 3 0 14 1 st.beatStation ∧ st.powerStation = (if power = own then 2 else power) ∧
      one 5 0 14 1 st.noticeStation ∧
      st.clientMask.toNat = two 6 1 0x7FFF 2 ∧ st.ticks = max 1 (min (byteAt bytes 8) 16) ∧
      st.period = two 9 10486 34953 17556 ∧ one 11 1 127 6 st.iCore ∧ one 12 0 127 4 st.a0 ∧
      one 13 0 255 36 st.a1 ∧ one 14 1 255 120 st.iFull ∧ st.safeAllowance = 2 * byteAt bytes 15 ∧
      st.overTrip = two 16 1 511 240 ∧ one 18 1 255 40 st.testDuty ∧
      (if two 19 0 510 3 < two 21 1 511 60 then
        st.openThreshold = two 19 0 510 3 ∧ st.shortThreshold = two 21 1 511 60
      else st.openThreshold = 3 ∧ st.shortThreshold = 60) ∧
      one 23 0 255 48 st.coolRate ∧
      (if two 26 0 65534 30000 < two 24 1 65535 60000 then
        st.hTrip = two 24 1 65535 60000 ∧ st.hClear = two 26 0 65534 30000
      else st.hTrip = 60000 ∧ st.hClear = 30000) ∧
      one 28 0 255 32 st.guardDuty ∧ one 29 0 255 12 st.brakeTicks ∧
      one 34 1 255 16 st.memUnits ∧
      st.dirOffset = (if 64 ≤ offset ∧ offset ≤ 65536 * st.memUnits - 10 then offset else 64) ∧
      st.dirCount = (if byteAt bytes 33 = 0 then 256 else byteAt bytes 33) ∧
      st.zone = (if -48 ≤ zone ∧ zone ≤ 56 then zone else 0) ∧ one 36 0 23 5 st.hour ∧
      one 37 1 255 20 st.idleUnits ∧ st.noticeMask.toNat = two 38 0 4095 4095)

/-- SETTINGS_READ_COMPLETE in STARTING hands the values out, frees the port and begins the first free
interval with tick 0. A cold start takes zone and hour, sets the keep-intact mark and enters ACTIVE; a
warm start keeps both and begins its scrub: STAGED and PINNED pages become FREE and are counted, and
each LIVE slot with a failing page is DAMAGED (R25, R36, R69, R166, R167, R194, R201; the moment of the
scrub's first steps log 13). With no settings read in flight, and outside STARTING, nothing happens
(log 26). -/
def Obligations.SettingsReadCompletes : Prop :=
  (∀ (bytes : List Byte) (s : State),
    s.ps.state ≠ .starting ∨ (∀ t, s.pfu.port = some t → t.job ≠ .settings) →
    exec (.settingsReadComplete bytes) s = .next s) ∧
  ∀ (bytes : List Byte) (address n : Nat) (s : State), s.ps.state = .starting →
    s.pfu.port = some { job := .settings, address := address, bytes := n } →
    let st := settingsOf s.lif.own bytes
    let u : State := { s with
      settings := st
      pfu := { s.pfu with port := none }
      btg := { beatStart st.period with
        nextIndex := 1, timer := tickLength st.period st.ticks 0, timerHeld := false
        tickCounter := 1 }
      bu := { s.bu with allowance := st.safeAllowance }
      nu := { s.nu with mask := st.noticeMask }
      ps := { s.ps with settingsValid := settingsValid bytes } }
    (s.ps.startKind = .cold → exec (.settingsReadComplete bytes) s =
      .next (grant (enterActive { u with
        cal := { s.cal with zone := st.zone, hour := st.hour }
        ps := { u.ps with keepIntact := true } }))) ∧
    (s.ps.startKind = .warm → ∃ (owner : Vector PageEntry 128) (slots : Vector Slot 8)
        (flags : BitVec 12),
      exec (.settingsReadComplete bytes) s = .next (grant { u with
        ss := { s.ss with owner := owner, slots := slots, scrub := (some
          ((List.range 128).countP fun p => (s.ss.page p).mark.leftover)) }
        nu := { u.nu with pendingFlags := flags } }) ∧
      (∀ p : Fin 128, owner[p] = { s.ss.owner[p] with
        mark := if s.ss.owner[p].mark.leftover then .free else s.ss.owner[p].mark }) ∧
      (∀ k : Fin 8, slots[k] =
        if s.ss.slots[k].state = .live ∧ s.ss.slotFails k.val then
          { s.ss.slots[k] with state := .damaged }
        else s.ss.slots[k]) ∧
      flags = s.nu.pendingFlags ||| (if slots = s.ss.slots then 0 else BitVec.ofNat 12 (2 ^ 11)))

/-- START_SCRUB_COMPLETE ends a warm start: the third step of the scrub is made and the part enters
ACTIVE. A slot is rebuildable when its page list has the length of its size and names pages 0..127, none
twice and none of an earlier rebuildable slot. A rebuildable slot whose marks agree is left as it is; one
with a disagreeing mark becomes DAMAGED, its record kept and its marks rewritten; a slot that is not
rebuildable is emptied and its linked appointments dropped. SLOT_DAMAGED is raised where a slot is damaged
or emptied, which in STARTING sets the pending flag alone. Afterwards the slot directory and the owner
table agree, no page is STAGED or PINNED, and the scrub is over (R2, R4, R26, R27, R52, R167; that the
third step is made at this command log 13, the freeing of the last pages log 19). -/
def Obligations.ScrubLeavesTheStoreInAgreement : Prop :=
  ∀ (freed : Nat) (s : State), s.ps.state = .starting → s.ss.scrub = some freed →
    (∀ k < 8, (s.ss.slot k).state = .empty → s.ss.slot k = emptySlot) →
    (∀ p < 128, (s.ss.page p).mark.leftover = false) →
    ∃ (t : State) (good : Nat → Bool),
      let u := scrubEnd freed s
      let old (k : Nat) := s.ss.slot k
      let agrees (k : Nat) : Bool :=
        (old k).pages.zipIdx.all fun q => (s.ss.page q.1).mark == .live k q.2
      let emptied (k : Nat) : Bool := decide (k < 8) && (old k).state != .empty && !good k
      (∀ k < 8, good k = true ↔ (old k).state ≠ .empty ∧
        (old k).pages.length = ((old k).size + 255) / 256 ∧ (old k).pages.Nodup ∧
        ∀ p ∈ (old k).pages, p < 128 ∧ ∀ j < k, good j = true → p ∉ (old j).pages) ∧
      exec .startScrubComplete s = .next t ∧ t = enterActive u ∧ t.ss = u.ss ∧
      u = { s with
        ss := u.ss
        cal := { s.cal with
          appointments := s.cal.appointments.filter fun e => !e.link.any emptied }
        nu := { s.nu with pendingFlags := s.nu.pendingFlags |||
          (if (List.range 8).any (fun k => (old k).state != .empty && !(good k && agrees k)) then
            BitVec.ofNat 12 (2 ^ 11) else 0) }
        ps := { s.ps with freed := t.ps.freed, damaged := t.ps.damaged } } ∧
      (∀ k < 8,
        (good k = true → agrees k = true → t.ss.slot k = old k) ∧
        (good k = true → agrees k = false → t.ss.slot k = { old k with state := .damaged }) ∧
        (good k = false → t.ss.slot k = emptySlot)) ∧
      t.ps.state = .active ∧ t.ss.scrub = none ∧ StoreAgrees t.ss ∧
      (∀ p < 128, (t.ss.page p).mark.leftover = false) ∧
      (∀ p < 128, (t.ss.page p).check = (s.ss.page p).check) ∧
      t.ps.damaged = (List.range 8).filter (fun k => decide ((t.ss.slot k).state = .damaged ∨
        ((t.ss.slot k).state = .empty ∧ (s.ss.slot k).state ≠ .empty))) ∧
      t.ps.freed = freed + (List.range 128).countP (fun p =>
        decide ((t.ss.page p).mark = .free ∧ (s.ss.page p).mark ≠ .free)) ∧
      t.ss.ram = s.ss.ram ∧
      ∀ k < 8, (t.ss.slot k).state = (s.ss.slot k).state → t.ss.slot k = s.ss.slot k

/-- The entry to ACTIVE that ends a start: the least claim is announced and released, the listen period
runs 629,146 counts, the Calendar hands its day turns and takes its last game day, and the CLAIM, HELLO
and, where enabled, RESUME with the results of the start stand in the queue in this order, HELLO right
after the CLAIM; the record and battery-low-seen are then clear (R45, R157, R167, R177, R192, R202).
Nothing else of the Budget Unit's record changes: however low the headroom stands, the OVER_ALLOWANCE flag
stays as it was, the notice is neither queued nor pending, and no raise begins; while the claim-age guard
holds both caps are 0 (R149, R157; the flag is first examined at the next recomputation, log 33; with A0
and A1 both 0 the ceiling 255 of R146 stands, log 30). -/
def Obligations.EntryToActiveClaimsGreetsAndReports : Prop :=
  ∀ s : State, s.ps.state = .starting → s.lif.queue = [] → s.bu.raise = none →
    let least := min 510 (2 * ((s.settings.iCore + 1) / 2))
    let days := match s.cal.today, s.cal.keepDay with
      | some g, some k => (g - k).toNat
      | _, _ => 0
    let t := enterActive s
    t.ps = { s.ps with state := .active, dayTurns := days, record := none, lowSeen := false } ∧
    t.bu = { s.bu with announced := some least, released := least, handedAt := some s.now
                       listenEnd := some (s.now + 629146) } ∧
    (∀ p ∈ t.lif.queue, ∀ entered a sum room,
      p.body ≠ .notice (.overAllowance entered a sum room)) ∧
    t.nu.pendingFlags.getLsbD 8 = s.nu.pendingFlags.getLsbD 8 ∧
    (s.bu.holding = true → t.rd.dBudget = 0 ∧ t.rd.dEff = 0 ∧
      (0 < s.settings.a0 + s.settings.a1 → t.se.gCeiling = 0 ∧ t.se.gEff = 0)) ∧
    t.cal.lastDay = s.cal.today ∧ t.cal.keepDay = none ∧ t.cal.time = s.cal.time ∧
    t.lif.queue[0]? = some ⟨1, s.lif.own, 15, .claim least⟩ ∧
    t.lif.queue[1]? = some ⟨2, s.lif.own, 15, .hello s.lif.own s.ps.startKind
      ((List.range 8).countP fun k => (s.ss.slot k).state == .live)⟩ ∧
    (s.nu.mask.getLsbD 0 = true →
      ⟨2, s.lif.own, s.settings.noticeStation, .notice (.resume {
        kind := s.ps.startKind, settingsValid := s.ps.settingsValid, record := s.ps.record
        batteryLowSeen := s.ps.lowSeen, cell := s.ps.cell, dayTurns := days, freed := s.ps.freed
        damaged := s.ps.damaged })⟩ ∈ t.lif.queue) ∧
    t.nu.pendingFlags.getLsbD 0 = true ∧ t.ss = s.ss

/-- A POWER_MODE of another source or for another station is dropped, as are a DOZE in DOZE and an
AWAKE in ACTIVE. AWAKE in DOZE clears the orderly flag and returns to ACTIVE, where the Budget Unit
recomputes (R168, R169, R170, R171, R158). One that finds the part neither in ACTIVE nor in DOZE changes
nothing, which is the model's choice (log 26). -/
def Obligations.PowerModeIsKeptOrDropped : Prop :=
  ∀ (source target : Nat) (s : State),
    let mine := source = s.settings.powerStation ∧ (target = s.lif.own ∨ target = 15)
    let dozing : Prop := s.ps.state = .doze
    let awake : Prop := s.ps.state = .active
    (¬ mine ∨ ¬ (dozing ∨ awake) →
      exec (.powerModeDoze source target) s = .next s ∧
      exec (.powerModeAwake source target) s = .next s ∧
      exec (.powerModeOffSoon source target) s = .next s) ∧
    (dozing → exec (.powerModeDoze source target) s = .next s) ∧
    (awake → exec (.powerModeAwake source target) s = .next s) ∧
    (mine → dozing → exec (.powerModeAwake source target) s = .next (recompute { s with
      ps := { s.ps with state := .active, orderly := false } }))

/-- The entry to DOZE, by POWER_MODE DOZE from ACTIVE or OFF_SOON from ACTIVE or DOZE: both streams
end, every voice is IDLE and silent, the motor is off and any check over, the tracker is FREE, the
caps are 0, the least claim is announced, the inbox is emptied, STAGED and PINNED pages are FREE, and
what DOZE keeps is kept; a tick issued there cools the motor by C (R30, R70, R113, R130, R136, R158, R169,
R185). With A0 and A1 both 0 the ceiling 255 of R146 stands (log 30). The blocks' steps follow one
another, the line first, then sound, rumble, store, beat and budget, then the requests that stay (the
order log 10).
What each of them answers and raises: a request not served in DOZE is answered DOZING, a SAVE_DATA is
dropped; every owed lookup is answered CANCELLED (R93), then every confirmed play ends with CUE_END POWER
(R111), each for voices 0 to 3 in turn (log 10); a
running rumble play ends with RUMBLE_END POWER, a braking one with its recorded reason (R127), a motor
check is answered CANCELLED with FAILED and POWER (R135); an open or COPYING write stream ends with
STREAM_LOST POWER, a BROKEN one with nothing; a LOCKED tracker that waits after its last tick begins a
free interval; the budget abandons a raise and announces the least claim. -/
def Obligations.DozeStopsEveryBlock : Prop :=
  (∀ (c : Instr) (off : Bool) (target : Nat) (s : State),
    (off = false ∧ s.ps.state = .active ∧
        c = .powerModeDoze s.settings.powerStation target) ∨
      (off = true ∧ (s.ps.state = .active ∨ s.ps.state = .doze) ∧
        c = .powerModeOffSoon s.settings.powerStation target) →
    target = s.lif.own ∨ target = 15 →
    let ps : Power := { s.ps with state := .doze, orderly := s.ps.orderly || off }
    let ticked := s.btg.tracker = .locked ∧ s.btg.timerHeld = true
    let heat := if ticked then min (s.rd.heat - s.settings.coolRate) 65535 else s.rd.heat
    ∃ t, exec c s = .next t ∧
      t = drainInbox (budgetDoze (beatDoze (storeDoze (rumbleDoze (soundDoze
        (lineDoze { s with ps := ps })))))) ∧
      t.ps = ps ∧
      t.ss.write = none ∧ t.ss.read = none ∧ t.ss.slots = s.ss.slots ∧ t.ss.ram = s.ss.ram ∧
      (StoreSound s → ∀ p : Fin 128, t.ss.owner[p] = { s.ss.owner[p] with
        mark := if s.ss.owner[p].mark.leftover then .free else s.ss.owner[p].mark }) ∧
      (∀ i : Fin 4, t.se.voices[i] = { s.se.voices[i] with
        state := .idle, env := 0, stage := .off, owed := none }) ∧
      (∀ p : Fin 5, t.pfu.recs[p].state = .none ∧ t.pfu.recs[p].buffer = [] ∧
        t.pfu.recs[p].waiting = none) ∧ t.pfu.cache = s.pfu.cache ∧
      t.se.gEff = 0 ∧ t.se.compare = 512 ∧ t.se.master = s.se.master ∧
      t.se.gTarget = s.se.gTarget ∧ (0 < s.settings.a0 + s.settings.a1 → t.se.gCeiling = 0) ∧
      t.rd.heat = heat ∧
      t.rd.guard = (if ticked ∧ s.rd.guard = .clear ∧ s.settings.hTrip ≤ heat then .tripped
        else if ticked ∧ s.rd.guard = .tripped ∧ heat ≤ s.settings.hClear then .clear
        else s.rd.guard) ∧
      t.rd.mode = .off ∧ t.rd.dReq = 0 ∧ t.rd.dRes = 0 ∧ t.rd.dEff = 0 ∧ t.rd.dBudget = 0 ∧
      t.rd.owed = none ∧ t.rd.check = none ∧ (t.rd.player = .idle ∨ t.rd.player = .faulted) ∧
      (s.rd.player = .faulted → s.rd.check = none → t.rd.player = .faulted) ∧
      t.rd.playNo = s.rd.playNo ∧ t.rd.lastFault = s.rd.lastFault ∧
      t.btg.tracker = .free ∧ t.btg.period = s.btg.period ∧ t.btg.lastCount = s.btg.lastCount ∧
      t.bu.raise = none ∧
      t.bu.announced = some (leastClaim s.settings) ∧ t.bu.released = leastClaim s.settings ∧
      t.bu.handedAt = some s.now ∧ t.bu.listenEnd = s.bu.listenEnd ∧ t.bu.acked = s.bu.acked ∧
      t.bu.holding = s.bu.holding ∧ t.bu.peers = s.bu.peers ∧ t.bu.allowance = s.bu.allowance ∧
      t.bu.heard = s.bu.heard ∧ t.bu.fresh = s.bu.fresh ∧ t.nu.mask = s.nu.mask ∧
      t.lif.inbox = [] ∧
      t.lif.sending = s.lif.sending ∧ t.lif.silentEnd = s.lif.silentEnd ∧
      t.settings = s.settings ∧ t.now = s.now ∧ t.guard = s.guard ∧ t.pending = s.pending ∧
      (s.lif.inbox = [] → t.cal = s.cal)) ∧
  ∀ u : State,
    let served (e : Entry) : Bool := [Kind.clockRead, .clockSet, .clockAccept, .appointSet,
      .appointClear, .appointList, .noticeRead, .saveInfo, .ident].contains e.request.kind
    let still (v : Voice) : Voice := { v with state := .idle, stage := .off, env := 0 }
    let cancel (v : State) (i : Nat) : State :=
      match (v.voice i).owed with
      | some o => (replyOwed o .playSound .cancelled .none v).withVoice i
          (still { v.voice i with owed := none })
      | none => v
    let tell (v : State) (i : Nat) : State :=
      let w := v.voice i
      if w.state ≠ .idle ∧ w.owed = none ∧ w.endNotice = true then
        raiseTo w.requester (.cueEnd i w.playNo w.pattern .power) v
      else v
    let rest (v : State) (i : Nat) : State := (closeRec (i + 1) v).withVoice i (still (v.voice i))
    let each (f : State → Nat → State) (v : State) : State := [0, 1, 2, 3].foldl f v
    let quiet := each rest (each tell (each cancel u))
    let r := u.rd
    let running := r.player = .starting ∨ r.player = .playing ∨ r.player = .starved ∨
      r.player = .steady
    let ended := if (running ∨ r.player = .braking) ∧ r.owed = none ∧ r.endNotice = true then
        raiseTo r.requester (.rumbleEnd r.playNo r.kind
          (match r.kind with | .pattern => some r.pattern | .steady => none)
          (if r.player = .braking then r.endReason.getD .power else .power)) u
      else u
    let cancelled := match r.owed with
      | some o => replyOwed o .playRumble .cancelled .none ended
      | none => ended
    let origin : PlayerState := match r.check with
      | some c => if c.cameFaulted = true then .faulted else .idle
      | none => if r.player = .faulted then .faulted else .idle
    let checked := match r.check with
      | some c =>
        replyOwed c.owed .motorCheck .cancelled (.check .failed (some .power) none origin) cancelled
      | none => cancelled
    let lost := match u.ss.write with
      | none => u
      | some w =>
        if w.condition = .broken then { u with ss := { u.ss with write := none } }
        else raiseTo w.owner (.streamLost w.slot .power w.received) { u with
          ss := { u.ss.markAll .free (w.staged.map Prod.snd) with write := none } }
    let pinned := (List.range 128).filter fun p => (lost.ss.page p).mark == .pinned
    let free : State := { u with btg := { u.btg with tracker := .free } }
    let v := recompute { u with bu := { u.bu with raise := none } }
    lineDoze u = (u.lif.inbox.filter fun e => !served e).foldl
      (fun w e => if e.request.kind = .saveData then w
        else reply e.ask e.request.kind .dozing .none w)
      { u with lif := { u.lif with inbox := u.lif.inbox.filter served } } ∧
    soundDoze u = { quiet with se := { quiet.se with gEff := 0, compare := 512 } } ∧
    rumbleDoze u = closeRec 0 { checked with rd := { r with
      owed := none, check := none, player := origin, mode := .off, dReq := 0, dRes := 0
      dEff := 0 } } ∧
    storeDoze u = (if u.ss.read = none then lost
      else { lost with ss := { lost.ss.markAll .free pinned with read := none } }) ∧
    (u.btg.tracker = .free → beatDoze u = u) ∧
    (u.btg.tracker = .locked → u.btg.timerHeld = false → beatDoze u = free) ∧
    (u.btg.tracker = .locked → u.btg.timerHeld = true → beatDoze u = beginInterval free) ∧
    budgetDoze u = announce (leastClaim u.settings)
      { v with bu := { v.bu with released := leastClaim u.settings } }

/-! ### Beats and ticks -/

/-- The tests of a BEAT in their order: dropped outside ACTIVE or with another length than one byte,
counted as foreign, counted as a duplicate, or taken. Taken in LOCKED it forces out the owed ticks,
moves P by a quarter of the difference for a step of 1 to 4 frames, held to 10486..34953, and begins an
interval with tick 0; taken in FREE it abandons the interval and is not measured (R57, R58, R59, R60,
R62, R66). No beat reaches the block in STARTING; the model drops one there too (log 26). -/
def Obligations.BeatIsDroppedOrTaken : Prop :=
  ∀ (source : Nat) (payload : List Byte) (s : State),
    let run := exec (.beat source payload) s
    let n := s.settings.ticks
    (s.ps.state ≠ .active ∨ payload.length ≠ 1 → run = .next s) ∧
    ∀ b : Byte, s.ps.state = .active → payload = [b] →
      (source ≠ s.settings.beatStation → run = .next (count .foreignBeats s)) ∧
      (source = s.settings.beatStation → s.btg.lastCount = some b.toNat →
        run = .next (count .beatDuplicates s)) ∧
      (∀ last < 256, source = s.settings.beatStation → last ≠ b.toNat →
        s.btg.lastCount = some last → s.btg.tracker = .locked →
        let u := Nat.repeat issueTick (n - s.btg.nextIndex) s
        let k := (b.toNat + 256 - last) % 256
        let moved : Int := s.btg.period +
          Int.tdiv ((s.btg.capture / k : Nat) - (s.btg.period : Int)) 4
        let p := if k ≤ 4 then (max 10486 (min moved 34953)).toNat else s.btg.period
        run = .next (issueTick { u with btg := { u.btg with
          period := p, interval := p, lastCount := some b.toNat, capture := 0, nextIndex := 1
          timer := tickLength p n 0, timerHeld := decide (n ≤ 1) } }) ∧
        ∀ t, run = .next t → t.btg.tracker = .locked ∧ t.btg.tickCounter =
          (s.btg.tickCounter + (n - s.btg.nextIndex) + 1) % 4294967296) ∧
      (source = s.settings.beatStation → s.btg.lastCount ≠ some b.toNat → s.btg.tracker = .free →
        run = .next (issueTick { s with btg := { s.btg with
          tracker := .locked, interval := s.btg.period, lastCount := some b.toNat, capture := 0
          nextIndex := 1, timer := tickLength s.btg.period n 0, timerHeld := decide (n ≤ 1) } }))

/-- The tick lengths of an interval fill its period exactly. TICK_TIMER_EXPIRY issues the next tick
and, in FREE after the last one, begins a new free interval; a held timer issues nothing. LOSS_TIMEOUT
sets a LOCKED tracker FREE with the capture at four periods and begins a free interval. Every issued
tick raises the tick counter, wrapping at 2^32, and reaches the blocks that the power state lets take
it (R61, R63, R64, R65, R67, R68, R117). The events stand at their due counts (log 2); the order of the
blocks inside a tick is log 11; a TICK_TIMER_EXPIRY in KEEP or of a held timer and a LOSS_TIMEOUT in FREE
change nothing (log 26). -/
def Obligations.TimersIssueTicks : Prop :=
  (∀ p n : Nat, 0 < n → ((List.range n).map (tickLength p n)).sum = p ∧
    ∀ j, tickLength p n j = p / n + if j < p % n then 1 else 0) ∧
  ∀ s : State,
    let n := s.settings.ticks
    let u := elapse s.btg.timer s
    let lost := elapse (4 * s.btg.interval - s.btg.capture) s
    let p := s.btg.period
    let ticked := { s with btg := { s.btg with
      tickCounter := (s.btg.tickCounter + 1) % 4294967296 } }
    (s.ps.state = .keep ∨ s.btg.timerHeld = true → exec .tickTimerExpiry s = .next s) ∧
    (s.ps.state ≠ .keep → s.btg.timerHeld = false → s.btg.nextIndex < n →
      exec .tickTimerExpiry s = .next (issueTick { u with btg := { u.btg with
        nextIndex := s.btg.nextIndex + 1
        timer := tickLength s.btg.interval n s.btg.nextIndex
        timerHeld := decide (s.btg.tracker = .locked ∧ n ≤ s.btg.nextIndex + 1) } })) ∧
    (s.ps.state ≠ .keep → s.btg.timerHeld = false → n ≤ s.btg.nextIndex → s.btg.tracker = .free →
      exec .tickTimerExpiry s = .next (issueTick { u with btg := { u.btg with
        interval := p, nextIndex := 1, timer := tickLength p n 0 } })) ∧
    (s.btg.tracker = .locked →
      exec .lossTimeout s = .next (issueTick { lost with btg := { lost.btg with
        tracker := .free, capture := 4 * s.btg.interval, interval := p, nextIndex := 1
        timer := tickLength p n 0, timerHeld := false } })) ∧
    (s.btg.tracker = .free → exec .lossTimeout s = .next s) ∧
    (s.ps.state = .active →
      issueTick s = grant (budgetFollow ticked (rumbleTick (soundTick ticked)))) ∧
    (s.ps.state = .doze → issueTick s = heatTick ticked) ∧
    (s.ps.state = .starting ∨ s.ps.state = .keep → issueTick s = ticked) ∧
    (issueTick s).btg = ticked.btg

/-! ### The pattern memory -/

/-- DIRECTORY_FETCH_COMPLETE and STEP_FETCH_COMPLETE with their transactions in flight: the port
becomes free, a well formed entry joins the cache; a result or a delivery reaches the record that still
waits for it with the same play number, and is discarded otherwise; delivered steps join the buffer and
the cursor moves on, back to the loop start or to EXHAUSTED. The bytes of an entry and of a step, and the
clamps of a step, are spelled (a byte that did not come reads 0xFF, R84, log 20). A play start: the record
begins afresh with the new play number; a cache hit of the right kind opens it and asks for its first
fetch, one of the other kind is BAD_PATTERN, a miss puts it in LOOKUP and asks for a directory fetch. An
OPEN record asks for steps when none of its play's requests waits or flies, its cursor is not EXHAUSTED
and its buffer holds 4 or fewer steps or its first fetch has not been granted; a step leaving the buffer
checks this too, and an empty buffer has ended or starves. The arbiter grants on a free port only: the
settings read, the rumble player, then the voices in turn after the last one granted. A grant puts the
transaction's address and number of bytes on the port, with chip select low, the read command 0x03 and
the 24-bit address, most significant bit first. The cache: an entry that joins is the most recently used,
the least recently used of 8 leaves, and one pattern stands in it once (R72 to R83, R204). That the
arbiter acts once, after the delivery or result and the record's new request, is the model's choice (log
11), and so it is that with a free port or another kind in flight a completion changes nothing (log
26). -/
def Obligations.FetchesCompleteAndTheArbiterTurns : Prop :=
  ∀ (bytes : List Byte) (p n address size : Nat) (s : State), p < 5 →
    let result (l : Lookup) (u : State) : State :=
      if p = 0 then budgetFollow u (rumbleResult l u) else soundResult (p - 1) l u
    let delivery (u : State) : State :=
      if p = 0 then budgetFollow u (rumbleDelivery u) else soundDelivery (p - 1) u
    (∀ pattern, s.pfu.port = some {
        job := .directory p pattern n, address := address, bytes := size } →
      let raw := readEntry bytes
      let mem := 65536 * s.settings.memUnits
      let kind : PatternKind := if p = 0 then .rumble else .sound
      let other : PatternKind := if p = 0 then .sound else .rumble
      let inRange := 1 ≤ raw.stepCount ∧ raw.stepCount ≤ 1024 ∧ raw.loopStart < raw.stepCount ∧
        raw.bodyOffset + 3 * raw.stepCount ≤ mem
      let entry (k : PatternKind) : DirEntry := {
        kind := k, loopCount := raw.loopCount, peakDuty := raw.peakDuty
        bodyOffset := raw.bodyOffset, stepCount := raw.stepCount, loopStart := raw.loopStart }
      let free : State := { s with pfu := { s.pfu with port := none } }
      let kept (k : PatternKind) : State := { s with pfu := { s.pfu with
        port := none, cache := joinCache s.pfu.cache pattern (entry k) } }
      let r := s.fetchRec p
      let run := exec (.directoryFetchComplete bytes) s
      let closed (u : State) : State := u.withFetchRec p { r with state := .none }
      (r.state = .lookup → r.playNo = n →
        (patternKind raw.kindByte = none → run = .next (grant (result .noSuch (closed free)))) ∧
        (patternKind raw.kindByte = some other → inRange →
          run = .next (grant (result .badPattern (closed (kept other))))) ∧
        (patternKind raw.kindByte ≠ none → ¬ inRange →
          run = .next (grant (result .badPattern (closed free)))) ∧
        (patternKind raw.kindByte = some kind → inRange → r.waiting = none → r.buffer = [] →
          run = .next (grant (result (.valid (entry kind)) ((kept kind).withFetchRec p { r with
            state := .opened, entry := some (entry kind), cursor := some (0, raw.loopCount)
            waiting := some .step }))))) ∧
      (r.state ≠ .lookup ∨ r.playNo ≠ n →
        (∀ k, patternKind raw.kindByte = some k → inRange → run = .next (grant (kept k))) ∧
        (patternKind raw.kindByte = none ∨ ¬ inRange → run = .next (grant free)))) ∧
    (∀ j c, s.pfu.port = some { job := .steps p n j c, address := address, bytes := size } →
      let free : State := { s with pfu := { s.pfu with port := none } }
      let r := s.fetchRec p
      let run := exec (.stepFetchComplete bytes) s
      (∀ (e : DirEntry) (index left : Nat), r.state = .opened → r.playNo = n → r.entry = some e →
        r.cursor = some (index, left) →
        run = .next (grant (delivery (askSteps p (free.withFetchRec p { r with
          buffer := r.buffer ++ readSteps e.kind c bytes
          cursor :=
            if j + c ≠ e.stepCount then some (j + c, left)
            else if left = 0 then none
            else some (e.loopStart, if left = 255 then 255 else left - 1) }))))) ∧
      (r.state ≠ .opened ∨ r.playNo ≠ n → run = .next (grant free))) ∧
    ((∀ t q i m, s.pfu.port = some t → t.job ≠ .directory q i m) →
      exec (.directoryFetchComplete bytes) s = .next s) ∧
    ((∀ t q m j c, s.pfu.port = some t → t.job ≠ .steps q m j c) →
      exec (.stepFetchComplete bytes) s = .next s) ∧
    (let flies (m : Nat) : Prop := ∃ t, s.pfu.port = some t ∧
       ((∃ i, t.job = .directory p i m) ∨ ∃ j c, t.job = .steps p m j c)
     let r := s.fetchRec p
     let asks := r.state = .opened ∧ r.waiting = none ∧ ¬ flies r.playNo ∧ r.cursor ≠ none ∧
       (r.buffer.length ≤ 4 ∨ r.firstDone = false)
     let kind : PatternKind := if p = 0 then .rumble else .sound
     (∀ pattern playNo,
       let fresh : FetchRec := {
         state := .none, playNo := playNo, pattern := pattern, entry := none, buffer := []
         cursor := none, waiting := none, firstDone := false }
       let start := startPlay p pattern playNo s
       (∀ e, cached s.pfu.cache pattern = some e →
         let hit : State := { s with pfu := { s.pfu with cache := touchCache s.pfu.cache pattern } }
         (e.kind = kind →
           let opened : FetchRec := { fresh with
             state := .opened, entry := some e, cursor := some (0, e.loopCount) }
           (¬ flies playNo → start =
             (grant (hit.withFetchRec p { opened with waiting := some .step }), some (.valid e))) ∧
           (flies playNo → start = (grant (hit.withFetchRec p opened), some (.valid e)))) ∧
         (e.kind ≠ kind → start = (hit.withFetchRec p fresh, some .badPattern))) ∧
       (cached s.pfu.cache pattern = none → start =
         (grant (s.withFetchRec p { fresh with state := .lookup, waiting := some .directory }),
           none))) ∧
     (asks → askSteps p s = s.withFetchRec p { r with waiting := some .step }) ∧
     (¬ asks → askSteps p s = s) ∧
     (∀ x rest, r.buffer = x :: rest →
       nextStep p s = (.step x, askSteps p (s.withFetchRec p { r with buffer := rest }))) ∧
     (r.buffer = [] → r.cursor = none → nextStep p s = (.ended, s)) ∧
     (r.buffer = [] → r.cursor ≠ none → nextStep p s = (.starved, count .starves s))) ∧
    (s.pfu.waits 0 = true → nextPlayer s.pfu = some 0) ∧
    (∀ d < 4, s.pfu.waits 0 = false → s.pfu.waits ((s.pfu.lastVoice + 1 + d) % 4 + 1) = true →
      (∀ e < d, s.pfu.waits ((s.pfu.lastVoice + 1 + e) % 4 + 1) = false) →
      nextPlayer s.pfu = some ((s.pfu.lastVoice + 1 + d) % 4 + 1)) ∧
    (s.pfu.port ≠ none ∨
        (s.pfu.settingsWaiting = false ∧ ∀ q < 5, (s.fetchRec q).waiting = none) → grant s = s) ∧
    (s.pfu.port = none → s.pfu.settingsWaiting = true → grant s = { s with pfu := { s.pfu with
      port := some { job := .settings, address := 0, bytes := 64 }, settingsWaiting := false } }) ∧
    (s.pfu.port = none → s.pfu.settingsWaiting = false → nextPlayer s.pfu = some p →
      let r := s.fetchRec p
      let on (t : Transfer) : State := { s with pfu := { s.pfu with
        port := some t, lastVoice := if p = 0 then s.pfu.lastVoice else p - 1 } }
      (r.waiting = some .directory → grant s = (on {
        job := .directory p r.pattern r.playNo
        address := s.settings.dirOffset + 10 * r.pattern, bytes := 10
      }).withFetchRec p { r with waiting := none }) ∧
      ∀ (e : DirEntry) (j left : Nat), r.waiting = some .step → r.entry = some e →
        r.cursor = some (j, left) →
        let c := if r.firstDone = true then min (min 4 (8 - r.buffer.length)) (e.stepCount - j)
          else min 8 (e.stepCount - j)
        grant s = (on {
          job := .steps p r.playNo j c, address := e.bodyOffset + 3 * j, bytes := 3 * c
        }).withFetchRec p { r with waiting := none, firstDone := true }) ∧
    (s.pfu.chipSelectLow = true ↔ s.pfu.port ≠ none) ∧
    (∀ x : Transfer, x.address < 16777216 →
      x.sentBits = (List.range 8).map (fun i => Nat.testBit 0x03 (7 - i)) ++
        (List.range 24).map (fun i => x.address.testBit (23 - i)) ∧
      x.clockPeriods = 32 + 8 * x.bytes) ∧
    (let b (i : Nat) : Nat := (bytes.getD i 0xFF).toNat
     readEntry bytes = {
       kindByte := b 0, loopCount := b 1, peakDuty := b 2
       bodyOffset := 65536 * b 3 + 256 * b 4 + b 5, stepCount := 256 * b 6 + b 7
       loopStart := 256 * b 8 + b 9 } ∧
     (∀ k, patternKind k = if k = 1 then some .sound else if k = 2 then some .rumble else none) ∧
     ∀ count, (readSteps .sound count bytes).length = count ∧
       (readSteps .rumble count bytes).length = count ∧
       ∀ i < count,
         let note := b (3 * i) % 128
         let length := if b (3 * i + 1) = 0 then 1 else b (3 * i + 1)
         let level := if 16 ≤ b (3 * i + 2) then 15 else b (3 * i + 2)
         let bit (n : Nat) : Bool := decide (b (3 * i + 2) / 2 ^ n % 2 = 1)
         (readSteps .sound count bytes)[i]? = some (.sound
           (if 96 ≤ note ∧ note ≤ 125 then 95 else note) length level (decide (128 ≤ b (3 * i)))) ∧
         (readSteps .rumble count bytes)[i]? =
           some (.rumble (b (3 * i)) length (bit 0) (bit 1))) ∧
    ∀ (c : List (Nat × DirEntry)) (i : Nat) (e : DirEntry), c.length ≤ 8 → (c.map Prod.fst).Nodup →
      let others := c.filter fun x => x.1 != i
      (∀ old, (i, old) ∈ c → cached c i = some old ∧ joinCache c i e = (i, old) :: others ∧
        touchCache c i = (i, old) :: others) ∧
      (i ∉ c.map Prod.fst → cached c i = none ∧ joinCache c i e = (i, e) :: c.take 7) ∧
      (joinCache c i e).length ≤ 8 ∧ ((joinCache c i e).map Prod.fst).Nodup

/-! ### The Sound Engine -/

/-- PLAY_SOUND: the tests in order, with no voice touched where one fails; the voice that a named
request and one for ANY take; and the voice record of the new play: the old play ended with REPLACED or
its owed reply CANCELLED, the pending change and then the request's settings in use, the play number
risen, the start handed to the Pattern Fetch Unit, whose result on a cache hit is answered at once.
A result answers the reply owed, DONE with the values in use or with its code and the voice IDLE; the
first delivery to a STARTING or STARVED voice begins its first step (R74, R83, R88 to R94). -/
def Obligations.PlaySoundIsRefusedOrTakesAVoice : Prop :=
  ∀ (a : Ask) (voice pattern priority : Nat) (endNotice : Bool) (f : VoiceFields) (s : State),
    Heard s a .playSound →
    let run := exec (.playSound a voice pattern priority endNotice f) s
    let no (c : Code) : State := reply a .playSound c .none s
    let pr := min priority 3
    let prio (i : Nat) := (s.voice i).priority
    let idle (i : Nat) : Prop := (s.voice i).state = .idle
    let fading (i : Nat) : Prop := (s.voice i).state = .releasing
    let age (i : Nat) := (s.btg.tickCounter + 4294967296 - (s.voice i).startedAt) % 4294967296
    let bad := 5 ≤ voice ∨ (∃ w, f.waveform = some w ∧ 3 ≤ w) ∨ s.settings.dirCount ≤ pattern
    let beyond := 65536 * s.settings.memUnits ≤ s.settings.dirOffset + 10 * pattern + 9
    let takes (i : Nat) : Prop :=
      let v := s.voice i
      let left : State := match v.owed with
        | some o => replyOwed o .playSound .cancelled .none s
        | none =>
          if v.state ≠ .idle ∧ v.endNotice = true then
            raiseTo v.requester (.cueEnd i v.playNo v.pattern .replaced) s
          else s
      let w : Voice := { v.applyChange.withSettings (VoiceFields.clamped f) with
        state := .starting, pattern := pattern, playNo := (v.playNo + 1) % 256, priority := pr
        requester := a.source, endNotice := endNotice, startedAt := s.btg.tickCounter
        owed := some { requester := a.source, tag := a.tag, priority := a.priority }
        endReason := none, ticksLeft := 0, stepLevel := 0, lastRest := true, phase := 0
        noise := 0x7FFF, stage := .off, env := 0 }
      run = .next (match startPlay (i + 1) pattern w.playNo (left.withVoice i w) with
        | (t, none) => t
        | (t, some l) => soundResult i l t)
    (bad → run = .next (no .badArg)) ∧
    (¬ bad → beyond → run = .next (no .noSuch)) ∧
    (¬ bad → ¬ beyond → voice < 4 → idle voice ∨ prio voice ≤ pr → takes voice) ∧
    (¬ bad → ¬ beyond → voice < 4 → ¬ idle voice → pr < prio voice → run = .next (no .busy)) ∧
    (¬ bad → ¬ beyond → voice = 4 → ∀ i < 4, idle i → (∀ j < i, ¬ idle j) → takes i) ∧
    (¬ bad → ¬ beyond → voice = 4 → (∀ j < 4, ¬ idle j) →
      (∀ i < 4, fading i → (∀ j < 4, fading j → (s.voice i).env < (s.voice j).env ∨
        ((s.voice i).env = (s.voice j).env ∧ i ≤ j)) → takes i) ∧
      ((∀ j < 4, ¬ fading j) →
        (∀ i < 4, prio i ≤ pr → (∀ j < 4, prio j ≤ pr → age j < age i ∨
          (age j = age i ∧ i ≤ j)) → takes i) ∧
        ((∀ j < 4, pr < prio j) → run = .next (no .busy)))) ∧
    ∀ i < 4,
      let v := s.voice i
      let r := s.fetchRec (i + 1)
      let rest : Voice := { v with owed := none, state := .idle, stage := .off, env := 0 }
      (∀ l, v.owed = none → soundResult i l s = s) ∧
      (∀ o, v.owed = some o →
        (∀ e, soundResult i (.valid e) s = replyOwed o .playSound .done
          (.soundPlay i v.playNo v.priority {
            waveform := v.waveform, duty := v.duty, attack := v.attack, decay := v.decay
            sustain := v.sustain, release := v.release, transpose := v.transpose
            level := v.level }) (s.withVoice i { v with owed := none })) ∧
        soundResult i .noSuch s = replyOwed o .playSound .noSuch .none (s.withVoice i rest) ∧
        soundResult i .badPattern s =
          replyOwed o .playSound .badPattern .none (s.withVoice i rest)) ∧
      (∀ note length level again more, v.state = .starting ∨ v.state = .starved →
        r.buffer = .sound note length level again :: more →
        soundDelivery i s = (askSteps (i + 1) (s.withFetchRec (i + 1) { r with buffer := more })).withVoice
          i (({ v with state := .playing, ticksLeft := length } : Voice).beginNote note level again)) ∧
      (r.buffer = [] ∨ (v.state ≠ .starting ∧ v.state ≠ .starved) → soundDelivery i s = s)

/-- STOP_SOUND reaches its voice, or all four in order for ALL, and DONE counts the voices whose play
it ended or set releasing. A play whose lookup reply is owed is CANCELLED; RELEASE closes the record and
lets the envelope fall from its level, at level 0 the play ends at once; CUT ends it at once; a fading
voice is left by RELEASE and ended with its own reason by CUT (R110, R111, R93, R102). -/
def Obligations.StopSoundActsByVoiceState : Prop :=
  ∀ s : State,
    (∀ (a : Ask) (voice mode : Nat), Heard s a .stopSound →
      let run := exec (.stopSound a voice mode) s
      (2 ≤ mode ∨ 5 ≤ voice → run = .next (reply a .stopSound .badArg .none s)) ∧
      (mode < 2 → voice < 5 →
        let m : SoundStop := if mode = 0 then .release else .cut
        let t := if voice = 4 then stopVoice m 3 (stopVoice m 2 (stopVoice m 1 (stopVoice m 0 s)))
          else stopVoice m voice s
        run = .next (reply a .stopSound .done (.soundStop ((List.range 4).countP fun i =>
          decide ((t.voice i).state ≠ (s.voice i).state))) t))) ∧
    ∀ i < 4,
      let v := s.voice i
      let playing := v.state = .starting ∨ v.state = .playing ∨ v.state = .starved
      let ended (why : EndReason) (u : State) : State :=
        if v.endNotice = true then raiseTo v.requester (.cueEnd i v.playNo v.pattern why) u else u
      let silent : Voice := { v with state := .idle, stage := .off, env := 0 }
      (v.state = .idle → stopVoice .release i s = s ∧ stopVoice .cut i s = s) ∧
      (∀ o m, playing → v.owed = some o → stopVoice m i s =
        (closeRec (i + 1) (replyOwed o .playSound .cancelled .none s)).withVoice i
          { silent with owed := none }) ∧
      (playing → v.owed = none → 0 < v.env → stopVoice .release i s =
        (closeRec (i + 1) s).withVoice i { v with
          endReason := some .stopped, state := .releasing, stage := .release }) ∧
      (∀ m, playing → v.owed = none → m = .cut ∨ v.env = 0 → stopVoice m i s =
        (ended .stopped (closeRec (i + 1) s)).withVoice i
          { silent with endReason := some .stopped }) ∧
      (v.state = .releasing → stopVoice .release i s = s) ∧
      (v.state = .releasing → v.owed = none → stopVoice .cut i s =
        (ended (v.endReason.getD .stopped) s).withVoice i silent)

/-- VOICE_SET refuses a voice above 3 and a waveform that is none; otherwise the fields present,
clamped, join the voice's pending change and DONE carries the whole of it. MASTER_LEVEL sets the level
and the target of four times it, and the Budget Unit recomputes where the target changes (R88, R95,
R107, R145). -/
def Obligations.VoiceSetAndMasterLevelAct : Prop :=
  ∀ (a : Ask) (s : State),
    (∀ (voice : Nat) (f : VoiceFields), Heard s a .voiceSet →
      let bad := 4 ≤ voice ∨ ∃ w, f.waveform = some w ∧ 3 ≤ w
      let old := (s.voice voice).change
      let c : PendingChange := {
        waveform := (f.waveform.map fun w =>
          if w = 0 then Waveform.pulse else if w = 1 then .triangle else .noise).or old.waveform
        duty := (f.duty.map fun n => max 1 (min n 7)).or old.duty
        attack := (f.attack.map fun n => max 1 (min n 255)).or old.attack
        decay := (f.decay.map fun n => min n 255).or old.decay
        sustain := (f.sustain.map fun n => min n 255).or old.sustain
        release := (f.release.map fun n => max 1 (min n 255)).or old.release
        transpose := (f.transpose.map fun n => max (-24) (min n 24)).or old.transpose
        level := (f.level.map fun n => min n 15).or old.level }
      (bad → exec (.voiceSet a voice f) s = .next (reply a .voiceSet .badArg .none s)) ∧
      (¬ bad → exec (.voiceSet a voice f) s = .next (reply a .voiceSet .done (.pendingChange c)
        (s.withVoice voice { s.voice voice with change := c })))) ∧
    (∀ level : Nat, Heard s a .masterLevel →
      let m := min level 63
      let u : State := { s with se := { s.se with master := m, gTarget := 4 * m } }
      let t := if s.se.gTarget = 4 * m then u else recompute u
      exec (.masterLevel a level) s = .next (reply a .masterLevel .done
        (.master m (4 * m) t.se.gEff t.se.gCeiling) t) ∧
      t.se.master = m ∧ t.se.gTarget = 4 * m ∧ t.se.voices = s.se.voices)

/-- AUDIO_SAMPLE: every oscillator advances, its noise register shifting at a phase wrap; in ACTIVE
the four contributions are summed, scaled by the gain in use and saturated, the first clipped sample of
a tick interval counts CLIPS, and the compare value lies in 0..1023; elsewhere it is 512. A voice's
contribution is trunc(w × e × L / 1024), lies in −478..474 and is 0 for an IDLE voice. Its wave value w:
PULSE is 127 while the phase in eighths is below the duty and −128 from there on, TRIANGLE is 2t − 128,
from t = 128 on 383 − 2t, NOISE is 127 or −128 by the register's lowest bit (R98, R99, R101, R104, R105,
R106; the oscillators outside ACTIVE, and no sample in KEEP, logs 21 and 26). -/
def Obligations.AudioSampleMixesTheVoices : Prop :=
  (∀ v : Voice, v.env ≤ 255 → v.stepLevel ≤ 15 → v.level ≤ 15 → v.phase < 16777216 →
    -478 ≤ v.contribution ∧ v.contribution ≤ 474 ∧ (v.state = .idle → v.contribution = 0) ∧
    (v.env = 0 ∨ v.stepLevel = 0 ∨ v.level = 0 → v.contribution = 0) ∧
    (v.state ≠ .idle → v.contribution =
      Int.tdiv (v.wave * v.env * (v.stepLevel * v.level / 15 : Nat)) 1024)) ∧
  (∀ v : Voice,
    let t : Int := (v.phase / 65536 : Nat)
    (v.waveform = .pulse → v.wave = if v.phase / 2097152 < v.duty then 127 else -128) ∧
    (v.waveform = .triangle → v.wave = if t < 128 then 2 * t - 128 else 383 - 2 * t) ∧
    (v.waveform = .noise → v.wave = if v.noise.toNat % 2 = 1 then 127 else -128)) ∧
  ∀ s : State,
    let voices : Vector Voice 4 := s.se.voices.map fun v => { v with
      phase := (v.phase + v.increment) % 16777216
      noise := if v.phase + v.increment < 16777216 then v.noise
        else BitVec.cons (v.noise.getLsbD 0 != v.noise.getLsbD 1) (v.noise.extractLsb' 1 14) }
    let sum := voices[0].contribution + voices[1].contribution + voices[2].contribution +
      voices[3].contribution
    let out := Int.tdiv (sum * s.se.gEff) 256
    let kept := max (-512) (min out 511)
    (s.ps.state = .active → out = kept → exec .audioSample s = .next { s with
      se := { s.se with voices := voices, compare := (kept + 512).toNat } }) ∧
    (s.ps.state = .active → out ≠ kept → s.se.clipOpen = true → exec .audioSample s =
      .next (count .clips { s with se := { s.se with
        voices := voices, compare := (kept + 512).toNat, clipOpen := false } })) ∧
    (s.ps.state = .active → out ≠ kept → s.se.clipOpen = false → exec .audioSample s =
      .next { s with se := { s.se with voices := voices, compare := (kept + 512).toNat } }) ∧
    (s.ps.state = .active → (kept + 512).toNat ≤ 1023) ∧
    (s.ps.state = .starting ∨ s.ps.state = .doze → exec .audioSample s = .next { s with
      se := { s.se with voices := voices, compare := 512 } }) ∧
    (s.ps.state = .keep → exec .audioSample s = .next s)

/-- A tick of the Sound Engine: each voice takes its pending change, then its step work, then its
envelope work, and the gain in use moves by at most 8 toward the target under the ceiling. A PLAYING
voice counts its step down; at its end the next step begins, or the voice starves, or the pattern ends.
A RELEASING voice that reaches level 0 becomes IDLE with CUE_END where wanted, at once where the
pattern ends with a level that the release step takes to 0. In OFF the envelope holds at 0. A tick that
begins the next step takes it from the buffer of the voice's fetch record, which may ask for steps, and
changes nothing else but the voice. The pending change replaces each setting it
names and is then empty; a transpose recomputes the increment from the current note (R87, R96, R97, R100, R101, R102, R103, R108,
R111; voices 0 to 3 before the mixer log 11, a rest's RELEASE at level 0 too log 30). -/
def Obligations.TickMovesTheVoicesAndTheGain : Prop :=
  (∀ s : State,
    let u := voiceTick 3 (voiceTick 2 (voiceTick 1 (voiceTick 0 s)))
    let goal := min u.se.gTarget u.se.gCeiling
    soundTick s = u.withSe { u.se with
      clipOpen := true
      gEff := if u.se.gEff < goal then min (u.se.gEff + 8) goal else max (u.se.gEff - 8) goal }) ∧
  (∀ v : Voice,
    let c := v.change
    let transpose := c.transpose.getD v.transpose
    v.applyChange = { v with
      waveform := c.waveform.getD v.waveform, duty := c.duty.getD v.duty
      attack := c.attack.getD v.attack, decay := c.decay.getD v.decay
      sustain := c.sustain.getD v.sustain, release := c.release.getD v.release
      transpose := transpose, level := c.level.getD v.level, change := {}
      increment :=
        if c.transpose = none then v.increment
        else noteTable.getD (max 0 (min (v.note + transpose) 95)).toNat 0 }) ∧
  (∀ (v : Voice) (n level : Nat) (again : Bool),
    v.beginNote 127 level again = v ∧
    v.beginNote 126 level again = { v with stage := .release, lastRest := true } ∧
    (n ≤ 95 →
      let w : Voice := { v with
        note := n, stepLevel := level, lastRest := false
        increment := noteTable.getD (max 0 (min (n + v.transpose) 95)).toNat 0 }
      v.beginNote n level again =
        if again = true ∨ v.lastRest = true then { w with stage := .attack, env := 0 } else w)) ∧
  (∀ v : Voice,
    (v.stage = .attack → v.env + v.attack < 255 →
      v.moveEnvelope = { v with env := v.env + v.attack }) ∧
    (v.stage = .attack → 255 ≤ v.env + v.attack →
      v.moveEnvelope = { v with env := 255, stage := .decay }) ∧
    (v.stage = .decay → v.sustain + v.decay < v.env →
      v.moveEnvelope = { v with env := v.env - v.decay }) ∧
    (v.stage = .decay → v.env ≤ v.sustain + v.decay →
      v.moveEnvelope = { v with env := v.sustain, stage := .sustain }) ∧
    (v.stage = .sustain → v.moveEnvelope = v) ∧
    (v.stage = .release → v.release < v.env →
      v.moveEnvelope = { v with env := v.env - v.release }) ∧
    (v.stage = .release → v.env ≤ v.release →
      v.moveEnvelope = { v with env := 0, stage := .off }) ∧
    (v.stage = .off → v.moveEnvelope = { v with env := 0 })) ∧
  ∀ (s : State), ∀ i < 4,
    let v := (s.voice i).applyChange
    let r := s.fetchRec (i + 1)
    (v.state = .idle ∨ v.state = .starting ∨ v.state = .starved →
      voiceTick i s = s.withVoice i v) ∧
    (v.state = .playing → 1 < v.ticksLeft → voiceTick i s =
      s.withVoice i ({ v with ticksLeft := v.ticksLeft - 1 } : Voice).moveEnvelope) ∧
    (∀ note length level again rest, v.state = .playing → v.ticksLeft ≤ 1 →
      r.buffer = .sound note length level again :: rest →
      voiceTick i s = (askSteps (i + 1) (s.withFetchRec (i + 1) { r with buffer := rest })).withVoice i
        (({ v with ticksLeft := length } : Voice).beginNote note level again).moveEnvelope) ∧
    (v.state = .playing → v.ticksLeft ≤ 1 → r.buffer = [] → r.cursor ≠ none →
      voiceTick i s = count .starves (s.withVoice i { v with ticksLeft := 0, state := .starved })) ∧
    (v.state = .playing → v.ticksLeft ≤ 1 → r.buffer = [] → r.cursor = none → v.release < v.env →
      voiceTick i s = (closeRec (i + 1) s).withVoice i { v with
        ticksLeft := 0, endReason := some .finished, state := .releasing, stage := .release
        env := v.env - v.release }) ∧
    (v.state = .playing → v.ticksLeft ≤ 1 → r.buffer = [] → r.cursor = none → v.env ≤ v.release →
      v.owed = none → voiceTick i s =
        (if v.endNotice = true then
            raiseTo v.requester (.cueEnd i v.playNo v.pattern .finished) (closeRec (i + 1) s)
          else closeRec (i + 1) s).withVoice i { v with
            ticksLeft := 0, endReason := some .finished, state := .idle, stage := .off, env := 0 }) ∧
    (v.state = .releasing → v.moveEnvelope.stage ≠ .off →
      voiceTick i s = s.withVoice i v.moveEnvelope) ∧
    (v.state = .releasing → v.moveEnvelope.stage = .off → v.owed = none →
      voiceTick i s =
        (if v.endNotice = true then
            raiseTo v.requester (.cueEnd i v.playNo v.pattern (v.endReason.getD .finished)) s
          else s).withVoice i { v.moveEnvelope with state := .idle, env := 0 })

/-! ### The Rumble Driver -/

/-- PLAY_RUMBLE and STEADY_RUMBLE: the tests in order, with the player untouched where one fails; the
taking of the player, with its play ended by REPLACED or, while braking, by its recorded reason, an
owed reply CANCELLED, its record closed and its drive off; then for a pattern the lookup, on a cache hit
answered at once, and for a steady play its duty reserved and DONE at once (R118, R119, R120, R125,
R127, R132). A play leaves STARTING when its raise has ended and its first delivery has come; a delivery
to a STARVED player begins its first step (R83, R121, R122). What follows every step of the player: the
Budget Unit recomputes when G_target, G_eff, D_res or D_eff has changed, and reports a new D_res at once
where that started no raise, none is in progress and the listen period is over; without a motor check
the report sets the raise-ended flag and the play may start (R121, R145, R153). A steady play keeps the pattern number of
the play before it in the player's field, which is the model's choice (log 32). -/
def Obligations.RumbleRequestsAreRefusedOrTakeThePlayer : Prop :=
  ∀ (a : Ask) (priority : Nat) (endNotice : Bool) (s : State),
    let pr := min priority 3
    let r := s.rd
    let running := r.player = .starting ∨ r.player = .playing ∨ r.player = .starved ∨
      r.player = .steady
    let fault : ReplyData := match r.lastFault with
      | none => .none
      | some (cause, current) => .lastFault cause current
    let free := r.player ≠ .faulted ∧ r.player ≠ .checking ∧ (running → r.priority ≤ pr)
    let left : State := match r.owed with
      | some o => replyOwed o .playRumble .cancelled .none s
      | none =>
        if (running ∨ r.player = .braking) ∧ r.endNotice = true then
          raiseTo r.requester (.rumbleEnd r.playNo r.kind
            (match r.kind with | .pattern => some r.pattern | .steady => none)
            (if r.player = .braking then r.endReason.getD .replaced else .replaced)) s
        else s
    let taken (kind : PlayKind) (pattern : Nat) : State :=
      recomputeSince s { closeRec 0 left with rd := { r with
        player := .starting, kind := kind, pattern := pattern, playNo := (r.playNo + 1) % 256
        priority := pr, requester := a.source, endNotice := endNotice, owed := none, dRes := 0
        raiseEnded := false, ticksLeft := 0, ramp := none, brakeLeft := 0, endReason := none
        dReq := 0, mode := .off, dEff := 0 } }
    (∀ pattern, Heard s a .playRumble →
      let run := exec (.playRumble a pattern priority endNotice) s
      let no (c : Code) (d : ReplyData) : State := reply a .playRumble c d s
      let beyond := 65536 * s.settings.memUnits ≤ s.settings.dirOffset + 10 * pattern + 9
      let u := taken .pattern pattern
      (s.settings.dirCount ≤ pattern → run = .next (no .badArg .none)) ∧
      (pattern < s.settings.dirCount → beyond → run = .next (no .noSuch .none)) ∧
      (pattern < s.settings.dirCount → ¬ beyond →
        (r.player = .faulted → run = .next (no .motorFault fault)) ∧
        (r.player = .checking ∨ (running ∧ pr < r.priority) → run = .next (no .busy .none)) ∧
        (free → run = .next (match startPlay 0 pattern ((r.playNo + 1) % 256) { u with
            rd := { u.rd with
              owed := some { requester := a.source, tag := a.tag, priority := a.priority } } } with
          | (t, none) => t
          | (t, some l) => grant (budgetFollow t (rumbleResult l t)))))) ∧
    (∀ duty duration, Heard s a .steadyRumble →
      let run := exec (.steadyRumble a duty duration priority endNotice) s
      let no (c : Code) (d : ReplyData) : State := reply a .steadyRumble c d s
      let u := taken .steady r.pattern
      (r.player = .faulted → run = .next (no .motorFault fault)) ∧
      (r.player = .checking ∨ (running ∧ pr < r.priority) → run = .next (no .busy .none)) ∧
      (free → run = .next (budgetFollow u (tryStart (reply a .steadyRumble .done
        (.steadyPlay ((r.playNo + 1) % 256) duty duration pr) { u with rd := { u.rd with
          steadyDuty := duty, duration := (if duration = 0 then none else some duration)
          dRes := duty, raiseEnded := decide (duty = 0) } }))))) ∧
    (∀ o, r.owed = some o →
      (∀ e : DirEntry, rumbleResult (.valid e) s = tryStart (replyOwed o .playRumble .done
        (.rumblePlay r.playNo r.priority e.peakDuty) { s with rd := { r with
          owed := none, peak := e.peakDuty, dRes := e.peakDuty
          raiseEnded := r.raiseEnded || e.peakDuty == 0 } })) ∧
      ∀ l c, (l = .noSuch ∧ c = .noSuch) ∨ (l = .badPattern ∧ c = .badPattern) →
        rumbleResult l s = replyOwed o .playRumble c .none { s with rd := { r with
          owed := none, player := .idle, mode := .off, dReq := 0, dRes := 0, dEff := 0 } }) ∧
    (r.player = .starting → r.raiseEnded = false → tryStart s = s) ∧
    (r.player = .starting → r.raiseEnded = true → r.owed = none → r.kind = .steady →
      tryStart s = refreshDuty { s with rd := { r with
        player := .steady, mode := .drive, dReq := r.steadyDuty } }) ∧
    (r.player = .starting → r.owed = none → r.kind = .pattern → (s.fetchRec 0).buffer = [] →
      tryStart s = s) ∧
    (∀ duty length ramp brake rest, r.player = .starting → r.raiseEnded = true → r.owed = none →
      r.kind = .pattern → (s.fetchRec 0).buffer = .rumble duty length ramp brake :: rest →
      tryStart s = beginRumbleStep (.rumble duty length ramp brake)
        (askSteps 0 (s.withFetchRec 0 { s.fetchRec 0 with buffer := rest }))) ∧
    (∀ x rest, r.player = .starved → (s.fetchRec 0).buffer = x :: rest →
      rumbleDelivery s =
        beginRumbleStep x (askSteps 0 (s.withFetchRec 0 { s.fetchRec 0 with buffer := rest }))) ∧
    (r.player = .starved → (s.fetchRec 0).buffer = [] → rumbleDelivery s = s) ∧
    (r.player ≠ .starved → rumbleDelivery s = tryStart s) ∧
    (r.check = none → takeReport s = tryStart { s with rd := { r with raiseEnded := true } }) ∧
    ∀ before : State,
      let same (x y : State) : Prop := x.se.gTarget = y.se.gTarget ∧ x.se.gEff = y.se.gEff ∧
        x.rd.dRes = y.rd.dRes ∧ x.rd.dEff = y.rd.dEff
      let reports (t : State) : Prop := r.dRes ≠ before.rd.dRes ∧ 0 < t.rd.dRes ∧
        t.ps.state = .active ∧ t.bu.raise = none ∧ t.bu.listenEnd = none
      let told (t : State) : Prop :=
        (¬ reports t → budgetFollow before s = t) ∧
        (reports t → same t (takeReport t) → budgetFollow before s = takeReport t) ∧
        (reports t → ¬ same t (takeReport t) →
          budgetFollow before s = recompute (takeReport t))
      (same before s → told s) ∧ (¬ same before s → told (recompute s))

/-- STOP_RUMBLE by the player's state: IDLE, FAULTED and CHECKING are left; an owed lookup reply is
CANCELLED and the player IDLE; a running play brakes with the reason STOPPED or, in COAST, ends at once;
a BRAKING play is left by BRAKE and ends at once, with its own reason, by COAST. DONE says whether the
state changed and which it is, and the Budget Unit follows the reservation (R124, R126, R127, R129). -/
def Obligations.StopRumbleActsByPlayerState : Prop :=
  ∀ (a : Ask) (mode : Nat) (s : State), Heard s a .stopRumble →
    let run := exec (.stopRumble a mode) s
    let r := s.rd
    let running := r.player = .starting ∨ r.player = .playing ∨ r.player = .starved ∨
      r.player = .steady
    let answered (t : State) : Host.Outcome State Fault Refusal :=
      .next (grant (budgetFollow s (reply a .stopRumble .done
        (.rumbleStop (decide (t.rd.player ≠ r.player)) t.rd.player) t)))
    let ended (why : EndReason) (u : State) : State :=
      if r.endNotice = true then
        raiseTo r.requester (.rumbleEnd r.playNo r.kind
          (match r.kind with | .pattern => some r.pattern | .steady => none) why) u
      else u
    let off : Rumble := { r with player := .idle, mode := .off, dReq := 0, dRes := 0, dEff := 0 }
    (2 ≤ mode → run = .next (reply a .stopRumble .badArg .none s)) ∧
    (mode < 2 → r.player = .idle ∨ r.player = .faulted ∨ r.player = .checking ∨
      (r.player = .braking ∧ mode = 0) → run = answered s) ∧
    (∀ o, mode < 2 → running → r.owed = some o →
      run = answered { closeRec 0 (replyOwed o .playRumble .cancelled .none s) with
        rd := { off with owed := none } }) ∧
    (mode = 1 → running → r.owed = none →
      run = answered { ended .stopped (closeRec 0 s) with
        rd := { off with endReason := some .stopped } }) ∧
    (mode = 0 → running → r.owed = none → 0 < s.settings.brakeTicks →
      run = answered { closeRec 0 s with rd := { off with
        player := .braking, mode := .brake, endReason := some .stopped
        brakeLeft := s.settings.brakeTicks } }) ∧
    (mode = 0 → running → r.owed = none → s.settings.brakeTicks = 0 →
      run = answered { ended .stopped (closeRec 0 s) with rd := { off with
        endReason := some .stopped, brakeLeft := 0 } }) ∧
    (mode = 1 → r.player = .braking → r.owed = none →
      run = answered { ended (r.endReason.getD .finished) s with rd := off })

/-- MOTOR_CHECK is refused BUSY unless the player is IDLE or FAULTED with the guard CLEAR; taken, it
reserves the test duty. Its raise-end report begins the drive, or ends the check NO_HEADROOM under a cap
below the test duty. MOTOR_CHECK_DRIVE_END gives the verdict on the measured current.
MOTOR_SENSE_SAMPLE acts in DRIVE with D_eff above 0 alone: above the trip it cuts the drive, ends the
play with FAULT or the check SHORT, and raises MOTOR_FAULT; in the check's window it joins the sum (R131,
R133, R134, R135). The drive's end stands at its due count (log 2), and a check ended by an overcurrent
leaves the last fault SHORT (log 30). MOTOR_CHECK_DRIVE_END without a running check drive changes nothing,
which is the model's choice (log 26). -/
def Obligations.MotorCheckRunsAndTheCurrentIsSensed : Prop :=
  ∀ s : State,
    let r := s.rd
    let stopped (p : PlayerState) (f : Option (FaultCause × Nat)) (u : State) : State :=
      { u with rd := { u.rd with
        player := p, lastFault := f, check := none, mode := .off, dReq := 0, dRes := 0, dEff := 0 } }
    let answered (c : MotorCheck) (code : Code) (o : CheckOutcome) (why : Option FailReason)
        (current : Option Nat) (p : PlayerState) (f : Option (FaultCause × Nat))
        (u : State) : State :=
      replyOwed c.owed .motorCheck code (.check o why current p) (stopped p f u)
    let origin (c : MotorCheck) : PlayerState := if c.cameFaulted = true then .faulted else .idle
    (∀ a : Ask, Heard s a .motorCheck →
      ((r.player = .idle ∨ r.player = .faulted) → r.guard = .clear →
        exec (.motorCheck a) s = .next (budgetFollow s { s with rd := { r with
          player := .checking, dRes := s.settings.testDuty
          check := some {
            owed := { requester := a.source, tag := a.tag, priority := a.priority }
            cameFaulted := decide (r.player = .faulted), driveStart := none, sum := 0
            count := 0 } } })) ∧
      ((r.player ≠ .idle ∧ r.player ≠ .faulted) ∨ r.guard = .tripped →
        exec (.motorCheck a) s = .next (reply a .motorCheck .busy .none s))) ∧
    (∀ c, r.check = some c → c.driveStart = none →
      (r.dBudget < s.settings.testDuty → takeReport s =
        answered c .noHeadroom .failed (some .noHeadroom) none (origin c) r.lastFault
          { s with rd := { r with raiseEnded := true } }) ∧
      (s.settings.testDuty ≤ r.dBudget → takeReport s = refreshDuty { s with rd := { r with
        raiseEnded := true, mode := .drive, dReq := s.settings.testDuty
        check := some { c with driveStart := some s.now } } })) ∧
    (∀ (c : MotorCheck) (t : Nat), r.check = some c → c.driveStart = some t →
      let u := reach (t + 20972) s
      let current := min (c.sum / c.count) 511
      let run := exec .motorCheckDriveEnd s
      (c.count = 0 → run = .next (budgetFollow u (answered c .noHeadroom .failed
        (some .noHeadroom) none (origin c) r.lastFault u))) ∧
      (0 < c.count → current < s.settings.openThreshold → run = .next (budgetFollow u
        (answered c .done .openMotor none (some current) .faulted (some (.openMotor, current)) u))) ∧
      (0 < c.count → s.settings.openThreshold ≤ current → s.settings.shortThreshold < current →
        run = .next (budgetFollow u (answered c .done .shortMotor none (some current) .faulted
          (some (.shortMotor, current)) u))) ∧
      (0 < c.count → s.settings.openThreshold ≤ current → current ≤ s.settings.shortThreshold →
        run = .next (budgetFollow u
          (answered c .done .normal none (some current) .idle none u)))) ∧
    ((∀ c, r.check = some c → c.driveStart = none) → exec .motorCheckDriveEnd s = .next s) ∧
    ∀ sample : Nat,
      let current := min sample 511
      let run := exec (.motorSenseSample sample) s
      let driving := r.mode = .drive ∧ 0 < r.dEff
      let trips := s.settings.overTrip < current
      let ended : State :=
        if (r.player = .starting ∨ r.player = .playing ∨ r.player = .starved ∨
            r.player = .steady) ∧ r.owed = none ∧ r.endNotice = true then
          raiseTo r.requester (.rumbleEnd r.playNo r.kind
            (match r.kind with | .pattern => some r.pattern | .steady => none) .fault) s
        else s
      (¬ driving → run = .next s) ∧
      (driving → trips → r.check = none → r.player ≠ .braking →
        run = .next (budgetFollow s (raiseNotice (.motorFault current)
          (stopped .faulted (some (.overcurrent, current)) (closeRec 0 ended))))) ∧
      (∀ c, driving → trips → r.check = some c →
        run = .next (budgetFollow s (raiseNotice (.motorFault current)
          (answered c .done .shortMotor none (some current) .faulted
            (some (.shortMotor, current)) s)))) ∧
      (∀ (c : MotorCheck) (t : Nat), driving → ¬ trips → r.check = some c → c.driveStart = some t →
        (t + 10486 ≤ s.now → run = .next { s with rd := { r with
          check := some { c with sum := c.sum + current, count := c.count + 1 } } }) ∧
        (s.now < t + 10486 → run = .next s)) ∧
      (driving → ¬ trips → (∀ c, r.check = some c → c.driveStart = none) → run = .next s)

/-- A tick of the Rumble Driver: the step, ramp, brake and duration work of its state, then the heat
estimate, max(0, min(H + D_eff − C, 65535)), and the guard's one examination with its notice, its count,
its cut of D_eff and, in a check's drive, the check's end: it is answered BUSY with FAILED and GUARD, the
player returns to the state it came from and the last fault stays (R115, R122, R123, R124, R125, R127,
R130, R134, R135). A step is held to the peak duty. At the end of a pattern or of a duration the record is closed, the reason is
FINISHED, the mode BRAKE, D_req, D_res and D_eff are 0 and brake left is the brake ticks; with brake ticks 0
the play ends at once. At the last brake tick the drive is OFF, the player IDLE and the play ends with its
recorded reason. -/
def Obligations.TickMovesTheMotorAndItsHeat : Prop :=
  ∀ s : State,
    let r := s.rd
    let heat := (max 0 (min ((r.heat : Int) + r.dEff - s.settings.coolRate) 65535)).toNat
    let warm : State := { s with rd := { r with heat := heat } }
    let guarded (g : GuardState) : State :=
      refreshDuty { s with rd := { r with heat := heat, guard := g } }
    let trip : State :=
      raiseNotice (.motorGuard .tripped heat) (count .guardTrips (guarded .tripped))
    let driving := ∃ c t, r.check = some c ∧ c.driveStart = some t
    let told (why : EndReason) (u : State) : State :=
      if r.endNotice = true ∧ r.owed = none then
        raiseTo r.requester (.rumbleEnd r.playNo r.kind
          (match r.kind with | .pattern => some r.pattern | .steady => none) why) u
      else u
    let finished (x : Rumble) : State :=
      let off : Rumble := { x with
        player := .idle, endReason := some .finished, mode := .off, dReq := 0, dRes := 0, dEff := 0
        brakeLeft := s.settings.brakeTicks }
      if s.settings.brakeTicks = 0 then { told .finished (closeRec 0 s) with rd := off }
      else { closeRec 0 s with rd := { off with player := .braking, mode := .brake } }
    let failed (c : MotorCheck) : State :=
      let came : PlayerState := if c.cameFaulted = true then .faulted else .idle
      replyOwed c.owed .motorCheck .busy (.check .failed (some .guardTrip) none came)
        { trip with rd := { trip.rd with
          player := came, check := none, mode := .off, dReq := 0, dRes := 0, dEff := 0 } }
    rumbleTick s = heatTick (rumbleStepWork s) ∧
    (r.guard = .clear → heat < s.settings.hTrip → heatTick s = warm) ∧
    (r.guard = .clear → s.settings.hTrip ≤ heat → ¬ driving → heatTick s = trip) ∧
    (∀ (c : MotorCheck) (t : Nat), r.guard = .clear → s.settings.hTrip ≤ heat → r.check = some c →
      c.driveStart = some t → heatTick s = failed c ∧ (failed c).rd.lastFault = r.lastFault) ∧
    (r.guard = .tripped → heat ≤ s.settings.hClear →
      heatTick s = raiseNotice (.motorGuard .clear heat) (guarded .clear)) ∧
    (r.guard = .tripped → s.settings.hClear < heat → heatTick s = warm) ∧
    (r.player = .playing → 1 < r.ticksLeft → r.ramp = none →
      rumbleStepWork s = { s with rd := { r with ticksLeft := r.ticksLeft - 1 } }) ∧
    (∀ q : Ramp, r.player = .playing → 1 < r.ticksLeft → r.ramp = some q →
      rumbleStepWork s = refreshDuty { s with rd := { r with
        ticksLeft := r.ticksLeft - 1, ramp := some { q with position := q.position + 1 }
        dReq := ((q.start : Int) +
          Int.tdiv (((q.target : Int) - q.start) * ((q.position : Int) + 1)) q.length).toNat } }) ∧
    (∀ x rest, r.player = .playing → r.ticksLeft ≤ 1 → (s.fetchRec 0).buffer = x :: rest →
      rumbleStepWork s = beginRumbleStep x (askSteps 0 { s.withFetchRec 0 { s.fetchRec 0 with
        buffer := rest } with rd := { r with ticksLeft := 0 } })) ∧
    (r.player = .playing → r.ticksLeft ≤ 1 → (s.fetchRec 0).buffer = [] →
      (s.fetchRec 0).cursor ≠ none → rumbleStepWork s =
        count .starves { s with rd := { r with ticksLeft := 0, player := .starved } }) ∧
    (r.player = .playing → r.ticksLeft ≤ 1 → (s.fetchRec 0).buffer = [] →
      (s.fetchRec 0).cursor = none → rumbleStepWork s =
        finished { r with ticksLeft := 0 }) ∧
    (r.player = .steady → r.duration = none → rumbleStepWork s = s) ∧
    (∀ n, r.player = .steady → r.duration = some (n + 2) →
      rumbleStepWork s = { s with rd := { r with duration := some (n + 1) } }) ∧
    (r.player = .steady → r.duration = some 1 →
      rumbleStepWork s = finished { r with duration := some 0 }) ∧
    (r.player = .braking → 1 < r.brakeLeft →
      rumbleStepWork s = { s with rd := { r with brakeLeft := r.brakeLeft - 1 } }) ∧
    (∀ why, r.player = .braking → r.brakeLeft ≤ 1 → r.endReason = some why →
      rumbleStepWork s = { told why s with rd := { r with
        brakeLeft := 0, player := .idle, mode := .off, dReq := 0, dRes := 0, dEff := 0 } }) ∧
    (r.player = .idle ∨ r.player = .starting ∨ r.player = .starved ∨ r.player = .checking ∨
      r.player = .faulted → rumbleStepWork s = s) ∧
    (∀ duty length ramp brake,
      let d := min duty r.peak
      let q : Ramp := { start := r.dReq, target := d, position := 1, length := length }
      beginRumbleStep (.rumble duty length ramp brake) s = refreshDuty { s with rd := { r with
        player := .playing, ticksLeft := length
        mode := if brake = true then .brake else .drive
        ramp := if brake = false ∧ ramp = true then some q else none
        dReq := if brake = true then 0 else if ramp = true then
          ((r.dReq : Int) + Int.tdiv ((d : Int) - r.dReq) length).toNat else d } })

/-! ### The Budget Unit -/

/-- The motor takes what the sound share leaves: g_m by its formula, the duty cap as the largest duty
whose motor current fits in it, 0 for a reserved duty of 0 and for a sound share that takes the whole of
B − I_core; with the caps handed, the draw estimate of a drive that asks for no more than it reserved
stays at or below the current planned for, which is at most max(B, I_core) (R147). -/
def Obligations.MotorTakesWhatTheSoundShareLeaves : Prop :=
  ∀ s : State, 0 < s.settings.iFull →
    let base := grantBase s
    let core : Int := s.settings.iCore
    let demand := max s.se.gTarget s.se.gEff
    let sound := ampCurrent s.settings (min demand (gainCeiling s))
    let share := motorShare s
    let cap := dutyCap s
    let planned := s.settings.iCore + sound + motorCurrent s.settings (min s.rd.dRes cap)
    let t := handCaps s
    (share : Int) = min (motorCurrent s.settings s.rd.dRes : Int) (max 0 (base - core - sound)) ∧
    (cap : Int) = min 255 ⌊((share : ℚ) * 255 / s.settings.iFull)⌋ ∧
    (∀ d ≤ 255, motorCurrent s.settings d ≤ share ↔ d ≤ cap) ∧
    (s.rd.dRes = 0 → cap = 0) ∧ (base - core ≤ sound → cap = 0) ∧
    t.rd.dBudget = cap ∧ t.se.gCeiling = gainCeiling s ∧
    t.se.gEff ≤ min demand (gainCeiling s) ∧
    (s.rd.dReq ≤ s.rd.dRes → t.rd.dEff ≤ min s.rd.dRes cap ∧ ownDraw t ≤ planned) ∧
    (planned : Int) ≤ max base core

/-- What a recomputation is. The currents Ia and Im, the peer sum with yielding entries at their previous
claim, H_room, the grant base, the sound share with its ceiling, the wanted claim and the lower claim by
their formulas (R139, R145, R146, R150, R154; the ceiling 255 with A0 and A1 both 0 log 30, an odd I_core
log 35). One pass hands the caps, each cutting the value above it, then examines OVER_ALLOWANCE: in
ACTIVE and DOZE it is raised with ENTERED or LEFT, A, P_sum and H_room as H_room crosses I_core (R148,
R149; the recomputation that ends a start leaves this out, log 33). Then the claim is decided, in ACTIVE: with a
raise in progress, C_want above the planned value starts it over; without one, C_want above C_ann begins
a raise, which records C_want and announces it, unless the listen period runs; L at least 4 mA below
C_ann, with G_eff not above G_target, is announced and becomes C_rel; otherwise nothing is announced
(R144, R150, R151, R154). The passes go on until one changes neither a gain or a duty in use nor C_rel,
within 8 passes (log 12). After that the caps stand as a further one would hand them, the drives follow
them, and nothing but the queue, the Notice Unit, the caps with the values they cut, and the own claim
with the OVER_ALLOWANCE flag has changed (R145, R148, R149). -/
def Obligations.RecomputationSettles : Prop :=
  ∀ s : State,
    let st := s.settings
    let b := s.bu
    let core := st.iCore
    let amp (g : Nat) : Nat := if g = 0 then 0 else st.a0 + (st.a1 * g + 254) / 255
    let motor (d : Nat) : Nat := (st.iFull * d + 254) / 255
    let even (x : Nat) : Nat := min 510 (2 * ((x + 1) / 2))
    let counted (i : Fin 15) : Nat := match b.peers[i] with
      | none => 0
      | some p => if p.yielding = true then p.previous else p.claim
    let sum := ∑ i : Fin 15, counted i
    let room : Int := (b.allowance : Int) - sum
    let base : Int := if s.ps.state = .active ∧ b.holding = false then min room b.released else 0
    let demand := max s.se.gTarget s.se.gEff
    let sound := min (amp demand) (base - core).toNat
    let ceiling := if st.a1 = 0 then if st.a0 ≤ sound then 255 else 0
      else if sound < st.a0 + 1 then 0 else min 255 ((sound - st.a0) * 255 / st.a1)
    let want := max (even core) (min (even (core + amp demand + motor s.rd.dRes) : Int) room).toNat
    let lower := max want (even (core + amp s.se.gEff + motor s.rd.dEff))
    let serving := s.ps.state = .active ∨ s.ps.state = .doze
    let crossed (entered : Bool) : State := raiseNotice (.overAllowance entered b.allowance sum room)
      { s with bu := { b with overFlag := entered } }
    let raised : State := announce want
      { s with bu := { b with raise := some { planned := want, settleStart := none } } }
    let t := recompute s
    (grantBase s = base ∧ gainCeiling s = ceiling) ∧
    (let cut : Rumble := { s.rd with dBudget := dutyCap s }
     handCaps s = { s with
       se := { s.se with gCeiling := ceiling, gEff := min s.se.gEff ceiling }
       rd := { cut with dEff := effectiveDuty st s.ps.state cut } }) ∧
    (serving → room < core → b.overFlag = false → examineOver s = crossed true) ∧
    (serving → (core : Int) ≤ room → b.overFlag = true → examineOver s = crossed false) ∧
    (¬ serving ∨ (room < core ↔ b.overFlag = true) → examineOver s = s) ∧
    (∀ c, announce c s = handPost ⟨1, s.lif.own, 15, .claim c⟩
      { s with bu := { b with announced := some c, handedAt := some s.now } }) ∧
    (s.ps.state ≠ .active ∨ b.announced = none → decideClaim s = s) ∧
    (∀ ann, s.ps.state = .active → b.announced = some ann →
      (∀ r, b.raise = some r →
        (r.planned < want → decideClaim s = raised) ∧ (want ≤ r.planned → decideClaim s = s)) ∧
      (b.raise = none →
        (ann < want → b.listenEnd = none → decideClaim s = raised) ∧
        (ann < want → b.listenEnd ≠ none → decideClaim s = s) ∧
        (lower + 4 ≤ ann → s.se.gEff ≤ s.se.gTarget →
          decideClaim s = announce lower { s with bu := { b with released := lower } }) ∧
        (want ≤ ann → ann < lower + 4 ∨ s.se.gTarget < s.se.gEff → decideClaim s = s))) ∧
    recomputeOnce s = decideClaim (examineOver (handCaps s)) ∧
    (∃ n < 8, t = recomputeOnce^[n + 1] s ∧
      let before := recomputeOnce^[n] s
      t.se.gEff = before.se.gEff ∧ t.rd.dEff = before.rd.dEff ∧ t.bu.released = before.bu.released) ∧
    t.se.gCeiling = gainCeiling t ∧ t.rd.dBudget = dutyCap t ∧ t.se.gEff ≤ t.se.gCeiling ∧
    t.rd.dEff = effectiveDuty t.settings t.ps.state t.rd ∧
    (t.ps.state = .active ∨ t.ps.state = .doze →
      (t.bu.overFlag = true ↔ headroom t.bu < t.settings.iCore)) ∧
    t = { s with
      lif := { s.lif with queue := t.lif.queue }, nu := t.nu
      se := { s.se with gEff := t.se.gEff, gCeiling := t.se.gCeiling }
      rd := { s.rd with dEff := t.rd.dEff, dBudget := t.rd.dBudget }
      bu := { s.bu with announced := t.bu.announced, handedAt := t.bu.handedAt
                        released := t.bu.released, raise := t.bu.raise
                        overFlag := t.bu.overFlag } } ∧
    t.nu.mask = s.nu.mask

/-- What reaches the Budget Unit from the line and from its timers. ALLOWANCE of the power station with
one byte sets A; CLAIM of a peer with rail 0 renews its entry; 600 ms without one makes the allowance
STALE at the safe allowance or removes the entry; 500 ms after the last acknowledge the claim-age guard
holds; the end of the listen period recomputes and hands the raise-end report that waits; 200 ms after
the last CLAIM a refresh leaves. Each change is followed by a recomputation, and a post that these rules
drop changes nothing (R140, R141, R142, R143, R145, R153, R155, R156, R157; due counts log 2). That a
timer that does not run, and an ALLOWANCE or a CLAIM outside ACTIVE and DOZE, change nothing is the
model's choice (log 26). -/
def Obligations.BudgetUnitTakesPostsAndTimers : Prop :=
  ∀ s : State,
    let b := s.bu
    let heard := s.ps.state = .active ∨ s.ps.state = .doze
    (∀ (source : Nat) (payload : List Byte),
      let run := exec (.allowance source payload) s
      (∀ x : Byte, heard → source = s.settings.powerStation → payload = [x] →
        run = .next (recompute { s with bu := { b with
          allowance := 2 * x.toNat, heard := some s.now, fresh := true } })) ∧
      (¬ heard ∨ source ≠ s.settings.powerStation ∨ payload.length ≠ 1 → run = .next s)) ∧
    (∀ (source : Nat) (payload : List Byte), source < 15 →
      let run := exec (.claim source payload) s
      let mine := source = s.lif.own ∨ source = s.settings.powerStation
      (∀ x : Byte, heard → ¬ mine → payload = [0, x] →
        let c := 2 * x.toNat
        let before := match b.peer source with
          | some p => p.claim
          | none => 0
        run = .next (recompute { s with bu := b.withPeer source (some {
          claim := c, previous := before
          raisedAt := if before < c then some s.now else none
          lastHeard := s.now, yielding := false }) })) ∧
      (¬ heard ∨ mine ∨ (∀ x : Byte, payload ≠ [0, x]) → run = .next s)) ∧
    (∀ t, b.heard = some t → b.fresh = true → exec .allowanceStale s =
      .next (recompute { reach (t + 629146) s with bu := { b with
        allowance := s.settings.safeAllowance, fresh := false } })) ∧
    (b.heard = none ∨ b.fresh = false → exec .allowanceStale s = .next s) ∧
    (∀ station p, b.peer station = some p → exec (.peerClaimExpiry station) s =
      .next (recompute { reach (p.lastHeard + 629146) s with bu := b.withPeer station none })) ∧
    (∀ station, b.peer station = none → exec (.peerClaimExpiry station) s = .next s) ∧
    (∀ c t, b.acked = some (c, t) → b.holding = false → exec .claimAgeExpiry s =
      .next (recompute { reach (t + 524288) s with bu := { b with holding := true } })) ∧
    (b.acked = none ∨ b.holding = true → exec .claimAgeExpiry s = .next s) ∧
    (∀ t, b.listenEnd = some t →
      let u := recompute { reach t s with bu := { b with listenEnd := none } }
      let waits := 0 < u.rd.dRes ∧ u.ps.state = .active ∧ u.bu.raise = none
      (waits → exec .listenEnd s = .next (grant (report u))) ∧
      (¬ waits → exec .listenEnd s = .next (grant u))) ∧
    (b.listenEnd = none → exec .listenEnd s = .next s) ∧
    (∀ t ann, b.handedAt = some t → b.announced = some ann →
      let u := reach (t + 209716) s
      let held := b.raise ≠ none ∨ s.se.gTarget < s.se.gEff ∨ b.listenEnd ≠ none
      let c := min ann (lowerClaim u)
      (s.ps.state = .doze → exec .claimRefresh s =
        .next (announce (leastClaim s.settings) u)) ∧
      (s.ps.state ≠ .doze → held → exec .claimRefresh s = .next (announce ann u)) ∧
      (s.ps.state ≠ .doze → ¬ held → exec .claimRefresh s =
        .next (recompute (announce c { u with bu := { b with released := c } })))) ∧
    (b.handedAt = none ∨ b.announced = none → exec .claimRefresh s = .next s)

/-- SETTLE_END at the end of an open window: higher-numbered peers that raised within 20,972 counts of
the acknowledge yield, the claim released is the planned one or what the allowance leaves, the caps are
handed, a lower actual claim is announced, and the Rumble Driver gets its report (R152, R153, R154; due
count log 2; the caps and OVER_ALLOWANCE before the lower actual claim and the decisions after it log
12). Without an open window nothing happens, which is the model's choice (log 26). -/
def Obligations.SettleEndReleasesTheRaise : Prop :=
  ∀ s : State,
    (∀ (planned t : Nat), s.bu.raise = some { planned := planned, settleStart := some t } →
      let u := reach (t + 20972) s
      let near (p : Peer) : Prop := ∃ x, p.raisedAt = some x ∧ t ≤ x + 20972 ∧ x ≤ t + 20972
      ∃ peers : Vector (Option Peer) 15,
        (∀ i : Fin 15,
          (s.bu.peers[i] = none → peers[i] = none) ∧
          ∀ p, s.bu.peers[i] = some p →
            (s.lif.own < i.val → near p → peers[i] = some { p with yielding := true }) ∧
            (i.val ≤ s.lif.own ∨ ¬ near p → peers[i] = some p)) ∧
        let left : Int := (s.bu.allowance : Int) - peerSum { s.bu with peers := peers }
        let c := max (leastClaim s.settings) (min (planned : Int) left).toNat
        let v := examineOver (handCaps { u with bu := { s.bu with
          peers := peers, released := c, raise := none } })
        let w := recompute (if c < planned then announce c v else v)
        (0 < s.rd.dRes → exec .settleEnd s = .next (grant (report w))) ∧
        (s.rd.dRes = 0 → exec .settleEnd s = .next (grant w))) ∧
    ((∀ r, s.bu.raise = some r → r.settleStart = none) → exec .settleEnd s = .next s)
end

