-- ==== Sys2Proof/Laws/State.lean ====
section
/-! SUPPORT. One lemma per field per update of the state, so that no proof unfolds an update. -/

namespace Sys2Proof.Machine

variable (s : State)

section
variable (x : LineIf)
@[simp] theorem State.withLif_now : (s.withLif x).now = s.now := rfl
@[simp] theorem State.withLif_crystal : (s.withLif x).crystal = s.crystal := rfl
@[simp] theorem State.withLif_settings : (s.withLif x).settings = s.settings := rfl
@[simp] theorem State.withLif_lif : (s.withLif x).lif = x := rfl
@[simp] theorem State.withLif_btg : (s.withLif x).btg = s.btg := rfl
@[simp] theorem State.withLif_pfu : (s.withLif x).pfu = s.pfu := rfl
@[simp] theorem State.withLif_se : (s.withLif x).se = s.se := rfl
@[simp] theorem State.withLif_rd : (s.withLif x).rd = s.rd := rfl
@[simp] theorem State.withLif_bu : (s.withLif x).bu = s.bu := rfl
@[simp] theorem State.withLif_ss : (s.withLif x).ss = s.ss := rfl
@[simp] theorem State.withLif_cal : (s.withLif x).cal = s.cal := rfl
@[simp] theorem State.withLif_ps : (s.withLif x).ps = s.ps := rfl
@[simp] theorem State.withLif_nu : (s.withLif x).nu = s.nu := rfl
@[simp] theorem State.withLif_guard : (s.withLif x).guard = s.guard := rfl
@[simp] theorem State.withLif_pending : (s.withLif x).pending = s.pending := rfl
end

section
variable (x : BeatGen)
@[simp] theorem State.withBtg_now : (s.withBtg x).now = s.now := rfl
@[simp] theorem State.withBtg_crystal : (s.withBtg x).crystal = s.crystal := rfl
@[simp] theorem State.withBtg_settings : (s.withBtg x).settings = s.settings := rfl
@[simp] theorem State.withBtg_lif : (s.withBtg x).lif = s.lif := rfl
@[simp] theorem State.withBtg_btg : (s.withBtg x).btg = x := rfl
@[simp] theorem State.withBtg_pfu : (s.withBtg x).pfu = s.pfu := rfl
@[simp] theorem State.withBtg_se : (s.withBtg x).se = s.se := rfl
@[simp] theorem State.withBtg_rd : (s.withBtg x).rd = s.rd := rfl
@[simp] theorem State.withBtg_bu : (s.withBtg x).bu = s.bu := rfl
@[simp] theorem State.withBtg_ss : (s.withBtg x).ss = s.ss := rfl
@[simp] theorem State.withBtg_cal : (s.withBtg x).cal = s.cal := rfl
@[simp] theorem State.withBtg_ps : (s.withBtg x).ps = s.ps := rfl
@[simp] theorem State.withBtg_nu : (s.withBtg x).nu = s.nu := rfl
@[simp] theorem State.withBtg_guard : (s.withBtg x).guard = s.guard := rfl
@[simp] theorem State.withBtg_pending : (s.withBtg x).pending = s.pending := rfl
end

section
variable (x : Fetch)
@[simp] theorem State.withPfu_now : (s.withPfu x).now = s.now := rfl
@[simp] theorem State.withPfu_crystal : (s.withPfu x).crystal = s.crystal := rfl
@[simp] theorem State.withPfu_settings : (s.withPfu x).settings = s.settings := rfl
@[simp] theorem State.withPfu_lif : (s.withPfu x).lif = s.lif := rfl
@[simp] theorem State.withPfu_btg : (s.withPfu x).btg = s.btg := rfl
@[simp] theorem State.withPfu_pfu : (s.withPfu x).pfu = x := rfl
@[simp] theorem State.withPfu_se : (s.withPfu x).se = s.se := rfl
@[simp] theorem State.withPfu_rd : (s.withPfu x).rd = s.rd := rfl
@[simp] theorem State.withPfu_bu : (s.withPfu x).bu = s.bu := rfl
@[simp] theorem State.withPfu_ss : (s.withPfu x).ss = s.ss := rfl
@[simp] theorem State.withPfu_cal : (s.withPfu x).cal = s.cal := rfl
@[simp] theorem State.withPfu_ps : (s.withPfu x).ps = s.ps := rfl
@[simp] theorem State.withPfu_nu : (s.withPfu x).nu = s.nu := rfl
@[simp] theorem State.withPfu_guard : (s.withPfu x).guard = s.guard := rfl
@[simp] theorem State.withPfu_pending : (s.withPfu x).pending = s.pending := rfl
end

section
variable (x : Sound)
@[simp] theorem State.withSe_now : (s.withSe x).now = s.now := rfl
@[simp] theorem State.withSe_crystal : (s.withSe x).crystal = s.crystal := rfl
@[simp] theorem State.withSe_settings : (s.withSe x).settings = s.settings := rfl
@[simp] theorem State.withSe_lif : (s.withSe x).lif = s.lif := rfl
@[simp] theorem State.withSe_btg : (s.withSe x).btg = s.btg := rfl
@[simp] theorem State.withSe_pfu : (s.withSe x).pfu = s.pfu := rfl
@[simp] theorem State.withSe_se : (s.withSe x).se = x := rfl
@[simp] theorem State.withSe_rd : (s.withSe x).rd = s.rd := rfl
@[simp] theorem State.withSe_bu : (s.withSe x).bu = s.bu := rfl
@[simp] theorem State.withSe_ss : (s.withSe x).ss = s.ss := rfl
@[simp] theorem State.withSe_cal : (s.withSe x).cal = s.cal := rfl
@[simp] theorem State.withSe_ps : (s.withSe x).ps = s.ps := rfl
@[simp] theorem State.withSe_nu : (s.withSe x).nu = s.nu := rfl
@[simp] theorem State.withSe_guard : (s.withSe x).guard = s.guard := rfl
@[simp] theorem State.withSe_pending : (s.withSe x).pending = s.pending := rfl
end

section
variable (x : Rumble)
@[simp] theorem State.withRd_now : (s.withRd x).now = s.now := rfl
@[simp] theorem State.withRd_crystal : (s.withRd x).crystal = s.crystal := rfl
@[simp] theorem State.withRd_settings : (s.withRd x).settings = s.settings := rfl
@[simp] theorem State.withRd_lif : (s.withRd x).lif = s.lif := rfl
@[simp] theorem State.withRd_btg : (s.withRd x).btg = s.btg := rfl
@[simp] theorem State.withRd_pfu : (s.withRd x).pfu = s.pfu := rfl
@[simp] theorem State.withRd_se : (s.withRd x).se = s.se := rfl
@[simp] theorem State.withRd_rd : (s.withRd x).rd = x := rfl
@[simp] theorem State.withRd_bu : (s.withRd x).bu = s.bu := rfl
@[simp] theorem State.withRd_ss : (s.withRd x).ss = s.ss := rfl
@[simp] theorem State.withRd_cal : (s.withRd x).cal = s.cal := rfl
@[simp] theorem State.withRd_ps : (s.withRd x).ps = s.ps := rfl
@[simp] theorem State.withRd_nu : (s.withRd x).nu = s.nu := rfl
@[simp] theorem State.withRd_guard : (s.withRd x).guard = s.guard := rfl
@[simp] theorem State.withRd_pending : (s.withRd x).pending = s.pending := rfl
end

section
variable (x : Budget)
@[simp] theorem State.withBu_now : (s.withBu x).now = s.now := rfl
@[simp] theorem State.withBu_crystal : (s.withBu x).crystal = s.crystal := rfl
@[simp] theorem State.withBu_settings : (s.withBu x).settings = s.settings := rfl
@[simp] theorem State.withBu_lif : (s.withBu x).lif = s.lif := rfl
@[simp] theorem State.withBu_btg : (s.withBu x).btg = s.btg := rfl
@[simp] theorem State.withBu_pfu : (s.withBu x).pfu = s.pfu := rfl
@[simp] theorem State.withBu_se : (s.withBu x).se = s.se := rfl
@[simp] theorem State.withBu_rd : (s.withBu x).rd = s.rd := rfl
@[simp] theorem State.withBu_bu : (s.withBu x).bu = x := rfl
@[simp] theorem State.withBu_ss : (s.withBu x).ss = s.ss := rfl
@[simp] theorem State.withBu_cal : (s.withBu x).cal = s.cal := rfl
@[simp] theorem State.withBu_ps : (s.withBu x).ps = s.ps := rfl
@[simp] theorem State.withBu_nu : (s.withBu x).nu = s.nu := rfl
@[simp] theorem State.withBu_guard : (s.withBu x).guard = s.guard := rfl
@[simp] theorem State.withBu_pending : (s.withBu x).pending = s.pending := rfl
end

section
variable (x : SaveStore)
@[simp] theorem State.withSs_now : (s.withSs x).now = s.now := rfl
@[simp] theorem State.withSs_crystal : (s.withSs x).crystal = s.crystal := rfl
@[simp] theorem State.withSs_settings : (s.withSs x).settings = s.settings := rfl
@[simp] theorem State.withSs_lif : (s.withSs x).lif = s.lif := rfl
@[simp] theorem State.withSs_btg : (s.withSs x).btg = s.btg := rfl
@[simp] theorem State.withSs_pfu : (s.withSs x).pfu = s.pfu := rfl
@[simp] theorem State.withSs_se : (s.withSs x).se = s.se := rfl
@[simp] theorem State.withSs_rd : (s.withSs x).rd = s.rd := rfl
@[simp] theorem State.withSs_bu : (s.withSs x).bu = s.bu := rfl
@[simp] theorem State.withSs_ss : (s.withSs x).ss = x := rfl
@[simp] theorem State.withSs_cal : (s.withSs x).cal = s.cal := rfl
@[simp] theorem State.withSs_ps : (s.withSs x).ps = s.ps := rfl
@[simp] theorem State.withSs_nu : (s.withSs x).nu = s.nu := rfl
@[simp] theorem State.withSs_guard : (s.withSs x).guard = s.guard := rfl
@[simp] theorem State.withSs_pending : (s.withSs x).pending = s.pending := rfl
end

section
variable (x : Calendar)
@[simp] theorem State.withCal_now : (s.withCal x).now = s.now := rfl
@[simp] theorem State.withCal_crystal : (s.withCal x).crystal = s.crystal := rfl
@[simp] theorem State.withCal_settings : (s.withCal x).settings = s.settings := rfl
@[simp] theorem State.withCal_lif : (s.withCal x).lif = s.lif := rfl
@[simp] theorem State.withCal_btg : (s.withCal x).btg = s.btg := rfl
@[simp] theorem State.withCal_pfu : (s.withCal x).pfu = s.pfu := rfl
@[simp] theorem State.withCal_se : (s.withCal x).se = s.se := rfl
@[simp] theorem State.withCal_rd : (s.withCal x).rd = s.rd := rfl
@[simp] theorem State.withCal_bu : (s.withCal x).bu = s.bu := rfl
@[simp] theorem State.withCal_ss : (s.withCal x).ss = s.ss := rfl
@[simp] theorem State.withCal_cal : (s.withCal x).cal = x := rfl
@[simp] theorem State.withCal_ps : (s.withCal x).ps = s.ps := rfl
@[simp] theorem State.withCal_nu : (s.withCal x).nu = s.nu := rfl
@[simp] theorem State.withCal_guard : (s.withCal x).guard = s.guard := rfl
@[simp] theorem State.withCal_pending : (s.withCal x).pending = s.pending := rfl
end

section
variable (x : Power)
@[simp] theorem State.withPs_now : (s.withPs x).now = s.now := rfl
@[simp] theorem State.withPs_crystal : (s.withPs x).crystal = s.crystal := rfl
@[simp] theorem State.withPs_settings : (s.withPs x).settings = s.settings := rfl
@[simp] theorem State.withPs_lif : (s.withPs x).lif = s.lif := rfl
@[simp] theorem State.withPs_btg : (s.withPs x).btg = s.btg := rfl
@[simp] theorem State.withPs_pfu : (s.withPs x).pfu = s.pfu := rfl
@[simp] theorem State.withPs_se : (s.withPs x).se = s.se := rfl
@[simp] theorem State.withPs_rd : (s.withPs x).rd = s.rd := rfl
@[simp] theorem State.withPs_bu : (s.withPs x).bu = s.bu := rfl
@[simp] theorem State.withPs_ss : (s.withPs x).ss = s.ss := rfl
@[simp] theorem State.withPs_cal : (s.withPs x).cal = s.cal := rfl
@[simp] theorem State.withPs_ps : (s.withPs x).ps = x := rfl
@[simp] theorem State.withPs_nu : (s.withPs x).nu = s.nu := rfl
@[simp] theorem State.withPs_guard : (s.withPs x).guard = s.guard := rfl
@[simp] theorem State.withPs_pending : (s.withPs x).pending = s.pending := rfl
end

section
variable (x : Notices)
@[simp] theorem State.withNu_now : (s.withNu x).now = s.now := rfl
@[simp] theorem State.withNu_crystal : (s.withNu x).crystal = s.crystal := rfl
@[simp] theorem State.withNu_settings : (s.withNu x).settings = s.settings := rfl
@[simp] theorem State.withNu_lif : (s.withNu x).lif = s.lif := rfl
@[simp] theorem State.withNu_btg : (s.withNu x).btg = s.btg := rfl
@[simp] theorem State.withNu_pfu : (s.withNu x).pfu = s.pfu := rfl
@[simp] theorem State.withNu_se : (s.withNu x).se = s.se := rfl
@[simp] theorem State.withNu_rd : (s.withNu x).rd = s.rd := rfl
@[simp] theorem State.withNu_bu : (s.withNu x).bu = s.bu := rfl
@[simp] theorem State.withNu_ss : (s.withNu x).ss = s.ss := rfl
@[simp] theorem State.withNu_cal : (s.withNu x).cal = s.cal := rfl
@[simp] theorem State.withNu_ps : (s.withNu x).ps = s.ps := rfl
@[simp] theorem State.withNu_nu : (s.withNu x).nu = x := rfl
@[simp] theorem State.withNu_guard : (s.withNu x).guard = s.guard := rfl
@[simp] theorem State.withNu_pending : (s.withNu x).pending = s.pending := rfl
end

section
variable (x : Settings)
@[simp] theorem State.withSettings_now : (s.withSettings x).now = s.now := rfl
@[simp] theorem State.withSettings_crystal : (s.withSettings x).crystal = s.crystal := rfl
@[simp] theorem State.withSettings_settings : (s.withSettings x).settings = x := rfl
@[simp] theorem State.withSettings_lif : (s.withSettings x).lif = s.lif := rfl
@[simp] theorem State.withSettings_btg : (s.withSettings x).btg = s.btg := rfl
@[simp] theorem State.withSettings_pfu : (s.withSettings x).pfu = s.pfu := rfl
@[simp] theorem State.withSettings_se : (s.withSettings x).se = s.se := rfl
@[simp] theorem State.withSettings_rd : (s.withSettings x).rd = s.rd := rfl
@[simp] theorem State.withSettings_bu : (s.withSettings x).bu = s.bu := rfl
@[simp] theorem State.withSettings_ss : (s.withSettings x).ss = s.ss := rfl
@[simp] theorem State.withSettings_cal : (s.withSettings x).cal = s.cal := rfl
@[simp] theorem State.withSettings_ps : (s.withSettings x).ps = s.ps := rfl
@[simp] theorem State.withSettings_nu : (s.withSettings x).nu = s.nu := rfl
@[simp] theorem State.withSettings_guard : (s.withSettings x).guard = s.guard := rfl
@[simp] theorem State.withSettings_pending : (s.withSettings x).pending = s.pending := rfl
end

section
variable (x : GuardPin)
@[simp] theorem State.withGuard_now : (s.withGuard x).now = s.now := rfl
@[simp] theorem State.withGuard_crystal : (s.withGuard x).crystal = s.crystal := rfl
@[simp] theorem State.withGuard_settings : (s.withGuard x).settings = s.settings := rfl
@[simp] theorem State.withGuard_lif : (s.withGuard x).lif = s.lif := rfl
@[simp] theorem State.withGuard_btg : (s.withGuard x).btg = s.btg := rfl
@[simp] theorem State.withGuard_pfu : (s.withGuard x).pfu = s.pfu := rfl
@[simp] theorem State.withGuard_se : (s.withGuard x).se = s.se := rfl
@[simp] theorem State.withGuard_rd : (s.withGuard x).rd = s.rd := rfl
@[simp] theorem State.withGuard_bu : (s.withGuard x).bu = s.bu := rfl
@[simp] theorem State.withGuard_ss : (s.withGuard x).ss = s.ss := rfl
@[simp] theorem State.withGuard_cal : (s.withGuard x).cal = s.cal := rfl
@[simp] theorem State.withGuard_ps : (s.withGuard x).ps = s.ps := rfl
@[simp] theorem State.withGuard_nu : (s.withGuard x).nu = s.nu := rfl
@[simp] theorem State.withGuard_guard : (s.withGuard x).guard = x := rfl
@[simp] theorem State.withGuard_pending : (s.withGuard x).pending = s.pending := rfl
end

section
variable (i : Nat) (v : Voice) (r : FetchRec)
@[simp] theorem State.withVoice_now : (s.withVoice i v).now = s.now := rfl
@[simp] theorem State.withVoice_crystal : (s.withVoice i v).crystal = s.crystal := rfl
@[simp] theorem State.withVoice_settings : (s.withVoice i v).settings = s.settings := rfl
@[simp] theorem State.withVoice_lif : (s.withVoice i v).lif = s.lif := rfl
@[simp] theorem State.withVoice_btg : (s.withVoice i v).btg = s.btg := rfl
@[simp] theorem State.withVoice_pfu : (s.withVoice i v).pfu = s.pfu := rfl
@[simp] theorem State.withVoice_rd : (s.withVoice i v).rd = s.rd := rfl
@[simp] theorem State.withVoice_bu : (s.withVoice i v).bu = s.bu := rfl
@[simp] theorem State.withVoice_ss : (s.withVoice i v).ss = s.ss := rfl
@[simp] theorem State.withVoice_cal : (s.withVoice i v).cal = s.cal := rfl
@[simp] theorem State.withVoice_ps : (s.withVoice i v).ps = s.ps := rfl
@[simp] theorem State.withVoice_nu : (s.withVoice i v).nu = s.nu := rfl
@[simp] theorem State.withVoice_guard : (s.withVoice i v).guard = s.guard := rfl
@[simp] theorem State.withVoice_pending : (s.withVoice i v).pending = s.pending := rfl
@[simp] theorem State.withFetchRec_now : (s.withFetchRec i r).now = s.now := rfl
@[simp] theorem State.withFetchRec_crystal : (s.withFetchRec i r).crystal = s.crystal := rfl
@[simp] theorem State.withFetchRec_settings : (s.withFetchRec i r).settings = s.settings := rfl
@[simp] theorem State.withFetchRec_lif : (s.withFetchRec i r).lif = s.lif := rfl
@[simp] theorem State.withFetchRec_btg : (s.withFetchRec i r).btg = s.btg := rfl
@[simp] theorem State.withFetchRec_se : (s.withFetchRec i r).se = s.se := rfl
@[simp] theorem State.withFetchRec_rd : (s.withFetchRec i r).rd = s.rd := rfl
@[simp] theorem State.withFetchRec_bu : (s.withFetchRec i r).bu = s.bu := rfl
@[simp] theorem State.withFetchRec_ss : (s.withFetchRec i r).ss = s.ss := rfl
@[simp] theorem State.withFetchRec_cal : (s.withFetchRec i r).cal = s.cal := rfl
@[simp] theorem State.withFetchRec_ps : (s.withFetchRec i r).ps = s.ps := rfl
@[simp] theorem State.withFetchRec_nu : (s.withFetchRec i r).nu = s.nu := rfl
@[simp] theorem State.withFetchRec_guard : (s.withFetchRec i r).guard = s.guard := rfl
@[simp] theorem State.withFetchRec_pending : (s.withFetchRec i r).pending = s.pending := rfl
end

section
variable (d : Nat)
@[simp] theorem elapse_crystal : (elapse d s).crystal = s.crystal := rfl
@[simp] theorem reach_crystal : (reach d s).crystal = s.crystal := rfl
@[simp] theorem elapse_settings : (elapse d s).settings = s.settings := rfl
@[simp] theorem reach_settings : (reach d s).settings = s.settings := rfl
@[simp] theorem elapse_lif : (elapse d s).lif = s.lif := rfl
@[simp] theorem reach_lif : (reach d s).lif = s.lif := rfl
@[simp] theorem elapse_pfu : (elapse d s).pfu = s.pfu := rfl
@[simp] theorem reach_pfu : (reach d s).pfu = s.pfu := rfl
@[simp] theorem elapse_se : (elapse d s).se = s.se := rfl
@[simp] theorem reach_se : (reach d s).se = s.se := rfl
@[simp] theorem elapse_rd : (elapse d s).rd = s.rd := rfl
@[simp] theorem reach_rd : (reach d s).rd = s.rd := rfl
@[simp] theorem elapse_bu : (elapse d s).bu = s.bu := rfl
@[simp] theorem reach_bu : (reach d s).bu = s.bu := rfl
@[simp] theorem elapse_ss : (elapse d s).ss = s.ss := rfl
@[simp] theorem reach_ss : (reach d s).ss = s.ss := rfl
@[simp] theorem elapse_cal : (elapse d s).cal = s.cal := rfl
@[simp] theorem reach_cal : (reach d s).cal = s.cal := rfl
@[simp] theorem elapse_ps : (elapse d s).ps = s.ps := rfl
@[simp] theorem reach_ps : (reach d s).ps = s.ps := rfl
@[simp] theorem elapse_nu : (elapse d s).nu = s.nu := rfl
@[simp] theorem reach_nu : (reach d s).nu = s.nu := rfl
@[simp] theorem elapse_guard : (elapse d s).guard = s.guard := rfl
@[simp] theorem reach_guard : (reach d s).guard = s.guard := rfl
@[simp] theorem elapse_pending : (elapse d s).pending = s.pending := rfl
@[simp] theorem reach_pending : (reach d s).pending = s.pending := rfl
@[simp] theorem elapse_now : (elapse d s).now = s.now + d := rfl
/-- After `reach`, the time base stands at the due count or later. -/
theorem reach_now : (reach d s).now = max s.now d := by
  simp only [reach, elapse_now]; omega
end

end Sys2Proof.Machine
end

