-- ==== Sys2Proof/Laws/Posting.lean ====
section
/-! SUPPORT. What counting, posting and raising can do: they change the transmit queue, the pending
flags and the counters alone, and keep the queue's bounds. -/

namespace Sys2Proof.Machine

/-- `t` differs from `s` in the transmit queue, the pending flags and the counters at most. -/
def Posts (s t : State) : Prop :=
  t = { s with
    lif := { s.lif with queue := t.lif.queue }
    nu := { s.nu with pendingFlags := t.nu.pendingFlags, counters := t.nu.counters } }

theorem Posts.refl (s : State) : Posts s s := rfl

theorem Posts.trans {s t u : State} (h : Posts s t) (k : Posts t u) : Posts s u := by
  unfold Posts at *
  rw [k, h]

theorem count_posts (st : Stat) (s : State) : Posts s (count st s) := rfl

theorem joinQueue_posts (place : TxPost → List TxPost → List TxPost) (p : TxPost) (s : State) :
    Posts s (joinQueue place p s) := by
  unfold joinQueue
  repeat' split
  all_goals rfl

theorem handPost_posts (p : TxPost) (s : State) : Posts s (handPost p s) := by
  unfold handPost
  split
  · rfl
  · exact joinQueue_posts _ _ _

theorem returnPost_posts (p : TxPost) (s : State) : Posts s (returnPost p s) := by
  unfold returnPost
  split
  · rfl
  · exact joinQueue_posts _ _ _

theorem reply_posts (a : Ask) (k : Kind) (c : Code) (d : ReplyData) (s : State) :
    Posts s (reply a k c d s) := handPost_posts _ _

theorem replyOwed_posts (o : Owed) (k : Kind) (c : Code) (d : ReplyData) (s : State) :
    Posts s (replyOwed o k c d s) := handPost_posts _ _

theorem raiseTo_posts (target : Nat) (n : Notice) (s : State) : Posts s (raiseTo target n s) := by
  unfold raiseTo
  simp only
  split
  · exact Posts.trans (t := s.withNu { s.nu with pendingFlags := s.nu.pendingFlags ||| BitVec.ofNat 12 (2 ^ n.kind.number) })
      rfl (handPost_posts _ _)
  · rfl

theorem raiseNotice_posts (n : Notice) (s : State) : Posts s (raiseNotice n s) :=
  raiseTo_posts _ _ _

/-! ### The queue's bounds (R186, R187) -/

theorem placePost_length (p : TxPost) (q : List TxPost) :
    (placePost p q).length = q.length + 1 := by
  induction q with
  | nil => rfl
  | cons x rest ih => unfold placePost; split <;> simp [ih]

theorem placeReturned_length (p : TxPost) (q : List TxPost) :
    (placeReturned p q).length = q.length + 1 := by
  induction q with
  | nil => rfl
  | cons x rest ih => unfold placeReturned; split <;> simp [ih]

theorem joinQueue_length {place : TxPost → List TxPost → List TxPost}
    (hp : ∀ p q, (place p q).length = q.length + 1) (p : TxPost) (s : State)
    (h : s.lif.queue.length ≤ 8) : (joinQueue place p s).lif.queue.length ≤ 8 := by
  unfold joinQueue
  simp only [Config.queuePlaces]
  split
  · simp only [State.withLif_lif, hp]; omega
  · split
    · split
      · simp only [count, State.withNu_lif, State.withLif_lif, hp, List.length_dropLast]; omega
      · exact h
    · exact h

theorem handPost_length (p : TxPost) (s : State) (h : s.lif.queue.length ≤ 8) :
    (handPost p s).lif.queue.length ≤ 8 := by
  unfold handPost
  split
  · simpa [replaceClaim] using h
  · exact joinQueue_length placePost_length p s h

theorem returnPost_length (p : TxPost) (s : State) (h : s.lif.queue.length ≤ 8) :
    (returnPost p s).lif.queue.length ≤ 8 := by
  unfold returnPost
  split
  · exact h
  · exact joinQueue_length placeReturned_length p s h

/-! ### What posting leaves alone -/

variable (s : State)

section
variable (st : Stat)
@[simp] theorem count_now : (count st s).now = s.now := by rw [count_posts st s]
@[simp] theorem count_crystal : (count st s).crystal = s.crystal := by rw [count_posts st s]
@[simp] theorem count_settings : (count st s).settings = s.settings := by rw [count_posts st s]
@[simp] theorem count_btg : (count st s).btg = s.btg := by rw [count_posts st s]
@[simp] theorem count_pfu : (count st s).pfu = s.pfu := by rw [count_posts st s]
@[simp] theorem count_se : (count st s).se = s.se := by rw [count_posts st s]
@[simp] theorem count_rd : (count st s).rd = s.rd := by rw [count_posts st s]
@[simp] theorem count_bu : (count st s).bu = s.bu := by rw [count_posts st s]
@[simp] theorem count_ss : (count st s).ss = s.ss := by rw [count_posts st s]
@[simp] theorem count_cal : (count st s).cal = s.cal := by rw [count_posts st s]
@[simp] theorem count_ps : (count st s).ps = s.ps := by rw [count_posts st s]
@[simp] theorem count_guard : (count st s).guard = s.guard := by rw [count_posts st s]
@[simp] theorem count_pending : (count st s).pending = s.pending := by rw [count_posts st s]
@[simp] theorem count_lif_own : (count st s).lif.own = s.lif.own := by rw [count_posts st s]
@[simp] theorem count_lif_sending : (count st s).lif.sending = s.lif.sending := by rw [count_posts st s]
@[simp] theorem count_lif_silentEnd : (count st s).lif.silentEnd = s.lif.silentEnd := by rw [count_posts st s]
@[simp] theorem count_lif_runCount : (count st s).lif.runCount = s.lif.runCount := by rw [count_posts st s]
@[simp] theorem count_lif_removed : (count st s).lif.removed = s.lif.removed := by rw [count_posts st s]
@[simp] theorem count_lif_inbox : (count st s).lif.inbox = s.lif.inbox := by rw [count_posts st s]
@[simp] theorem count_lif_acked : (count st s).lif.acked = s.lif.acked := by rw [count_posts st s]
@[simp] theorem count_nu_mask : (count st s).nu.mask = s.nu.mask := by rw [count_posts st s]
end

section
variable (p : TxPost)
@[simp] theorem handPost_now : (handPost p s).now = s.now := by rw [handPost_posts p s]
@[simp] theorem handPost_crystal : (handPost p s).crystal = s.crystal := by rw [handPost_posts p s]
@[simp] theorem handPost_settings : (handPost p s).settings = s.settings := by rw [handPost_posts p s]
@[simp] theorem handPost_btg : (handPost p s).btg = s.btg := by rw [handPost_posts p s]
@[simp] theorem handPost_pfu : (handPost p s).pfu = s.pfu := by rw [handPost_posts p s]
@[simp] theorem handPost_se : (handPost p s).se = s.se := by rw [handPost_posts p s]
@[simp] theorem handPost_rd : (handPost p s).rd = s.rd := by rw [handPost_posts p s]
@[simp] theorem handPost_bu : (handPost p s).bu = s.bu := by rw [handPost_posts p s]
@[simp] theorem handPost_ss : (handPost p s).ss = s.ss := by rw [handPost_posts p s]
@[simp] theorem handPost_cal : (handPost p s).cal = s.cal := by rw [handPost_posts p s]
@[simp] theorem handPost_ps : (handPost p s).ps = s.ps := by rw [handPost_posts p s]
@[simp] theorem handPost_guard : (handPost p s).guard = s.guard := by rw [handPost_posts p s]
@[simp] theorem handPost_pending : (handPost p s).pending = s.pending := by rw [handPost_posts p s]
@[simp] theorem handPost_lif_own : (handPost p s).lif.own = s.lif.own := by rw [handPost_posts p s]
@[simp] theorem handPost_lif_sending : (handPost p s).lif.sending = s.lif.sending := by rw [handPost_posts p s]
@[simp] theorem handPost_lif_silentEnd : (handPost p s).lif.silentEnd = s.lif.silentEnd := by rw [handPost_posts p s]
@[simp] theorem handPost_lif_runCount : (handPost p s).lif.runCount = s.lif.runCount := by rw [handPost_posts p s]
@[simp] theorem handPost_lif_removed : (handPost p s).lif.removed = s.lif.removed := by rw [handPost_posts p s]
@[simp] theorem handPost_lif_inbox : (handPost p s).lif.inbox = s.lif.inbox := by rw [handPost_posts p s]
@[simp] theorem handPost_lif_acked : (handPost p s).lif.acked = s.lif.acked := by rw [handPost_posts p s]
@[simp] theorem handPost_nu_mask : (handPost p s).nu.mask = s.nu.mask := by rw [handPost_posts p s]
end

section
variable (p : TxPost)
@[simp] theorem returnPost_now : (returnPost p s).now = s.now := by rw [returnPost_posts p s]
@[simp] theorem returnPost_crystal : (returnPost p s).crystal = s.crystal := by rw [returnPost_posts p s]
@[simp] theorem returnPost_settings : (returnPost p s).settings = s.settings := by rw [returnPost_posts p s]
@[simp] theorem returnPost_btg : (returnPost p s).btg = s.btg := by rw [returnPost_posts p s]
@[simp] theorem returnPost_pfu : (returnPost p s).pfu = s.pfu := by rw [returnPost_posts p s]
@[simp] theorem returnPost_se : (returnPost p s).se = s.se := by rw [returnPost_posts p s]
@[simp] theorem returnPost_rd : (returnPost p s).rd = s.rd := by rw [returnPost_posts p s]
@[simp] theorem returnPost_bu : (returnPost p s).bu = s.bu := by rw [returnPost_posts p s]
@[simp] theorem returnPost_ss : (returnPost p s).ss = s.ss := by rw [returnPost_posts p s]
@[simp] theorem returnPost_cal : (returnPost p s).cal = s.cal := by rw [returnPost_posts p s]
@[simp] theorem returnPost_ps : (returnPost p s).ps = s.ps := by rw [returnPost_posts p s]
@[simp] theorem returnPost_guard : (returnPost p s).guard = s.guard := by rw [returnPost_posts p s]
@[simp] theorem returnPost_pending : (returnPost p s).pending = s.pending := by rw [returnPost_posts p s]
@[simp] theorem returnPost_lif_own : (returnPost p s).lif.own = s.lif.own := by rw [returnPost_posts p s]
@[simp] theorem returnPost_lif_sending : (returnPost p s).lif.sending = s.lif.sending := by rw [returnPost_posts p s]
@[simp] theorem returnPost_lif_silentEnd : (returnPost p s).lif.silentEnd = s.lif.silentEnd := by rw [returnPost_posts p s]
@[simp] theorem returnPost_lif_runCount : (returnPost p s).lif.runCount = s.lif.runCount := by rw [returnPost_posts p s]
@[simp] theorem returnPost_lif_removed : (returnPost p s).lif.removed = s.lif.removed := by rw [returnPost_posts p s]
@[simp] theorem returnPost_lif_inbox : (returnPost p s).lif.inbox = s.lif.inbox := by rw [returnPost_posts p s]
@[simp] theorem returnPost_lif_acked : (returnPost p s).lif.acked = s.lif.acked := by rw [returnPost_posts p s]
@[simp] theorem returnPost_nu_mask : (returnPost p s).nu.mask = s.nu.mask := by rw [returnPost_posts p s]
end

section
variable (a : Ask) (k : Kind) (c : Code) (d : ReplyData)
@[simp] theorem reply_now : (reply a k c d s).now = s.now := by rw [reply_posts a k c d s]
@[simp] theorem reply_crystal : (reply a k c d s).crystal = s.crystal := by rw [reply_posts a k c d s]
@[simp] theorem reply_settings : (reply a k c d s).settings = s.settings := by rw [reply_posts a k c d s]
@[simp] theorem reply_btg : (reply a k c d s).btg = s.btg := by rw [reply_posts a k c d s]
@[simp] theorem reply_pfu : (reply a k c d s).pfu = s.pfu := by rw [reply_posts a k c d s]
@[simp] theorem reply_se : (reply a k c d s).se = s.se := by rw [reply_posts a k c d s]
@[simp] theorem reply_rd : (reply a k c d s).rd = s.rd := by rw [reply_posts a k c d s]
@[simp] theorem reply_bu : (reply a k c d s).bu = s.bu := by rw [reply_posts a k c d s]
@[simp] theorem reply_ss : (reply a k c d s).ss = s.ss := by rw [reply_posts a k c d s]
@[simp] theorem reply_cal : (reply a k c d s).cal = s.cal := by rw [reply_posts a k c d s]
@[simp] theorem reply_ps : (reply a k c d s).ps = s.ps := by rw [reply_posts a k c d s]
@[simp] theorem reply_guard : (reply a k c d s).guard = s.guard := by rw [reply_posts a k c d s]
@[simp] theorem reply_pending : (reply a k c d s).pending = s.pending := by rw [reply_posts a k c d s]
@[simp] theorem reply_lif_own : (reply a k c d s).lif.own = s.lif.own := by rw [reply_posts a k c d s]
@[simp] theorem reply_lif_sending : (reply a k c d s).lif.sending = s.lif.sending := by rw [reply_posts a k c d s]
@[simp] theorem reply_lif_silentEnd : (reply a k c d s).lif.silentEnd = s.lif.silentEnd := by rw [reply_posts a k c d s]
@[simp] theorem reply_lif_runCount : (reply a k c d s).lif.runCount = s.lif.runCount := by rw [reply_posts a k c d s]
@[simp] theorem reply_lif_removed : (reply a k c d s).lif.removed = s.lif.removed := by rw [reply_posts a k c d s]
@[simp] theorem reply_lif_inbox : (reply a k c d s).lif.inbox = s.lif.inbox := by rw [reply_posts a k c d s]
@[simp] theorem reply_lif_acked : (reply a k c d s).lif.acked = s.lif.acked := by rw [reply_posts a k c d s]
@[simp] theorem reply_nu_mask : (reply a k c d s).nu.mask = s.nu.mask := by rw [reply_posts a k c d s]
end

section
variable (o : Owed) (k : Kind) (c : Code) (d : ReplyData)
@[simp] theorem replyOwed_now : (replyOwed o k c d s).now = s.now := by rw [replyOwed_posts o k c d s]
@[simp] theorem replyOwed_crystal : (replyOwed o k c d s).crystal = s.crystal := by rw [replyOwed_posts o k c d s]
@[simp] theorem replyOwed_settings : (replyOwed o k c d s).settings = s.settings := by rw [replyOwed_posts o k c d s]
@[simp] theorem replyOwed_btg : (replyOwed o k c d s).btg = s.btg := by rw [replyOwed_posts o k c d s]
@[simp] theorem replyOwed_pfu : (replyOwed o k c d s).pfu = s.pfu := by rw [replyOwed_posts o k c d s]
@[simp] theorem replyOwed_se : (replyOwed o k c d s).se = s.se := by rw [replyOwed_posts o k c d s]
@[simp] theorem replyOwed_rd : (replyOwed o k c d s).rd = s.rd := by rw [replyOwed_posts o k c d s]
@[simp] theorem replyOwed_bu : (replyOwed o k c d s).bu = s.bu := by rw [replyOwed_posts o k c d s]
@[simp] theorem replyOwed_ss : (replyOwed o k c d s).ss = s.ss := by rw [replyOwed_posts o k c d s]
@[simp] theorem replyOwed_cal : (replyOwed o k c d s).cal = s.cal := by rw [replyOwed_posts o k c d s]
@[simp] theorem replyOwed_ps : (replyOwed o k c d s).ps = s.ps := by rw [replyOwed_posts o k c d s]
@[simp] theorem replyOwed_guard : (replyOwed o k c d s).guard = s.guard := by rw [replyOwed_posts o k c d s]
@[simp] theorem replyOwed_pending : (replyOwed o k c d s).pending = s.pending := by rw [replyOwed_posts o k c d s]
@[simp] theorem replyOwed_lif_own : (replyOwed o k c d s).lif.own = s.lif.own := by rw [replyOwed_posts o k c d s]
@[simp] theorem replyOwed_lif_sending : (replyOwed o k c d s).lif.sending = s.lif.sending := by rw [replyOwed_posts o k c d s]
@[simp] theorem replyOwed_lif_silentEnd : (replyOwed o k c d s).lif.silentEnd = s.lif.silentEnd := by rw [replyOwed_posts o k c d s]
@[simp] theorem replyOwed_lif_runCount : (replyOwed o k c d s).lif.runCount = s.lif.runCount := by rw [replyOwed_posts o k c d s]
@[simp] theorem replyOwed_lif_removed : (replyOwed o k c d s).lif.removed = s.lif.removed := by rw [replyOwed_posts o k c d s]
@[simp] theorem replyOwed_lif_inbox : (replyOwed o k c d s).lif.inbox = s.lif.inbox := by rw [replyOwed_posts o k c d s]
@[simp] theorem replyOwed_lif_acked : (replyOwed o k c d s).lif.acked = s.lif.acked := by rw [replyOwed_posts o k c d s]
@[simp] theorem replyOwed_nu_mask : (replyOwed o k c d s).nu.mask = s.nu.mask := by rw [replyOwed_posts o k c d s]
end

section
variable (n : Nat) (x : Notice)
@[simp] theorem raiseTo_now : (raiseTo n x s).now = s.now := by rw [raiseTo_posts n x s]
@[simp] theorem raiseTo_crystal : (raiseTo n x s).crystal = s.crystal := by rw [raiseTo_posts n x s]
@[simp] theorem raiseTo_settings : (raiseTo n x s).settings = s.settings := by rw [raiseTo_posts n x s]
@[simp] theorem raiseTo_btg : (raiseTo n x s).btg = s.btg := by rw [raiseTo_posts n x s]
@[simp] theorem raiseTo_pfu : (raiseTo n x s).pfu = s.pfu := by rw [raiseTo_posts n x s]
@[simp] theorem raiseTo_se : (raiseTo n x s).se = s.se := by rw [raiseTo_posts n x s]
@[simp] theorem raiseTo_rd : (raiseTo n x s).rd = s.rd := by rw [raiseTo_posts n x s]
@[simp] theorem raiseTo_bu : (raiseTo n x s).bu = s.bu := by rw [raiseTo_posts n x s]
@[simp] theorem raiseTo_ss : (raiseTo n x s).ss = s.ss := by rw [raiseTo_posts n x s]
@[simp] theorem raiseTo_cal : (raiseTo n x s).cal = s.cal := by rw [raiseTo_posts n x s]
@[simp] theorem raiseTo_ps : (raiseTo n x s).ps = s.ps := by rw [raiseTo_posts n x s]
@[simp] theorem raiseTo_guard : (raiseTo n x s).guard = s.guard := by rw [raiseTo_posts n x s]
@[simp] theorem raiseTo_pending : (raiseTo n x s).pending = s.pending := by rw [raiseTo_posts n x s]
@[simp] theorem raiseTo_lif_own : (raiseTo n x s).lif.own = s.lif.own := by rw [raiseTo_posts n x s]
@[simp] theorem raiseTo_lif_sending : (raiseTo n x s).lif.sending = s.lif.sending := by rw [raiseTo_posts n x s]
@[simp] theorem raiseTo_lif_silentEnd : (raiseTo n x s).lif.silentEnd = s.lif.silentEnd := by rw [raiseTo_posts n x s]
@[simp] theorem raiseTo_lif_runCount : (raiseTo n x s).lif.runCount = s.lif.runCount := by rw [raiseTo_posts n x s]
@[simp] theorem raiseTo_lif_removed : (raiseTo n x s).lif.removed = s.lif.removed := by rw [raiseTo_posts n x s]
@[simp] theorem raiseTo_lif_inbox : (raiseTo n x s).lif.inbox = s.lif.inbox := by rw [raiseTo_posts n x s]
@[simp] theorem raiseTo_lif_acked : (raiseTo n x s).lif.acked = s.lif.acked := by rw [raiseTo_posts n x s]
@[simp] theorem raiseTo_nu_mask : (raiseTo n x s).nu.mask = s.nu.mask := by rw [raiseTo_posts n x s]
end

section
variable (x : Notice)
@[simp] theorem raiseNotice_now : (raiseNotice x s).now = s.now := by rw [raiseNotice_posts x s]
@[simp] theorem raiseNotice_crystal : (raiseNotice x s).crystal = s.crystal := by rw [raiseNotice_posts x s]
@[simp] theorem raiseNotice_settings : (raiseNotice x s).settings = s.settings := by rw [raiseNotice_posts x s]
@[simp] theorem raiseNotice_btg : (raiseNotice x s).btg = s.btg := by rw [raiseNotice_posts x s]
@[simp] theorem raiseNotice_pfu : (raiseNotice x s).pfu = s.pfu := by rw [raiseNotice_posts x s]
@[simp] theorem raiseNotice_se : (raiseNotice x s).se = s.se := by rw [raiseNotice_posts x s]
@[simp] theorem raiseNotice_rd : (raiseNotice x s).rd = s.rd := by rw [raiseNotice_posts x s]
@[simp] theorem raiseNotice_bu : (raiseNotice x s).bu = s.bu := by rw [raiseNotice_posts x s]
@[simp] theorem raiseNotice_ss : (raiseNotice x s).ss = s.ss := by rw [raiseNotice_posts x s]
@[simp] theorem raiseNotice_cal : (raiseNotice x s).cal = s.cal := by rw [raiseNotice_posts x s]
@[simp] theorem raiseNotice_ps : (raiseNotice x s).ps = s.ps := by rw [raiseNotice_posts x s]
@[simp] theorem raiseNotice_guard : (raiseNotice x s).guard = s.guard := by rw [raiseNotice_posts x s]
@[simp] theorem raiseNotice_pending : (raiseNotice x s).pending = s.pending := by rw [raiseNotice_posts x s]
@[simp] theorem raiseNotice_lif_own : (raiseNotice x s).lif.own = s.lif.own := by rw [raiseNotice_posts x s]
@[simp] theorem raiseNotice_lif_sending : (raiseNotice x s).lif.sending = s.lif.sending := by rw [raiseNotice_posts x s]
@[simp] theorem raiseNotice_lif_silentEnd : (raiseNotice x s).lif.silentEnd = s.lif.silentEnd := by rw [raiseNotice_posts x s]
@[simp] theorem raiseNotice_lif_runCount : (raiseNotice x s).lif.runCount = s.lif.runCount := by rw [raiseNotice_posts x s]
@[simp] theorem raiseNotice_lif_removed : (raiseNotice x s).lif.removed = s.lif.removed := by rw [raiseNotice_posts x s]
@[simp] theorem raiseNotice_lif_inbox : (raiseNotice x s).lif.inbox = s.lif.inbox := by rw [raiseNotice_posts x s]
@[simp] theorem raiseNotice_lif_acked : (raiseNotice x s).lif.acked = s.lif.acked := by rw [raiseNotice_posts x s]
@[simp] theorem raiseNotice_nu_mask : (raiseNotice x s).nu.mask = s.nu.mask := by rw [raiseNotice_posts x s]
end

end Sys2Proof.Machine
end

