-- ==== Sys2Proof/Laws/Blocks.lean ====
section
/-! SUPPORT. What the steps of the Sound Engine, of the Rumble Driver and of the Save Store can do: each
changes its own block, its fetch records, the transmit queue, the pending flags and the counters alone. -/

namespace Sys2Proof.Machine

/-! ### The Sound Engine -/

/-- `t` differs from `s` in the Sound Engine, the fetch records and what posting changes. -/
def Sounds (s t : State) : Prop :=
  t = { s with
    se := t.se
    pfu := { s.pfu with recs := t.pfu.recs }
    lif := { s.lif with queue := t.lif.queue }
    nu := { s.nu with pendingFlags := t.nu.pendingFlags, counters := t.nu.counters } }

theorem Sounds.refl (s : State) : Sounds s s := rfl

theorem Sounds.trans {s t u : State} (h : Sounds s t) (k : Sounds t u) : Sounds s u := by
  unfold Sounds at *
  rw [k, h]

theorem Posts.sounds {s t : State} (h : Posts s t) : Sounds s t := by
  unfold Posts at h
  unfold Sounds
  rw [h]

theorem withVoice_sounds (i : Nat) (v : Voice) (s : State) : Sounds s (s.withVoice i v) := rfl

theorem withSe_sounds (x : Sound) (s : State) : Sounds s (s.withSe x) := rfl

theorem withFetchRec_sounds (p : Nat) (r : FetchRec) (s : State) : Sounds s (s.withFetchRec p r) := rfl

theorem closeRec_sounds (p : Nat) (s : State) : Sounds s (closeRec p s) := rfl

theorem askSteps_sounds (p : Nat) (s : State) : Sounds s (askSteps p s) := by
  unfold askSteps
  simp only
  split <;> rfl

theorem endCue_sounds (i : Nat) (why : EndReason) (s : State) : Sounds s (endCue i why s) := by
  unfold endCue
  simp only
  split
  · exact (raiseTo_posts _ _ _).sounds
  · rfl

theorem restVoice_sounds (i : Nat) (s : State) : Sounds s (restVoice i s) := rfl

theorem finishVoice_sounds (i : Nat) (why : EndReason) (s : State) : Sounds s (finishVoice i why s) :=
  (endCue_sounds i why s).trans (restVoice_sounds i _)

theorem cancelVoiceOwed_sounds (i : Nat) (s : State) : Sounds s (cancelVoiceOwed i s) := by
  unfold cancelVoiceOwed
  split
  · rfl
  · exact (withVoice_sounds i _ s).trans (replyOwed_posts _ _ _ _ _).sounds

theorem releaseVoice_sounds (i : Nat) (why : EndReason) (s : State) :
    Sounds s (releaseVoice i why s) := by
  unfold releaseVoice
  simp only
  split
  · exact ((closeRec_sounds (i + 1) s).trans (withVoice_sounds i _ _)).trans (finishVoice_sounds i why _)
  · rfl

theorem beginSoundStep_sounds (i : Nat) (x : Step) (s : State) : Sounds s (beginSoundStep i x s) := by
  unfold beginSoundStep
  split <;> rfl

theorem nextStep_sounds (p : Nat) (s : State) : Sounds s (nextStep p s).2 := by
  unfold nextStep
  simp only
  split
  · exact (withFetchRec_sounds p _ s).trans (askSteps_sounds p _)
  · split
    · exact (count_posts _ _).sounds
    · rfl

theorem takeSoundStep_sounds (i : Nat) (s : State) : Sounds s (takeSoundStep i s) := by
  have h := nextStep_sounds (i + 1) s
  unfold takeSoundStep
  split <;> rename_i h' <;> rw [h'] at h
  · exact h.trans (beginSoundStep_sounds i _ _)
  · exact h.trans (releaseVoice_sounds i _ _)
  · exact h.trans (withVoice_sounds i _ _)

theorem soundDelivery_sounds (i : Nat) (s : State) : Sounds s (soundDelivery i s) := by
  unfold soundDelivery
  simp only
  split
  · exact takeSoundStep_sounds i s
  · rfl

theorem envelopeTick_sounds (i : Nat) (s : State) : Sounds s (envelopeTick i s) := by
  unfold envelopeTick
  simp only
  repeat' split
  · rfl
  · exact (withVoice_sounds i _ s).trans (finishVoice_sounds i _ _)
  · rfl
  · rfl

theorem soundStepWork_sounds (i : Nat) (s : State) : Sounds s (soundStepWork i s) := by
  unfold soundStepWork
  simp only
  repeat' split
  · exact (withVoice_sounds i _ s).trans (takeSoundStep_sounds i _)
  · rfl
  · rfl

theorem voiceTick_sounds (i : Nat) (s : State) : Sounds s (voiceTick i s) :=
  ((withVoice_sounds i _ s).trans (soundStepWork_sounds i _)).trans (envelopeTick_sounds i _)

/-- What a tick of the Sound Engine can do (R87, R108). -/
theorem soundTick_sounds (s : State) : Sounds s (soundTick s) := by
  unfold soundTick
  exact ((((voiceTick_sounds 0 s).trans (voiceTick_sounds 1 _)).trans (voiceTick_sounds 2 _)).trans
    (voiceTick_sounds 3 _)).trans (withSe_sounds _ _)

/-- What an audio sample can do (R105). -/
theorem audioSample_sounds (s : State) : Sounds s (audioSample s) := by
  unfold audioSample
  simp only
  repeat' split
  · exact (count_posts .clips s).sounds.trans rfl
  · rfl
  · rfl

/-- What a stop of one voice can do (R110). -/
theorem stopVoice_sounds (m : SoundStop) (i : Nat) (s : State) : Sounds s (stopVoice m i s) := by
  have cut : Sounds s ((finishVoice i .stopped (closeRec (i + 1) s)).withVoice i
      { (finishVoice i .stopped (closeRec (i + 1) s)).voice i with endReason := some .stopped }) :=
    ((closeRec_sounds (i + 1) s).trans (finishVoice_sounds i _ _)).trans (withVoice_sounds i _ _)
  have owed : Sounds s (restVoice i (closeRec (i + 1) (cancelVoiceOwed i s))) :=
    ((cancelVoiceOwed_sounds i s).trans (closeRec_sounds _ _)).trans (restVoice_sounds i _)
  unfold stopVoice
  simp only
  repeat' split
  all_goals first
    | exact owed
    | exact cut
    | exact releaseVoice_sounds i _ s
    | exact finishVoice_sounds i _ s
    | rfl

theorem dozeOwed_sounds (i : Nat) (s : State) : Sounds s (dozeOwed i s) := by
  unfold dozeOwed
  split
  · exact (cancelVoiceOwed_sounds i s).trans (restVoice_sounds i _)
  · rfl

theorem dozeRest_sounds (i : Nat) (s : State) : Sounds s (dozeRest i s) :=
  (closeRec_sounds (i + 1) s).trans (restVoice_sounds i _)

theorem eachVoice_sounds {f : Nat → State → State} (h : ∀ i s, Sounds s (f i s)) (s : State) :
    Sounds s (eachVoice f s) :=
  (((h 0 s).trans (h 1 _)).trans (h 2 _)).trans (h 3 _)

/-- What the Sound Engine's step at the entry to DOZE can do (R113). -/
theorem soundDoze_sounds (s : State) : Sounds s (soundDoze s) := by
  unfold soundDoze
  exact (((eachVoice_sounds dozeOwed_sounds s).trans
    (eachVoice_sounds (fun i => endCue_sounds i _) _)).trans
    (eachVoice_sounds dozeRest_sounds _)).trans (withSe_sounds _ _)

/-! ### The Rumble Driver -/

/-- `t` differs from `s` in the Rumble Driver, the fetch records and what posting changes. -/
def Rumbles (s t : State) : Prop :=
  t = { s with
    rd := t.rd
    pfu := { s.pfu with recs := t.pfu.recs }
    lif := { s.lif with queue := t.lif.queue }
    nu := { s.nu with pendingFlags := t.nu.pendingFlags, counters := t.nu.counters } }

theorem Rumbles.refl (s : State) : Rumbles s s := rfl

theorem Rumbles.trans {s t u : State} (h : Rumbles s t) (k : Rumbles t u) : Rumbles s u := by
  unfold Rumbles at *
  rw [k, h]

theorem Posts.rumbles {s t : State} (h : Posts s t) : Rumbles s t := by
  unfold Posts at h
  unfold Rumbles
  rw [h]

theorem withRd_rumbles (r : Rumble) (s : State) : Rumbles s (s.withRd r) := rfl

theorem closeRec_rumbles (p : Nat) (s : State) : Rumbles s (closeRec p s) := rfl

theorem refreshDuty_rumbles (s : State) : Rumbles s (refreshDuty s) := rfl

theorem askSteps_rumbles (p : Nat) (s : State) : Rumbles s (askSteps p s) := by
  unfold askSteps
  simp only
  split <;> rfl

theorem endRumble_rumbles (why : EndReason) (s : State) : Rumbles s (endRumble why s) := by
  unfold endRumble
  simp only
  split
  · exact (raiseTo_posts _ _ _).rumbles
  · rfl

theorem restRumble_rumbles (p : PlayerState) (s : State) : Rumbles s (restRumble p s) := rfl

theorem cancelRumbleOwed_rumbles (s : State) : Rumbles s (cancelRumbleOwed s) := by
  unfold cancelRumbleOwed
  split
  · rfl
  · exact (withRd_rumbles _ s).trans (replyOwed_posts _ _ _ _ _).rumbles

theorem finishBraking_rumbles (s : State) : Rumbles s (finishBraking s) :=
  (endRumble_rumbles _ s).trans (restRumble_rumbles _ _)

theorem enterBraking_rumbles (why : EndReason) (s : State) : Rumbles s (enterBraking why s) := by
  unfold enterBraking
  simp only
  split
  · exact ((closeRec_rumbles 0 s).trans (withRd_rumbles _ _)).trans (finishBraking_rumbles _)
  · rfl

theorem beginRumbleStep_rumbles (x : Step) (s : State) : Rumbles s (beginRumbleStep x s) := by
  unfold beginRumbleStep
  split <;> rfl

theorem nextStep_rumbles (p : Nat) (s : State) : Rumbles s (nextStep p s).2 := by
  unfold nextStep
  simp only
  split
  · exact Rumbles.trans (t := s.withFetchRec p _) rfl (askSteps_rumbles p _)
  · split
    · exact (count_posts _ _).rumbles
    · rfl

theorem takeRumbleStep_rumbles (s : State) : Rumbles s (takeRumbleStep s) := by
  have h := nextStep_rumbles 0 s
  unfold takeRumbleStep
  split <;> rename_i h' <;> rw [h'] at h
  · exact h.trans (beginRumbleStep_rumbles _ _)
  · exact h.trans (enterBraking_rumbles _ _)
  · exact h.trans (withRd_rumbles _ _)

theorem tryStart_rumbles (s : State) : Rumbles s (tryStart s) := by
  unfold tryStart
  repeat' split
  · rfl
  · rfl
  · exact takeRumbleStep_rumbles s
  · rfl

theorem endCheck_rumbles (c : MotorCheck) (o : CheckOutcome) (why : Option FailReason)
    (cur : Option Nat) (fault : Option (FaultCause × Nat)) (after : PlayerState) (s : State) :
    Rumbles s (endCheck c o why cur fault after s) :=
  (withRd_rumbles _ s).trans (replyOwed_posts _ _ _ _ _).rumbles

theorem failCheck_rumbles (why : FailReason) (s : State) : Rumbles s (failCheck why s) := by
  unfold failCheck
  split
  · rfl
  · exact endCheck_rumbles _ _ _ _ _ _ s

theorem rumbleStepWork_rumbles (s : State) : Rumbles s (rumbleStepWork s) := by
  unfold rumbleStepWork
  simp only
  repeat' split
  all_goals first
    | exact (withRd_rumbles _ s).trans (takeRumbleStep_rumbles _)
    | exact (withRd_rumbles _ s).trans (enterBraking_rumbles _ _)
    | exact (withRd_rumbles _ s).trans (finishBraking_rumbles _)
    | rfl

theorem examineGuard_rumbles (s : State) : Rumbles s (examineGuard s) := by
  have trip : Rumbles s (raiseNotice (.motorGuard .tripped s.rd.heat)
      (count .guardTrips (refreshDuty (s.withRd { s.rd with guard := .tripped })))) :=
    (Rumbles.trans (t := refreshDuty (s.withRd { s.rd with guard := .tripped })) rfl
      (count_posts _ _).rumbles).trans (raiseNotice_posts _ _).rumbles
  unfold examineGuard
  simp only
  repeat' split
  · exact trip.trans (failCheck_rumbles _ _)
  · exact trip
  · exact Rumbles.trans (t := refreshDuty (s.withRd { s.rd with guard := .clear })) rfl
      (raiseNotice_posts _ _).rumbles
  · rfl

/-- What the heat update of a tick can do (R130). -/
theorem heatTick_rumbles (s : State) : Rumbles s (heatTick s) :=
  (withRd_rumbles _ s).trans (examineGuard_rumbles _)

/-- What a tick of the Rumble Driver can do (R117, R130). -/
theorem rumbleTick_rumbles (s : State) : Rumbles s (rumbleTick s) :=
  (rumbleStepWork_rumbles s).trans (heatTick_rumbles _)

theorem overcurrent_rumbles (cur : Nat) (s : State) : Rumbles s (overcurrent cur s) := by
  unfold overcurrent
  simp only
  split
  · exact (endCheck_rumbles _ _ _ _ _ _ s).trans (raiseNotice_posts _ _).rumbles
  · exact ((((endRumble_rumbles _ s).trans (closeRec_rumbles 0 _)).trans (withRd_rumbles _ _)).trans
      (restRumble_rumbles _ _)).trans (raiseNotice_posts _ _).rumbles

/-- What a sample of the motor current can do (R131). -/
theorem senseSample_rumbles (cur : Nat) (s : State) : Rumbles s (senseSample cur s) := by
  unfold senseSample
  simp only
  repeat' split
  all_goals first
    | exact overcurrent_rumbles _ s
    | rfl

/-- What a stop of the player can do (R126). -/
theorem stopPlayer_rumbles (coast : Bool) (s : State) : Rumbles s (stopPlayer coast s) := by
  have owed : Rumbles s (restRumble .idle (closeRec 0 (cancelRumbleOwed s))) :=
    ((cancelRumbleOwed_rumbles s).trans (closeRec_rumbles 0 _)).trans (restRumble_rumbles _ _)
  have halt : Rumbles s (restRumble .idle ((closeRec 0 (endRumble .stopped s)).withRd
      { (closeRec 0 (endRumble .stopped s)).rd with endReason := some .stopped })) :=
    (((endRumble_rumbles _ s).trans (closeRec_rumbles 0 _)).trans (withRd_rumbles _ _)).trans
      (restRumble_rumbles _ _)
  unfold stopPlayer
  repeat' split
  all_goals first
    | exact owed
    | exact halt
    | exact finishBraking_rumbles s
    | exact enterBraking_rumbles _ s
    | rfl

/-- What the Rumble Driver's step at the entry to DOZE can do (R136). -/
theorem rumbleDoze_rumbles (s : State) : Rumbles s (rumbleDoze s) :=
  ((((endRumble_rumbles _ s).trans (cancelRumbleOwed_rumbles _)).trans (failCheck_rumbles _ _)).trans
    (closeRec_rumbles 0 _)).trans (restRumble_rumbles _ _)

/-! ### The Save Store -/

/-- `t` differs from `s` in the Save Store and what posting changes. -/
def Stores (s t : State) : Prop :=
  t = { s with
    ss := t.ss
    lif := { s.lif with queue := t.lif.queue }
    nu := { s.nu with pendingFlags := t.nu.pendingFlags, counters := t.nu.counters } }

theorem Stores.refl (s : State) : Stores s s := rfl

theorem Stores.trans {s t u : State} (h : Stores s t) (k : Stores t u) : Stores s u := by
  unfold Stores at *
  rw [k, h]

theorem Posts.stores {s t : State} (h : Posts s t) : Stores s t := by
  unfold Posts at h
  unfold Stores
  rw [h]

theorem withSs_stores (x : SaveStore) (s : State) : Stores s (s.withSs x) := rfl

theorem damageSlot_stores (slot : Nat) (cause : DamageCause) (s : State) :
    Stores s (damageSlot slot cause s) :=
  (withSs_stores _ s).trans (raiseNotice_posts _ _).stores

theorem abandonStream_stores (w : WriteStream) (s : State) : Stores s (abandonStream w s) := rfl

theorem breakStream_stores (w : WriteStream) (cause : LostCause) (s : State) :
    Stores s (breakStream w cause s) :=
  Stores.trans (t := (s.withSs (s.ss.freeStaged w)).withWrite _) rfl (raiseTo_posts _ _ _).stores

/-- What the writing of a post's data bytes can do (R10 to R12). -/
theorem feed_stores (l : List Byte) (s : State) : Stores s (feed l s) := by
  induction l generalizing s with
  | nil =>
    unfold feed
    split <;> rfl
  | cons b rest ih =>
    unfold feed
    simp only
    repeat' split
    all_goals first
      | exact (withSs_stores _ s).trans (ih _)
      | exact breakStream_stores _ _ s
      | rfl

/-- What SAVE_DATA can do (R8, R9). -/
theorem serveSaveData_stores (source toggle : Nat) (data : List Byte) (s : State) :
    Stores s (serveSaveData source toggle data s) := by
  unfold serveSaveData
  simp only
  repeat' split
  all_goals first
    | exact Stores.trans (t := s.withWrite _) rfl (count_posts _ _).stores
    | exact Stores.trans (t := s.withWrite _) rfl (breakStream_stores _ _ _)
    | exact Stores.trans (t := s.withWrite _) rfl (feed_stores _ _)
    | rfl

/-- What the completion of a page copy can do (R12). -/
theorem copyComplete_stores (s : State) : Stores s (copyComplete s) := by
  unfold copyComplete
  simp only
  repeat' split
  all_goals first
    | exact Stores.trans (t := (s.withSs _).withWrite _) rfl (feed_stores _ _)
    | exact (breakStream_stores _ _ s).trans (damageSlot_stores _ _ _)
    | rfl

/-- What the handing over of a READ_DATA can do (R20, R21). -/
theorem readHandover_stores (s : State) : Stores s (readHandover s) := by
  unfold readHandover
  simp only
  repeat' split
  all_goals first
    | exact (withSs_stores _ s).trans (handPost_posts _ _).stores
    | exact Stores.trans (t := s.withRead _) rfl (handPost_posts _ _).stores
    | rfl

/-- What the verification of a snapshot page can do (R21). -/
theorem readVerify_stores (s : State) : Stores s (readVerify s) := by
  unfold readVerify
  simp only
  repeat' split
  all_goals first
    | exact Stores.trans (t := s.withRead _) rfl (damageSlot_stores _ _ _)
    | rfl

/-- What the Save Store's step at the entry to DOZE can do (R30). -/
theorem storeDoze_stores (s : State) : Stores s (storeDoze s) := by
  have h : Stores s (dozeWrite s) := by
    unfold dozeWrite
    repeat' split
    all_goals first
      | exact (abandonStream_stores _ s).trans (raiseTo_posts _ _ _).stores
      | rfl
  simp only [storeDoze]
  split
  · exact h.trans (withSs_stores _ _)
  · exact h

end Sys2Proof.Machine
end

