-- ==== Sys2Proof/Laws/Budget.lean ====
section
/-! SUPPORT. What a recomputation of the Budget Unit can do, once for all its parts. -/

namespace Sys2Proof.Machine

/-- `t` differs from `s` in what a recomputation may change: the caps and the values in use, the claim
record, the transmit queue, the pending flags and the counters. -/
def Budgets (s t : State) : Prop :=
  t = { s with
    lif := { s.lif with queue := t.lif.queue }
    se := { s.se with gEff := t.se.gEff, gCeiling := t.se.gCeiling }
    rd := { s.rd with dBudget := t.rd.dBudget, dEff := t.rd.dEff }
    bu := { s.bu with
      announced := t.bu.announced, handedAt := t.bu.handedAt, released := t.bu.released
      raise := t.bu.raise, overFlag := t.bu.overFlag }
    nu := { s.nu with pendingFlags := t.nu.pendingFlags, counters := t.nu.counters } }

theorem Budgets.refl (s : State) : Budgets s s := rfl

theorem Budgets.trans {s t u : State} (h : Budgets s t) (k : Budgets t u) : Budgets s u := by
  unfold Budgets at *
  rw [k, h]

theorem Posts.budgets {s t : State} (h : Posts s t) : Budgets s t := by
  unfold Posts at h
  unfold Budgets
  rw [h]

theorem announce_budgets (c : Nat) (s : State) : Budgets s (announce c s) :=
  Budgets.trans (t := s.withBu { s.bu with announced := some c, handedAt := some s.now }) rfl
    (handPost_posts _ _).budgets

theorem handCaps_budgets (s : State) : Budgets s (handCaps s) := rfl

theorem examineOver_budgets (s : State) : Budgets s (examineOver s) := by
  unfold examineOver
  simp only
  split
  · exact Budgets.trans (t := s.withBu { s.bu with overFlag := _ }) rfl (raiseNotice_posts _ _).budgets
  · rfl

theorem beginRaise_budgets (s : State) : Budgets s (beginRaise s) :=
  Budgets.trans (t := s.withBu { s.bu with raise := _ }) rfl (announce_budgets _ _)

theorem decideClaim_budgets (s : State) : Budgets s (decideClaim s) := by
  unfold decideClaim
  repeat' split
  all_goals first
    | exact beginRaise_budgets s
    | exact Budgets.trans (t := s.withBu { s.bu with released := _ }) rfl (announce_budgets _ _)
    | rfl

theorem recomputeOnce_budgets (s : State) : Budgets s (recomputeOnce s) :=
  ((handCaps_budgets s).trans (examineOver_budgets _)).trans (decideClaim_budgets _)

theorem recomputeOnceAtStart_budgets (s : State) : Budgets s (recomputeOnceAtStart s) :=
  (handCaps_budgets s).trans (decideClaim_budgets _)

theorem recomputeUpTo_budgets {pass : State → State} (h : ∀ s, Budgets s (pass s)) (n : Nat)
    (s : State) : Budgets s (recomputeUpTo pass n s) := by
  induction n generalizing s with
  | zero => rfl
  | succ n ih =>
    unfold recomputeUpTo
    simp only
    split
    · exact h s
    · exact (h s).trans (ih _)

/-- What a recomputation can do (R145, R148 to R151, R154). -/
theorem recompute_budgets (s : State) : Budgets s (recompute s) :=
  recomputeUpTo_budgets recomputeOnce_budgets 8 s

/-- What the recomputation of a start can do (R157, R149). -/
theorem recomputeAtStart_budgets (s : State) : Budgets s (recomputeAtStart s) :=
  recomputeUpTo_budgets recomputeOnceAtStart_budgets 8 s

/-- All that the decisions on the claim can do (R150, R151, R154). -/
theorem decideClaim_cases (s : State) :
    decideClaim s = s ∨ decideClaim s = beginRaise s ∨
    decideClaim s = announce (lowerClaim s) (s.withBu { s.bu with released := lowerClaim s }) := by
  unfold decideClaim
  split
  · exact .inl rfl
  · split
    · exact .inl rfl
    · split <;> split
      · exact .inr (.inl rfl)
      · exact .inl rfl
      · split
        · exact .inl rfl
        · exact .inr (.inl rfl)
      · split
        · exact .inr (.inr rfl)
        · exact .inl rfl

end Sys2Proof.Machine
end

