-- ==== Sys2Proof/Laws/Clock.lean ====
section
/-! SUPPORT. What a crystal count and a second step can do: they change the Calendar, the coin-cell
sampler's count, and what posting a notice changes. -/

namespace Sys2Proof.Machine

/-- `t` differs from `s` in the Calendar, the sampler's count and what posting changes. -/
def Clocks (s t : State) : Prop :=
  t = { s with
    cal := t.cal
    ps := { s.ps with cellCount := t.ps.cellCount }
    lif := { s.lif with queue := t.lif.queue }
    nu := { s.nu with pendingFlags := t.nu.pendingFlags, counters := t.nu.counters } }

theorem Clocks.refl (s : State) : Clocks s s := rfl

theorem Clocks.trans {s t u : State} (h : Clocks s t) (k : Clocks t u) : Clocks s u := by
  unfold Clocks at *
  rw [k, h]

theorem Posts.clocks {s t : State} (h : Posts s t) : Clocks s t := by
  unfold Posts at h
  unfold Clocks
  rw [h]

theorem withCal_clocks (c : Calendar) (s : State) : Clocks s (s.withCal c) := rfl

theorem samplerCount_clocks (s : State) : Clocks s (samplerCount s) := rfl

theorem fireDue_clocks (n : Nat) (s : State) : Clocks s (fireDue n s) := by
  induction n generalizing s with
  | zero => rfl
  | succ n ih =>
    unfold fireDue
    split
    · rfl
    · split
      · exact ((withCal_clocks _ s).trans (raiseNotice_posts _ _).clocks).trans (ih _)
      · rfl

theorem appointmentCheck_clocks (s : State) : Clocks s (appointmentCheck s) := by
  unfold appointmentCheck
  split
  · exact fireDue_clocks _ _
  · rfl

theorem dayTurnCheck_clocks (s : State) : Clocks s (dayTurnCheck s) := by
  unfold dayTurnCheck
  split
  · exact (withCal_clocks _ s).trans (raiseNotice_posts _ _).clocks
  · rfl

theorem calendarStep_clocks (s : State) : Clocks s (calendarStep s) := by
  unfold calendarStep
  split
  · exact ((withCal_clocks _ s).trans (dayTurnCheck_clocks _)).trans (appointmentCheck_clocks _)
  · rfl

theorem prescalerCount_clocks (s : State) : Clocks s (prescalerCount s) := by
  unfold prescalerCount
  split
  · split
    · exact calendarStep_clocks s
    · rfl
  · rfl

/-- All that one crystal count can change. -/
theorem crystalCount_clocks (s : State) : Clocks s (crystalCount s) :=
  (samplerCount_clocks s).trans (prescalerCount_clocks _)

/-- All that SECOND_STEP can change. -/
theorem secondStep_clocks (s : State) : Clocks s (secondStep s) := by
  unfold secondStep
  split
  · exact crystalCount_clocks s
  · rfl

/-- Before the second's last count SECOND_STEP changes nothing (R32, R41). -/
@[simp] theorem secondStep_early {s : State} (h : s.cal.secondDue = false) : secondStep s = s := by
  simp [secondStep, h]

variable (s : State)

@[simp] theorem samplerCount_cal : (samplerCount s).cal = s.cal := rfl
@[simp] theorem samplerCount_lif : (samplerCount s).lif = s.lif := rfl
@[simp] theorem samplerCount_nu : (samplerCount s).nu = s.nu := rfl
@[simp] theorem samplerCount_power : (samplerCount s).ps.state = s.ps.state := rfl
@[simp] theorem crystalCount_ss : (crystalCount s).ss = s.ss := by rw [crystalCount_clocks s]
@[simp] theorem crystalCount_rd : (crystalCount s).rd = s.rd := by rw [crystalCount_clocks s]
@[simp] theorem crystalCount_se : (crystalCount s).se = s.se := by rw [crystalCount_clocks s]
@[simp] theorem crystalCount_bu : (crystalCount s).bu = s.bu := by rw [crystalCount_clocks s]
@[simp] theorem crystalCount_settings : (crystalCount s).settings = s.settings := by
  rw [crystalCount_clocks s]
@[simp] theorem crystalCount_power : (crystalCount s).ps.state = s.ps.state := by
  rw [crystalCount_clocks s]
@[simp] theorem crystalCount_pending : (crystalCount s).pending = s.pending := by
  rw [crystalCount_clocks s]

end Sys2Proof.Machine
end

