-- ==== Sys2Proof/Laws/Line.lean ====
section
/-! SUPPORT. What reading back an own post can tell, what the line's two commands leave alone while the
other is at work (R179, R180, R188), and how a payload's optional fields and the inbox are taken. -/

namespace Sys2Proof.Machine

theorem readBack_length (p : TxPost) (read : List BitSamples) :
    (p.readBack read).length = p.line.length := by
  simp only [TxPost.readBack, List.length_zip, List.length_append, List.length_map, List.length_drop]
  omega

/-- A bit of the line with the level read in it, or with its own where no sample was read. -/
theorem readBack_getElem? (p : TxPost) (read : List BitSamples) (i : Nat) (h : i < p.line.length) :
    (p.readBack read)[i]? = some (p.line[i], (read[i]?.map majority).getD p.line[i]) := by
  rw [List.getElem?_eq_getElem (by rw [readBack_length]; exact h)]
  simp only [TxPost.readBack, List.getElem_zip, Option.some.injEq, Prod.mk.injEq, true_and]
  rw [List.getElem_append]
  split
  · next hi => simp at hi; simp [hi]
  · next hi =>
    simp only [List.length_map, Nat.not_lt] at hi
    rw [List.getElem?_eq_none hi]
    simp only [List.length_map, List.getElem_drop, Option.map_none, Option.getD_none]
    congr 1
    omega

theorem receive_sending {began : Bool} {samples : List BitSamples} {s : State}
    (h : s.lif.sending.isSome) : receive began samples s = setAck false s := by
  simp [receive, h]

theorem endSending_idle {read : List BitSamples} {s : State} (h : s.lif.sending = none) :
    endSending read s = s := by
  simp [endSending, h]

/-- What an own post's end can do: one of four endings, each the ending of the bits read back. -/
theorem endSending_cases {read : List BitSamples} {s : State} {p : TxPost}
    (h : s.lif.sending = some p) :
    (p.ending read = .lostArbitration ∧ endSending read s = returnPost p
      ((count .arbLosses s).withLif { (count .arbLosses s).lif with sending := none })) ∨
    (p.ending read = .damaged ∧ endSending read s = sendFailed .ownDamaged p s) ∨
    (p.ending read = .unheard ∧ endSending read s = sendFailed .unheard p s) ∨
    (p.ending read = .sent ∧ endSending read s = reportClaim p true
      ((count .postsSent s).withLif
        { (count .postsSent s).lif with sending := none, runCount := 0 })) := by
  cases e : p.ending read <;> simp [endSending, h, e]

/-- A field named in the presence byte is read, and one that is not named takes no byte (R203). -/
theorem takeByte_isSome (o : Option Byte) (l : List Byte) :
    takeByte o.isSome (o.toList ++ l) = some (o, l) := by
  cases o <;> rfl

/-- The hand-on of the inbox stops at a head whose owner cannot take it (R185). -/
theorem drainInbox_waits {s : State} {e : Entry} {rest : List Entry} (h : s.lif.inbox = e :: rest)
    (hw : canTake s e = false) : drainInbox s = s := by
  simp [drainInbox, handOn, h, hw]

end Sys2Proof.Machine
end

