-- ==== Sys2Proof/Laws/Memory.lean ====
section
/-! SUPPORT. The page RAM's memory: reading after writing, and the canonical form kept by every
memory operation. -/

namespace Sys2Proof.Machine

theorem Memory.read_consCell (m : List Host.Cell) (a x : Nat) (b : Byte)
    (h : Memory.read m a = Config.unwrittenByte) :
    Memory.read (consCell a b m) x = if x = a then b else Memory.read m x := by
  unfold consCell
  split
  · next hb =>
    split
    · next hx => rw [hx, h, hb]
    · rfl
  · rfl

theorem cellsAbove_mono {m : List Host.Cell} {lo hi : Nat} (h : cellsAbove hi m = true)
    (hl : lo ≤ hi) : cellsAbove lo m = true := by
  cases m with
  | nil => rfl
  | cons c rest =>
    simp only [cellsAbove, Bool.and_eq_true, decide_eq_true_eq] at h ⊢
    exact ⟨⟨by omega, h.1.2⟩, h.2⟩

theorem Memory.read_below {m : List Host.Cell} {lo x : Nat} (h : cellsAbove lo m = true)
    (hx : x < lo) : Memory.read m x = Config.unwrittenByte := by
  induction m generalizing lo with
  | nil => rfl
  | cons c rest ih =>
    simp only [cellsAbove, Bool.and_eq_true, decide_eq_true_eq] at h
    rw [Memory.read, if_neg (by omega)]
    exact ih h.2 (by omega)

/-- A read after a write gives the byte written at its address and the old byte elsewhere. -/
theorem Memory.read_write {m : List Host.Cell} {lo : Nat} (h : cellsAbove lo m = true)
    (a x : Nat) (b : Byte) :
    Memory.read (Memory.write m a b) x = if x = a then b else Memory.read m x := by
  induction m generalizing lo with
  | nil => rw [Memory.write, Memory.read_consCell _ _ _ _ rfl]
  | cons c rest ih =>
    obtain ⟨y, v⟩ := c
    simp only [cellsAbove, Bool.and_eq_true, decide_eq_true_eq] at h
    unfold Memory.write
    split
    · next hlt =>
      refine Memory.read_consCell _ _ _ _ ?_
      rw [Memory.read, if_neg (by omega)]
      exact Memory.read_below h.2 (by omega)
    · split
      · next heq =>
        subst heq
        rw [Memory.read_consCell _ _ _ _ (Memory.read_below h.2 (by omega))]
        split
        · rfl
        · next hx => rw [Memory.read, if_neg hx]
      · next hne =>
        simp only [Memory.read, ih h.2]
        split
        · next hx => rw [if_neg (by omega)]
        · rfl

theorem cellsAbove_write {m : List Host.Cell} {lo : Nat} (h : cellsAbove lo m = true) (a : Nat)
    (b : Byte) (ha : lo ≤ a) : cellsAbove lo (Memory.write m a b) = true := by
  induction m generalizing lo with
  | nil =>
    unfold Memory.write consCell
    split
    · rfl
    · next hb => simp [cellsAbove, ha, hb]
  | cons c rest ih =>
    obtain ⟨y, v⟩ := c
    simp only [cellsAbove, Bool.and_eq_true, decide_eq_true_eq] at h
    unfold Memory.write consCell
    split
    · next hlt =>
      split
      · simp only [cellsAbove, Bool.and_eq_true, decide_eq_true_eq]; exact h
      · next hb =>
        simp only [cellsAbove, Bool.and_eq_true, decide_eq_true_eq, bne_iff_ne]
        exact ⟨⟨ha, hb⟩, ⟨by omega, bne_iff_ne.mp h.1.2⟩, h.2⟩
    · split
      · next heq =>
        subst heq
        split
        · exact cellsAbove_mono h.2 (by omega)
        · next hb =>
          simp only [cellsAbove, Bool.and_eq_true, decide_eq_true_eq, bne_iff_ne]
          exact ⟨⟨ha, hb⟩, h.2⟩
      · simp only [cellsAbove, Bool.and_eq_true, decide_eq_true_eq]
        exact ⟨h.1, ih h.2 (by omega)⟩

/-- A write keeps the canonical form. -/
theorem Memory.write_wf {m : List Host.Cell} (h : Memory.wf m = true) (a : Nat) (b : Byte) :
    Memory.wf (Memory.write m a b) = true := cellsAbove_write h a b (Nat.zero_le a)

/-- A run of writes keeps the canonical form. -/
theorem Memory.writeRun_wf {m : List Host.Cell} (h : Memory.wf m = true) (a : Nat)
    (l : List Byte) : Memory.wf (Memory.writeRun m a l) = true := by
  induction l generalizing m a with
  | nil => exact h
  | cons b rest ih => exact ih (Memory.write_wf h a b) (a + 1)

/-- The page RAM is canonical after reset. -/
theorem reset_ram_wf : Memory.wf State.reset.ss.ram = true := rfl

end Sys2Proof.Machine
end

