-- ==== Sys2Proof/Laws/Requests.lean ====
section
/-! SUPPORT. A heard request is served in the step that brings it. -/

namespace Sys2Proof.Machine

/-- A heard request is served by its owner at once (R183, R185). -/
theorem request_heard {s : State} {a : Ask} {r : Request} (h : Heard s a r.kind) :
    request a r s = serve { ask := a, request := r } s := by
  obtain ⟨hp, hi, hc, ho⟩ := h
  have hreach : s.ps.state = .active ∨ (s.ps.state = .doze ∧ a.priority = 0) := by
    rcases hp with h | ⟨h, h', _⟩
    · exact .inl h
    · exact .inr ⟨h, h'⟩
  have hadm : admission s a.source r.kind = .joins := by
    rcases hp with h | ⟨h, _, h'⟩
    · simp [admission, hc, h]
    · simp_all [admission]
  have hs : s.withLif { s.lif with inbox := [] } = s := by rw [← hi]; rfl
  have ht : (canTake (s.withLif { s.lif with inbox := [{ ask := a, request := r }] })
      { ask := a, request := r }) = true := by
    have hc' : (s.withLif { s.lif with inbox := [{ ask := a, request := r }] }).ss = s.ss := rfl
    unfold canTake
    rw [hc']
    by_cases hk : r.kind.owner = .saveStore
    · simp [ho hk]
    · simp [hk]
  unfold request
  rw [if_pos hreach]
  unfold enterRequest
  simp only [hadm, hi, Config.inboxPlaces, List.length_nil, List.nil_append]
  rw [if_neg (by omega)]
  unfold drainInbox
  simp only [State.withLif, List.length_cons, List.length_nil, handOn]
  simp only [State.withLif] at ht hs
  rw [ht]
  simp only [if_true]
  rw [hs]

end Sys2Proof.Machine
end

