-- ==== Sys2Proof/Laws/SaveStore.lean ====
section
/-! SUPPORT. The agreement of owner table and slot directory, and of marks and streams, from finitely
many checks: a mark names one place, and a page list has finitely many. -/

namespace Sys2Proof.Machine

/-- A page's LIVE mark names a place of a slot's list where the page stands, and its STAGED mark a
place of the staged list given. -/
def markBacked (x : SaveStore) (staged : List (Nat × Nat)) (p : Nat) : Mark → Bool
  | .live k pos => decide (k < 8 ∧ (x.slot k).pages[pos]? = some p)
  | .staged pos => decide ((pos, p) ∈ staged)
  | .pinned => x.inSnapshot p
  | .free => true

theorem storeAgrees_of {x : SaveStore} {staged : List (Nat × Nat)}
    (empty : ∀ k < 8, (x.slot k).state = .empty → x.slot k = emptySlot)
    (listed : ∀ k < 8, (x.slot k).state ≠ .empty →
      (x.slot k).pages.length = ceilDiv (x.slot k).size 256 ∧ ∀ p ∈ (x.slot k).pages, p < 128)
    (backed : ∀ p < 128, markBacked x staged p (x.page p).mark = true)
    (carried : ∀ k < 8, ∀ q ∈ (x.slot k).pages.zipIdx, (x.page q.1).mark = .live k q.2) :
    StoreAgrees x := by
  refine ⟨empty, listed, fun p hp k pos => ⟨fun h => ?_, fun h => ?_⟩⟩
  · simpa [h, markBacked] using backed p hp
  · exact carried k h.1 (p, pos) (List.mem_zipIdx_iff_getElem?.2 h.2)

theorem marksFollowStreams_of {x : SaveStore}
    (backed : ∀ p < 128, markBacked x ((x.write.map WriteStream.staged).getD []) p (x.page p).mark = true)
    (carried : ∀ q ∈ (x.write.map WriteStream.staged).getD [], (x.page q.2).mark = .staged q.1) :
    MarksFollowStreams x := by
  refine fun p hp => ⟨fun pos => ⟨fun h => ?_, ?_⟩, fun h => by simpa [h, markBacked] using backed p hp⟩
  · have hb := backed p hp
    rw [h] at hb
    cases hw : x.write with
    | none => simp [hw, markBacked] at hb
    | some w => exact ⟨w, rfl, by simpa [hw, markBacked] using hb⟩
  · rintro ⟨w, hw, hm⟩
    exact carried (pos, p) (by simpa [hw] using hm)

end Sys2Proof.Machine
end

