-- ==== Sys2Proof/WellFormed.lean ====
section
/-! DEFINITION. Which operands a command can carry: each field fits the width that R179, R203 and R204
give it. A well-formed command may still hold values out of its rule's range; the part answers those.
Every meaning is total, so none assumes this check. -/

namespace Sys2Proof

/-- A field of one byte (R203). -/
abbrev fitsByte (n : Nat) : Bool := decide (n < 256)

/-- A field of two bytes (R203). -/
abbrev fitsHalf (n : Nat) : Bool := decide (n < 65536)

/-- A field of four bytes (R203). -/
abbrev fitsWord (n : Nat) : Bool := decide (n < 4294967296)

/-- A signed field of one byte, in two's complement (R203). -/
abbrev fitsSigned (n : Int) : Bool := decide (-128 ≤ n ∧ n ≤ 127)

/-- A source station 0..14 (R179). -/
abbrev fitsSource (n : Nat) : Bool := decide (n < 15)

/-- An optional field: absent, or fitting (R203). -/
def fitsOption {α : Type} (p : α → Bool) : Option α → Bool
  | none => true
  | some x => p x

/-- The request's source, priority and ask tag fit the header and the tag byte (R179, R190). -/
def Ask.wf (a : Ask) : Bool := fitsSource a.source && decide (a.priority < 4) && fitsByte a.tag

/-- The optional voice settings fit their bytes (R203). -/
def VoiceFields.wf (f : VoiceFields) : Bool :=
  fitsOption (fun n => fitsByte n) f.waveform && fitsOption (fun n => fitsByte n) f.duty &&
  fitsOption (fun n => fitsByte n) f.attack && fitsOption (fun n => fitsByte n) f.decay &&
  fitsOption (fun n => fitsByte n) f.sustain && fitsOption (fun n => fitsByte n) f.release &&
  fitsOption (fun n => fitsSigned n) f.transpose && fitsOption (fun n => fitsByte n) f.level

/-- SAVE_OPEN's fields fit their bytes; `other` is a mode byte that names no mode. -/
def OpenForm.wf : OpenForm → Bool
  | .replace size => fitsHalf size
  | .patch offset length => fitsHalf offset && fitsHalf length
  | .other mode => fitsByte mode && decide (2 ≤ mode)

/-- The command's operands can be carried by a post, a pin or a fetch (R179, R203, R204). -/
def Instr.wf : Instr → Bool
  | .ident a => a.wf
  | .playSound a voice pattern priority _ f =>
    a.wf && fitsByte voice && fitsByte pattern && fitsByte priority && f.wf
  | .stopSound a voice mode => a.wf && fitsByte voice && fitsByte mode
  | .voiceSet a voice f => a.wf && fitsByte voice && f.wf
  | .masterLevel a level => a.wf && fitsByte level
  | .playRumble a pattern priority _ => a.wf && fitsByte pattern && fitsByte priority
  | .steadyRumble a duty duration priority _ =>
    a.wf && fitsByte duty && fitsHalf duration && fitsByte priority
  | .stopRumble a mode => a.wf && fitsByte mode
  | .motorCheck a => a.wf
  | .saveOpen a slot form => a.wf && fitsByte slot && form.wf
  | .saveData source priority toggle data =>
    fitsSource source && decide (priority < 4) && fitsByte toggle && decide (data.length ≤ 31)
  | .saveClose a count mode => a.wf && fitsHalf count && fitsByte mode
  | .saveRead a slot offset length => a.wf && fitsByte slot && fitsHalf offset && fitsHalf length
  | .saveErase a slot => a.wf && fitsByte slot
  | .saveInfo a slot => a.wf && fitsByte slot
  | .clockSet a time zone hour =>
    a.wf && fitsWord time && fitsOption (fun n => fitsSigned n) zone &&
    fitsOption (fun n => fitsByte n) hour
  | .clockRead a => a.wf
  | .clockAccept a => a.wf
  | .clockTrim a trim => a.wf && fitsSigned trim
  | .appointSet a tag due period link =>
    a.wf && fitsByte tag && fitsWord due && fitsByte period && fitsOption (fun n => fitsByte n) link
  | .appointClear a tag => a.wf && fitsByte tag
  | .appointList a start => a.wf && fitsByte start
  | .noticeEnable a mask => a.wf && fitsHalf mask
  | .noticeRead a => a.wf
  | .statsRead a group => a.wf && fitsByte group
  | .beat source payload => fitsSource source && decide (payload.length ≤ 32)
  | .allowance source payload => fitsSource source && decide (payload.length ≤ 32)
  | .claim source payload => fitsSource source && decide (payload.length ≤ 32)
  | .powerModeDoze source target => fitsSource source && decide (target < 16)
  | .powerModeAwake source target => fitsSource source && decide (target < 16)
  | .powerModeOffSoon source target => fitsSource source && decide (target < 16)
  | .motorSenseSample current => decide (current ≤ 511)
  | .settingsReadComplete bytes => decide (bytes.length = 64)
  | .directoryFetchComplete bytes => decide (bytes.length = 10)
  | .stepFetchComplete bytes => decide (bytes.length ≤ 24 ∧ bytes.length % 3 = 0)
  | .peerClaimExpiry station => fitsSource station
  | .railGood _ _ cellMv => fitsHalf cellMv
  | .railFail cellMv => fitsHalf cellMv
  | .coinCellSample cellMv => fitsHalf cellMv
  | .receivePost _ _ => true
  | .transmitStart => true
  | .postSendEnd _ => true
  | .silentEnd => true
  | .readDataHandover => true
  | .readPageVerifyComplete => true
  | .pageCopyComplete => true
  | .streamIdleTimeout => true
  | .startScrubComplete => true
  | .secondStep => true
  | .tickTimerExpiry => true
  | .lossTimeout => true
  | .audioSample => true
  | .motorCheckDriveEnd => true
  | .allowanceStale => true
  | .settleEnd => true
  | .listenEnd => true
  | .claimRefresh => true
  | .claimAgeExpiry => true
  | .keepDomainReset => true
  | .keepSupplyRestored => true
  | .guardPinChange => true
  | .guardDebounceEnd => true

end Sys2Proof
end

