-- ==== Sys2Proof/Tests/Slice0.lean ====
section
/-! SUPPORT. Tests: ill-formed commands that `Instr.wf` refuses, worked values of the manual, and for
each statement with hypotheses a witness that meets them, clause by clause. -/

namespace Sys2Proof.Tests

open Sys2Proof Sys2Proof.Machine

/-! The kernel evaluations below run one after another: side by side they ask for too many threads. -/

set_option Elab.async false

/-! ### Small states -/

/-- The part in ACTIVE as station 6, every block at its start value. -/
def on : State :=
  { State.reset with
    ps := { powerReset with state := .active, rail := .good, keepIntact := true }
    lif := lineStart 6 }

/-- The part in DOZE. -/
def dozing : State := { on with ps := { on.ps with state := .doze } }

/-- The part in STARTING, its settings read in flight. -/
def starting : State :=
  { on with
    ps := { on.ps with state := .starting, keepIntact := false }
    pfu := { fetchStart with port := some { job := .settings, address := 0, bytes := 64 } } }

/-- A request of station 1, the default client. -/
def client : Ask := { source := 1, priority := 2, tag := 7 }

/-- What a command's next state shows. -/
def after {α : Type} (o : Host.Outcome State Fault Refusal) (f : State → α) : Option α :=
  match o with
  | .next t => some (f t)
  | .fault _ => none
  | .refused _ => none

/-- A request of `a` is served at once in `s`, whatever its kind. -/
def ready (s : State) (a : Ask) : Bool :=
  s.ps.state == .active && s.lif.inbox.isEmpty && s.settings.clientMask.getLsbD a.source &&
  !s.ss.copying

theorem heard {s : State} {a : Ask} {k : Kind} (h : ready s a = true) : Heard s a k := by
  simp only [ready, Bool.and_eq_true, beq_iff_eq, List.isEmpty_iff, Bool.not_eq_true'] at h
  exact ⟨.inl h.1.1.1, h.1.1.2, h.1.2, fun _ => h.2⟩

/-! ### Ill-formed commands -/

theorem test_wf_ask_source : Instr.wf (.ident { client with source := 15 }) = false := by decide
theorem test_wf_ask_priority : Instr.wf (.clockRead { client with priority := 4 }) = false := by decide
theorem test_wf_ask_tag : Instr.wf (.noticeRead { client with tag := 256 }) = false := by decide
theorem test_wf_play_sound :
    Instr.wf (.playSound client 256 0 0 true {}) = false ∧
    Instr.wf (.playSound client 0 256 0 true {}) = false ∧
    Instr.wf (.playSound client 0 0 256 true {}) = false ∧
    Instr.wf (.playSound client 0 0 0 true { waveform := some 256 }) = false ∧
    Instr.wf (.playSound client 4 255 3 true { duty := some 0, transpose := some (-24) }) = true := by
  decide
theorem test_wf_voice_fields :
    VoiceFields.wf { duty := some 256 } = false ∧ VoiceFields.wf { attack := some 256 } = false ∧
    VoiceFields.wf { decay := some 256 } = false ∧ VoiceFields.wf { sustain := some 256 } = false ∧
    VoiceFields.wf { release := some 256 } = false ∧ VoiceFields.wf { level := some 256 } = false ∧
    VoiceFields.wf { transpose := some 128 } = false ∧
    VoiceFields.wf { transpose := some (-129) } = false := by decide
theorem test_wf_sound_requests :
    Instr.wf (.stopSound client 256 0) = false ∧ Instr.wf (.stopSound client 0 256) = false ∧
    Instr.wf (.voiceSet client 256 {}) = false ∧
    Instr.wf (.voiceSet client 0 { level := some 256 }) = false ∧
    Instr.wf (.masterLevel client 256) = false := by decide
theorem test_wf_rumble_requests :
    Instr.wf (.playRumble client 256 0 true) = false ∧
    Instr.wf (.playRumble client 0 256 true) = false ∧
    Instr.wf (.steadyRumble client 256 0 0 true) = false ∧
    Instr.wf (.steadyRumble client 0 65536 0 true) = false ∧
    Instr.wf (.steadyRumble client 0 0 256 true) = false ∧
    Instr.wf (.stopRumble client 256) = false ∧
    Instr.wf (.motorCheck { client with tag := 256 }) = false := by decide
theorem test_wf_save_requests :
    Instr.wf (.saveOpen client 256 (.replace 1)) = false ∧
    Instr.wf (.saveOpen client 0 (.replace 65536)) = false ∧
    Instr.wf (.saveOpen client 0 (.patch 65536 0)) = false ∧
    Instr.wf (.saveOpen client 0 (.patch 0 65536)) = false ∧
    Instr.wf (.saveOpen client 0 (.other 1)) = false ∧
    Instr.wf (.saveOpen client 0 (.other 256)) = false ∧
    Instr.wf (.saveData 15 0 0 []) = false ∧ Instr.wf (.saveData 1 4 0 []) = false ∧
    Instr.wf (.saveData 1 0 256 []) = false ∧
    Instr.wf (.saveData 1 0 0 (List.replicate 32 0)) = false ∧
    Instr.wf (.saveClose client 65536 0) = false ∧ Instr.wf (.saveClose client 0 256) = false ∧
    Instr.wf (.saveRead client 256 0 0) = false ∧ Instr.wf (.saveRead client 0 65536 0) = false ∧
    Instr.wf (.saveRead client 0 0 65536) = false ∧ Instr.wf (.saveErase client 256) = false ∧
    Instr.wf (.saveInfo client 256) = false := by decide
theorem test_wf_calendar_requests :
    Instr.wf (.clockSet client 4294967296 none none) = false ∧
    Instr.wf (.clockSet client 0 (some 128) none) = false ∧
    Instr.wf (.clockSet client 0 none (some 256)) = false ∧
    Instr.wf (.clockAccept { client with source := 15 }) = false ∧
    Instr.wf (.clockTrim client 128) = false ∧
    Instr.wf (.appointSet client 256 0 0 none) = false ∧
    Instr.wf (.appointSet client 0 4294967296 0 none) = false ∧
    Instr.wf (.appointSet client 0 0 256 none) = false ∧
    Instr.wf (.appointSet client 0 0 0 (some 256)) = false ∧
    Instr.wf (.appointClear client 256) = false ∧
    Instr.wf (.appointList client 256) = false := by decide
theorem test_wf_notice_requests :
    Instr.wf (.noticeEnable client 65536) = false ∧
    Instr.wf (.statsRead client 256) = false := by decide
theorem test_wf_posts :
    Instr.wf (.beat 15 []) = false ∧ Instr.wf (.beat 1 (List.replicate 33 0)) = false ∧
    Instr.wf (.allowance 15 []) = false ∧ Instr.wf (.allowance 2 (List.replicate 33 0)) = false ∧
    Instr.wf (.claim 15 []) = false ∧ Instr.wf (.claim 9 (List.replicate 33 0)) = false ∧
    Instr.wf (.powerModeDoze 15 0) = false ∧ Instr.wf (.powerModeDoze 2 16) = false ∧
    Instr.wf (.powerModeAwake 15 0) = false ∧ Instr.wf (.powerModeAwake 2 16) = false ∧
    Instr.wf (.powerModeOffSoon 15 0) = false ∧
    Instr.wf (.powerModeOffSoon 2 16) = false := by decide
theorem test_wf_events :
    Instr.wf (.motorSenseSample 512) = false ∧
    Instr.wf (.settingsReadComplete [0]) = false ∧
    Instr.wf (.directoryFetchComplete [0]) = false ∧
    Instr.wf (.stepFetchComplete [0]) = false ∧
    Instr.wf (.stepFetchComplete (List.replicate 27 0)) = false ∧
    Instr.wf (.peerClaimExpiry 15) = false ∧
    Instr.wf (.railGood true true 65536) = false ∧ Instr.wf (.railFail 65536) = false ∧
    Instr.wf (.coinCellSample 65536) = false := by decide

/-! ### Worked values of the manual -/

/-- R61's table of tick lengths. -/
theorem test_tick_lengths :
    (List.range 5).map (tickLength 17556 5) = [3512, 3511, 3511, 3511, 3511] ∧
    (List.range 4).map (tickLength 15423 4) = [3856, 3856, 3856, 3855] ∧
    ((List.range 16).map (tickLength 10486 16)).count 656 = 6 := by decide +kernel

/-- The worked measurements of R59. -/
theorem test_measured_periods :
    measured 17556 17600 1 = 17567 ∧ measured 17556 17500 1 = 17542 ∧
    measured 17556 17559 1 = 17556 ∧ measured 17556 35140 2 = 17559 ∧
    measured 17556 52500 3 = 17542 ∧ measured 17556 4000 1 = 14167 ∧
    measured 17556 105000 6 = 17556 := by decide +kernel

/-- The CRC-16 of the manual's parameters over the digits 1 to 9 is 0x29B1 (R179; the value is the
published check value of this CRC). -/
theorem test_crc :
    crcBytes [0x31, 0x32, 0x33, 0x34, 0x35, 0x36, 0x37, 0x38, 0x39] = 0x29B1 := by decide +kernel

/-- The worked cases of the game day (R38). -/
theorem test_game_days :
    ({ calendarStart 36 5 with running := true } : Calendar).gameDay 762579000 = 8826 ∧
    ({ calendarStart 36 5 with running := true } : Calendar).gameDay 762548400 = 8825 ∧
    ({ calendarStart 36 5 with running := true } : Calendar).localDate 762579000 = ⟨2024, 3, 1⟩ ∧
    ({ calendarStart 36 5 with running := true } : Calendar).weekday 762579000 = 5 ∧
    ({ calendarStart (-20) 0 with running := true } : Calendar).gameDay 0 = -1 ∧
    ({ calendarStart (-20) 0 with running := true } : Calendar).localDate 0 = ⟨1999, 12, 31⟩ := by
  decide +kernel

/-- R123's ramps. -/
theorem test_ramps :
    ([1, 2, 3, 4].map fun j => Ramp.duty ⟨40, 200, j, 4⟩) = [80, 120, 160, 200] ∧
    ([1, 2, 3].map fun j => Ramp.duty ⟨200, 0, j, 3⟩) = [134, 67, 0] ∧
    ([1, 2].map fun j => Ramp.duty ⟨0, 255, j, 2⟩) = [127, 255] := by decide +kernel

/-- The currents of R139 and the ceilings of R146. -/
theorem test_currents :
    ampCurrent defaultSettings 192 = 32 ∧ ampCurrent defaultSettings 255 = 40 ∧
    motorCurrent defaultSettings 200 = 95 ∧ motorCurrent defaultSettings 40 = 19 ∧
    leastClaim defaultSettings = 6 ∧
    [4, 5, 14, 32, 40].map (ceilingFor defaultSettings) = [0, 7, 70, 198, 255] := by decide +kernel

/-- The worked mix of R105: the sum 514, and the compare values at three gains. -/
def mixing : State :=
  let v (w : Waveform) (p e n : Nat) : Voice :=
    { voiceStart with
      state := .playing, waveform := w, phase := p, increment := 0, env := e, stepLevel := n }
  { on with se := { soundStart with
      voices := #v[v .triangle (100 * 65536) 200 12, v .pulse (15 * 1048576) 128 8, voiceStart,
        v .pulse 0 255 15]
      gCeiling := 255 } }

theorem test_mix :
    mixSum mixing.se = 514 ∧
    [192, 255, 70].map (fun g => after
      (exec .audioSample { mixing with se := { mixing.se with gEff := g } })
      fun t => t.se.compare) = [some 897, some 1023, some 652] := by decide +kernel

/-- The worked example of the cache order (R75): a hit moves its entry to the front, a ninth entry
drives out the last. -/
theorem test_cache_order :
    let e : DirEntry := ⟨.sound, 0, 0, 65536, 1, 0⟩
    let c := [12, 40, 3, 7, 200, 5, 66, 90].map fun i => (i, e)
    (touchCache c 3).map Prod.fst = [3, 12, 40, 7, 200, 5, 66, 90] ∧
    (joinCache (touchCache c 3) 150 e).map Prod.fst = [150, 3, 12, 40, 7, 200, 5, 66] := by
  decide +kernel

/-- The worked example of the looped pattern (R78): from index 0 six steps, then four of the loop. -/
theorem test_looped_pattern :
    let e : DirEntry := ⟨.sound, 1, 0, 73728, 6, 2⟩
    cursorAfter e 0 6 1 = some (2, 0) ∧ cursorAfter e 2 4 0 = none ∧
    fetchCount { fetchRecStart with entry := some e } 6 0 = 6 ∧
    fetchCount { fetchRecStart with
      firstDone := true, buffer := List.replicate 4 (.sound 0 1 0 false) } 6 2 = 4 := by decide +kernel

/-- The worked example of choosing voices (R90), with its table of voices. -/
def crowded : State :=
  let v (st : VoiceState) (p start e : Nat) : Voice :=
    { voiceStart with state := st, priority := p, startedAt := start, env := e, endNotice := true }
  { on with
    btg := { on.btg with tickCounter := 5200 }
    se := { soundStart with
      voices := #v[v .playing 2 5000 180, v .releasing 3 4100 40, v .playing 1 4200 200,
        v .releasing 0 4800 12] } }

theorem test_choosing_voices :
    anyVoice crowded 0 = some 3 ∧
    anyVoice (crowded.withVoice 3 { crowded.voice 3 with state := .starting, priority := 3 }) 0 =
      some 1 ∧
    chooseVoice crowded 1 2 = none ∧ chooseVoice crowded 2 1 = some 2 := by decide +kernel

/-- A peer entry that claims `c` mA and has not raised. -/
def quietPeer (c : Nat) : Option Peer :=
  some { claim := c, previous := 0, raisedAt := none, lastHeard := 0, yielding := false }

/-- The worked case of steady sharing (section 7.5). -/
def sharing : State :=
  { on with
    se := { soundStart with gEff := 192, gCeiling := 198 }
    rd := { rumbleStart with
      player := .steady, kind := .steady, mode := .drive, steadyDuty := 200, dReq := 200, dRes := 200
      dBudget := 89, dEff := 89 }
    bu := { ((budgetStart 60).withPeer 5 (quietPeer 90)).withPeer 9 (quietPeer 30) with
      allowance := 200, fresh := true, heard := some 0, announced := some 80, released := 80
      handedAt := some 0, acked := some (80, 0), holding := false } }

theorem test_steady_sharing :
    peerSum sharing.bu = 120 ∧ headroom sharing.bu = 80 ∧ soundShare sharing = 32 ∧
    gainCeiling sharing = 198 ∧ motorShare sharing = 42 ∧ dutyCap sharing = 89 ∧
    ownDraw sharing = 80 ∧ recompute sharing = sharing := by decide +kernel

/-- The worked allowance drop (section 7.7): CLAIM 50 of station 9, then ALLOWANCE 160. -/
theorem test_allowance_drop :
    after (exec (.claim 9 [0, 25]) sharing) (fun t =>
      (t.rd.dBudget, t.rd.dEff, t.bu.announced, t.bu.released)) = some (46, 46, some 60, 60) ∧
    after (exec (.allowance 2 [80]) (sharing.withBu (sharing.bu.withPeer 9 (quietPeer 50))))
      (fun t => (t.se.gEff, t.rd.dEff, t.bu.announced, t.bu.released)) =
      some (70, 0, some 20, 20) := by decide +kernel

/-- The worked heating (section 6.7): at the 290th tick H is 60,030 and the guard trips; D_eff is cut
to the guard duty. -/
theorem test_heating :
    let hot : State := { sharing with
      settings := { defaultSettings with hTrip := 60000 }
      rd := { sharing.rd with dReq := 255, dRes := 255, dBudget := 255, dEff := 255, heat := 59823 } }
    ((heatTick hot).rd.heat, (heatTick hot).rd.guard, (heatTick hot).rd.dEff) =
      (60030, .tripped, 32) ∧
    (heatTick { hot with rd := { hot.rd with heat := 59615 } }).rd.guard = .clear := by
  decide +kernel

/-! ### Witnesses: steps, invariants, power -/

theorem witness_IdleStepPassesOneCount :
    ({ on with crystal := 30 } : State).pending = [] ∧ on.ps.state ≠ .keep ∧ 30 < 31 ∧
    ({ on with crystal := 31 } : State).pending = [] ∧ 31 ≤ 31 ∧
    State.reset.ps.state = .keep ∧ State.reset.ps.keepSupply = true ∧
    ({ State.reset.ps with keepSupply := false } : Power).state = .keep := by decide +kernel

/-- A busy part: a CLAIM on its way and the CLAIM of a waiting raise and a reply queued, a request in
the inbox, a ramp being driven under its cap, one LIVE slot, a REPLACE with its first page, a read with
a PINNED page, an appointment linked to the slot, a rewound clock. -/
def busy : State :=
  { on with
    lif := { on.lif with
      queue := [⟨1, 6, 15, .claim 100⟩, ⟨2, 6, 1, .reply .ident 7 .done .none⟩]
      sending := some ⟨1, 6, 15, .claim 80⟩
      inbox := [⟨client, .saveInfo 0⟩] }
    se := { soundStart with gEff := 100, gCeiling := 198 }
    rd := { rumbleStart with
      player := .playing, peak := 200, dRes := 200, dReq := 120, mode := .drive, dBudget := 89
      dEff := 89, ticksLeft := 3, ramp := some ⟨40, 200, 2, 4⟩ }
    bu := { budgetStart 60 with
      allowance := 200, fresh := true, heard := some 0, announced := some 100, released := 80
      handedAt := some 0, acked := some (80, 0), holding := false
      raise := some { planned := 100, settleStart := none } }
    ss := { storeStart with
      ram := [(0, 0x00), (5, 0x41)]
      owner := ((storeStart.owner.set 0 ⟨.live 0 0, 0⟩).set 1 ⟨.staged 0, 0⟩).set 2 ⟨.pinned, 0⟩
      slots := storeStart.slots.set 0 { emptySlot with state := .live, size := 6, pages := [0] }
      write := some {
        slot := 1, owner := 1, patch := false, offset := 0, total := 600, received := 10, toggle := 1
        needed := 3, staged := [(0, 1)], condition := .opened, lastActivity := 0, held := []
        postBytes := 0 }
      read := some {
        slot := 0, reader := 1, snapshot := [2], next := 0, left := 6, toggle := 0, verified := []
        damaged := false } }
    cal := { calendarStart 36 5 with
      running := true, time := 762406200, mark := 762579000, rewound := true, rewind := 172800
      appointments := [⟨3, 762406201, .daily, some 0⟩] }
    pending := [.secondStep] }

theorem witness_LineBounded : LineBounded busy :=
  ⟨by decide +kernel, by decide +kernel, by decide +kernel, by decide +kernel, by decide +kernel,
    by rintro p ⟨⟩; decide +kernel⟩

theorem witness_DriveLimited : DriveLimited busy := ⟨by decide +kernel, by decide +kernel, by decide +kernel⟩

/-- R128: D_eff in every mode, power state and guard state, with D_req 120, D_budget 89 and guard duty
32. -/
theorem witness_EveryStepKeepsTheDrivesLimited_duty :
    (PowerState.doze ≠ .active ∧ rumbleStart.mode = .off ∧
      ({ busy.rd with mode := .brake } : Rumble).mode = .brake ∧ busy.rd.mode = .drive ∧
      busy.rd.guard = .clear ∧ ({ busy.rd with guard := .tripped } : Rumble).guard = .tripped) ∧
    (effectiveDuty defaultSettings .active busy.rd = 89 ∧
      effectiveDuty defaultSettings .active { busy.rd with dReq := 40 } = 40) ∧
    (effectiveDuty defaultSettings .active { busy.rd with guard := .tripped } = 32 ∧
      effectiveDuty defaultSettings .active { busy.rd with guard := .tripped, dReq := 9 } = 9) ∧
    effectiveDuty defaultSettings .active { busy.rd with mode := .brake } = 0 ∧
    effectiveDuty defaultSettings .doze busy.rd = 0 := by decide +kernel

theorem witness_DutyReserved : DutyReserved busy :=
  ⟨by decide +kernel, by decide +kernel, by decide +kernel, by decide +kernel,
    fun h => absurd h (by decide +kernel), by decide +kernel,
    by rintro - q ⟨⟩; decide +kernel, by rintro c ⟨⟩, by decide +kernel⟩

/-- The claim record with what the caps spend: 32 mA and 42 mA of the 80 mA released. -/
theorem witness_ClaimSound : ClaimSound busy := by
  have out : ∀ c, ClaimOut busy c → c = 100 ∨ c = 80 := by
    rintro c ⟨p, hp, hc⟩
    have hp' : p = ⟨1, 6, 15, .claim 100⟩ ∨ p = ⟨2, 6, 1, .reply .ident 7 .done .none⟩ ∨
        p = ⟨1, 6, 15, .claim 80⟩ := by
      rcases hp with hp | hp
      · simpa [busy, or_assoc, or_comm, or_left_comm] using Or.inl hp
      · exact .inr (.inr (by simpa [busy] using hp.symm))
    rcases hp' with rfl | rfl | rfl <;> simp_all [TxPost.claimOf]
  refine ⟨by decide +kernel, by decide +kernel, by decide +kernel, ?_, ?_, by rintro c ⟨⟩, ?_, ?_,
    by decide +kernel, by rintro ⟨⟩, by rintro ⟨⟩⟩
  · rintro c t ⟨⟩; decide +kernel
  · intro c hc
    have hr : busy.bu.released = 80 := rfl
    rcases out c hc with rfl | rfl <;> omega
  · rintro r ⟨⟩
    exact ⟨rfl, by decide +kernel, by decide +kernel, by rintro t ⟨⟩⟩
  · rintro p q c ⟨⟩ - hq hc
    have hq' : q = ⟨1, 6, 15, .claim 100⟩ ∨ q = ⟨2, 6, 1, .reply .ident 7 .done .none⟩ := by
      simpa [busy] using hq
    rcases hq' with rfl | rfl <;> simp_all [TxPost.claimOf, busy]

/-- R145's bound of the draw has a state with a gain and a duty in use and positive A0, A1 and I_full. -/
theorem witness_EveryStepKeepsTheDutyReservedAndTheDrawClaimed :
    DriveLimited busy ∧ ClaimSound busy ∧ 0 < busy.settings.a0 + busy.settings.a1 ∧
    0 < busy.settings.iFull ∧ (0 < busy.se.gEff ∨ 0 < busy.rd.dEff) :=
  ⟨witness_DriveLimited, witness_ClaimSound, by decide +kernel, by decide +kernel, by decide +kernel⟩

theorem witness_StoreSound : StoreSound busy := by
  refine ⟨storeAgrees_of (staged := [(0, 1)]) (by decide +kernel) (by decide +kernel)
      (by decide +kernel) (by decide +kernel), by decide +kernel,
    fun _ => marksFollowStreams_of (by decide +kernel) (by decide +kernel), ?_, ?_,
    by decide +kernel, by decide +kernel, by decide +kernel⟩
  · rintro w ⟨⟩
    exact ⟨rfl, by decide +kernel, by decide +kernel, by decide +kernel, by decide +kernel,
      by decide +kernel, by decide +kernel, by decide +kernel, by decide +kernel, rfl⟩
  · rintro r ⟨⟩
    exact ⟨rfl, fun p hp => by
      obtain rfl : p = 2 := by simpa using hp
      exact ⟨by decide, .inl (by decide +kernel)⟩⟩

theorem witness_CalendarSound : CalendarSound busy.cal := by unfold CalendarSound; decide +kernel

theorem witness_AppointmentsSound : AppointmentsSound busy := by
  refine ⟨by decide +kernel, List.pairwise_singleton _ _, by decide +kernel, ?_⟩
  intro e he
  obtain rfl : e = ⟨3, 762406201, .daily, some 0⟩ := by simpa [busy] using he
  exact ⟨by decide +kernel, by decide +kernel, by rintro k ⟨⟩; decide +kernel⟩

/-- The invariants' statements have a state that meets them all and takes a step. -/
theorem witness_invariants : Safe busy ∧ ∃ t, step busy = .next t :=
  ⟨⟨by decide +kernel, witness_LineBounded, witness_DriveLimited, witness_DutyReserved,
    witness_CalendarSound, witness_AppointmentsSound, witness_StoreSound, witness_ClaimSound⟩, _, rfl⟩

theorem witness_KeepResetLosesTheKeepDomain :
    ({ State.reset.ps with keepSupply := false } : Power).keepSupply = false ∧
    State.reset.ps.keepSupply = true := by decide +kernel

theorem witness_RailEventsStartAndStopThePart :
    (State.reset.ps.rail = .fail ∧ State.reset.ps.keepIntact = false) ∧
    (({ State.reset.ps with keepIntact := true } : Power).rail = .fail) ∧
    on.ps.rail = .good := by decide +kernel

/-- A part whose coin-cell sample is due after `n` crystal counts. -/
def sampling (n : Nat) (c : CellLevel) (s : State) : State :=
  { s with ps := { s.ps with cellCount := n, cell := c } }

theorem witness_CoinCellSampleSetsTheLevel :
    ((sampling 327679 .ok on).ps.cellCount < 327680 ∧ 327680 ≤ (sampling 327680 .ok on).ps.cellCount ∧
      327680 < 2097152 ∧ (sampling 2097152 .ok State.reset).ps.state = .keep ∧
      ({ State.reset.ps with keepSupply := false } : Power).keepSupply = false) ∧
    on.ps.keepSupply = true ∧ ¬ (on.ps.cell = .ok ∧ 2600 < 2600) ∧
    ¬ (({ on.ps with cell := .low } : Power).cell = .ok ∧ 2599 < 2600) ∧
    (on.ps.cell = .ok ∧ 2599 < 2600 ∧ on.ps.state = .active ∧ dozing.ps.state = .doze) ∧
    (starting.ps.keepSupply = true ∧ starting.ps.cell = .ok ∧ starting.ps.state = .starting) ∧
    State.reset.ps.state = .keep ∧ State.reset.ps.cell = .ok := by decide +kernel

theorem witness_GuardPinIsDebounced :
    on.ps.state ≠ .keep ∧ on.guard.pinLow = on.guard.asserted ∧ on.guard.timer = none ∧
    ({ pinLow := true, asserted := false, timer := some 16777 } : GuardPin).pinLow ≠
      ({ pinLow := true, asserted := false, timer := some 16777 } : GuardPin).asserted := by
  decide +kernel

theorem test_guard :
    after (exec .guardPinChange on) (fun t => t.guard) = some ⟨true, false, some 16777⟩ ∧
    after (exec .guardDebounceEnd { on with guard := ⟨true, false, some 16777⟩ })
      (fun t => (t.guard, t.now)) = some (⟨true, true, none⟩, 16777) := by decide +kernel

theorem test_power_events :
    after (exec (.railGood true false 2599) State.reset) (fun t =>
      (t.ps.state, t.lif.own, t.ps.cell, t.ps.lowSeen, t.pfu.port.map Transfer.bytes)) =
      some (.starting, 6, .low, true, some 64) ∧
    after (exec (.railFail 3000) busy) (fun t =>
      (t.ps.state, t.ps.record.map PowerFailRecord.motorDriving, t.cal.time)) =
      some (.keep, some true, 762406200) ∧
    after (exec .keepDomainReset on) (fun t => t.ps.keepSupply) = some false ∧
    after (exec .keepSupplyRestored { State.reset with ps := { powerReset with keepSupply := false } })
      (fun t => t.ps.keepSupply) = some true ∧
    after (exec (.coinCellSample 2600) (sampling 327680 .low on))
      (fun t => (t.ps.cell, t.ps.cellCount)) = some (.low, 0) := by decide +kernel

/-- The sample is taken at the end of its period and not before (R162). -/
theorem test_coin_cell_period :
    after (exec (.coinCellSample 2599) (sampling 327679 .ok on)) (fun t => (t.ps.cell, t.lif.queue)) =
      some (.ok, []) ∧
    after (exec (.coinCellSample 2599) (sampling 327680 .ok on)) (fun t => (t.ps.cell, t.lif.queue)) =
      some (.low, [⟨2, 6, 1, .notice (.batteryLow 2599)⟩]) ∧
    after (exec (.coinCellSample 2599) (sampling 327680 .ok State.reset)) (fun t => t.ps.lowSeen) =
      some false ∧
    after (exec (.coinCellSample 2599) (sampling 2097152 .ok State.reset)) (fun t => t.ps.lowSeen) =
      some true := by decide +kernel

/-! ### Witnesses: the service line -/

/-- A reply of the part to station 1. -/
def answer (tag : Nat) : TxPost := ⟨2, 6, 1, .reply .ident tag .done .none⟩

/-- The part with a queue of replies, 0 to 8 of them. -/
def queued (n : Nat) : State := on.withLif { on.lif with queue := (List.range n).map answer }

theorem witness_HandedPostsAndNoticesTakeTheirPlace :
    (TxPost.isClaim ⟨1, 6, 15, .claim 80⟩ = true ∧ busy.lif.queue.any TxPost.isClaim = true) ∧
    ((answer 9).isClaim = false ∧ (queued 7).lif.queue.length < 8) ∧
    ((queued 0).lif.queue.any TxPost.isClaim = false) ∧
    ((queued 8).lif.queue = (List.range 7).map answer ++ [answer 7] ∧
      ((List.range 7).map answer).length = 7 ∧
      TxPost.header ⟨1, 6, 15, .claim 80⟩ < (answer 7).header ∧
      (answer 7).header ≤ (answer 9).header) ∧
    (on.nu.mask.getLsbD (Notice.kind (.batteryLow 2500)).number = true ∧
      ({ noticesStart with mask := 0 } : Notices).mask.getLsbD 9 = false) := by decide +kernel

/-- Another station's post on the line, one of the three samples of each bit disturbed (R178). -/
def sampled (priority kind source target : Nat) (payload : List Byte) : List BitSamples :=
  (wireBits (headerValue priority kind source target) payload).map fun b => ⟨b, !b, b⟩

theorem witness_PostSentIsPostReceived :
    ((sampled 3 63 15 15 (List.replicate 32 0xFF)).map majority =
      wireBits (headerValue 3 63 15 15) (List.replicate 32 0xFF)) ∧
    judgePost (sampled 3 63 15 15 (List.replicate 32 0xFF)) =
      some ⟨3, 63, 15, 15, List.replicate 32 0xFF⟩ ∧
    (sampled 0 0 0 0 []).map majority = wireBits 0 [] ∧
    judgePost (sampled 0 0 0 0 []) = some ⟨0, 0, 0, 0, []⟩ ∧
    judgePost (sampled 0 0 0 0 [] ++ List.replicate 8 ⟨true, true, true⟩) = some ⟨0, 0, 0, 0, []⟩ ∧
    (let p : TxPost := ⟨1, 6, 15, .claim 80⟩
     p.priority < 4 ∧ p.source < 16 ∧ p.target < 16 ∧ p.body.payload.length ≤ 32 ∧
      (p.line.map fun b => (⟨b, b, !b⟩ : BitSamples)).map majority = p.line) := by decide +kernel

/-- CLAIM 80 of station 6 on the line: start bit, header 0x446F, length 2, rail 0 with its inserted bits
up to the value, and at the end the acknowledge slot and seven end bits, recessive (R204). -/
theorem test_line_bits :
    let bits (l : List Nat) : List Bool := l.map (· == 1)
    let p : TxPost := ⟨1, 6, 15, .claim 80⟩
    p.line.take 35 = bits ([0] ++ [0,1,0,0,0,1,0,0,0,1,1,0,1,1,1,1] ++ [0,0,0,0,1,0] ++
      [0,0,0,0,0,1,0,0,0,0,0,1]) ∧
    p.line.drop (p.line.length - 8) = List.replicate 8 true := by decide +kernel

/-- Numbers written as bytes. -/
def bytes (l : List Nat) : List Byte := l.map (BitVec.ofNat 8)

/-- The payloads that R203 lays out: READ_DATA with toggle 1 and the last flag, a DAY_TURN of game day
−1, 31 December 2025, an OVER_ALLOWANCE of headroom −4, a CLOCK_SET's DONE, a SAVE_INFO of an EMPTY slot,
a RUMBLE_END of a steady play. -/
theorem test_payloads :
    Body.payload (.readData 1 true false [0x41, 0x42]) = bytes [3, 0x41, 0x42] ∧
    Body.payload (.notice (.dayTurn (-1) ⟨2025, 12, 31⟩ 3)) = bytes [1, 0, 1, 0x07, 0xE9, 12, 31, 3] ∧
    Body.payload (.notice (.overAllowance true 60 58 (-4))) =
      bytes [8, 0, 0, 60, 0, 58, 0xFF, 0xFC] ∧
    Body.payload (.reply .clockSet 7 .done (.clockSet 100000 100001 true 1 0)) =
      bytes [0x28, 7, 0, 0, 1, 0x86, 0xA0, 0, 1, 0x86, 0xA1, 1, 0, 0, 0, 1, 0, 2] ∧
    Body.payload (.reply .saveInfo 9 .done
      (.slotInfo ⟨.empty, 0, none, none, 0, none, false, 128, false, false⟩)) =
      bytes [0x25, 9, 0, 0, 0, 0, 0xFF, 0xFF, 0xFF, 0xFF, 0, 0, 0, 0, 128, 0, 0] ∧
    Body.payload (.notice (.rumbleEnd 5 .steady none .power)) = bytes [4, 5, 1, 0, 4] := by
  decide +kernel

/-- Requests as their bytes spell them: VOICE_SET of voice 2 with a transpose of −3 and level 9,
CLOCK_SET at 100,000 s with a rollover hour alone, APPOINT_SET with a link, SAVE_OPEN for a PATCH. -/
theorem test_request_bytes :
    readRequest .voiceSet (bytes [7, 2, 0xC0, 0xFD, 9]) =
      .voiceSet 2 { transpose := some (-3), level := some 9 } ∧
    readRequest .clockSet (bytes [7, 0, 1, 0x86, 0xA0, 2, 5]) = .clockSet 100000 none (some 5) ∧
    readRequest .appointSet (bytes [7, 3, 0, 1, 0x86, 0xA0, 1, 1, 6]) =
      .appointSet 3 100000 1 (some 6) ∧
    readRequest .saveOpen (bytes [7, 2, 1, 1, 0xF4, 0, 40]) = .saveOpen 2 (.patch 500 40) ∧
    readRequest .voiceSet (bytes [7, 2, 0xC0, 0xFD]) = .misfit .voiceSet := by decide +kernel

theorem witness_TakenPostRunsItsCommand_layout :
    (∀ i < 8, (0xC0 : Byte).getLsbD i =
      (([none, none, none, none, none, none, some 0xFD, some 9] : List (Option Byte))[i]?.getD
        none).isSome) ∧
    (∀ i < 2, (2 : Byte).getLsbD i = (([none, some 5] : List (Option Byte))[i]?.getD none).isSome) ∧
    (∀ i < 1, (1 : Byte).getLsbD i = (([some 6] : List (Option Byte))[i]?.getD none).isSome) ∧
    2 ≤ (2 : Byte).toNat ∧ ([0xFD] : List Byte).length ≠ (List.range 8).countP (0xC0 : Byte).getLsbD := by
  decide +kernel

/-- An IDENT request of station 1 (kind 16) as it comes from the line. -/
def identPost : List BitSamples := sampled 0 16 1 6 [7]

/-- The part with `n` requests waiting behind a page copy. -/
def waiting (n : Nat) : State :=
  { on with
    lif := { on.lif with inbox := (List.range n).map fun i => ⟨{ client with tag := i }, .saveInfo 0⟩ }
    ss := { storeStart with write := some {
      slot := 0, owner := 1, patch := true, offset := 0, total := 30, received := 0, toggle := 0
      needed := 1, staged := [(0, 1)], condition := .copying, lastActivity := 0, held := [0x41]
      postBytes := 1 } } }

theorem witness_ReceivedPostIsTakenOrLeft :
    (starting.ps.state = .starting ∧ busy.lif.sending ≠ none) ∧
    (on.ps.state = .active ∧ on.lif.sending = none ∧ judgePost [] = none) ∧
    (true = true ∧ (judgePost identPost).isSome = true ∧ dozing.ps.state = .doze) ∧
    (dozing.ps.state = .doze ∧ judgePost (sampled 1 16 1 6 [7]) = some ⟨1, 16, 1, 6, [7]⟩ ∧
      kindOfCode 16 = some .ident) ∧
    (judgePost identPost = some ⟨0, 16, 1, 6, [7]⟩ ∧ Kind.ident.isRequest = true ∧
      Kind.ident.servedInDoze = true ∧ (waiting 4).lif.own = 6 ∧
      (waiting 4).settings.clientMask.getLsbD 1 = true ∧ 4 ≤ (waiting 4).lif.inbox.length) ∧
    (dozeDrops on ⟨0, 16, 1, 6, [7]⟩ = false ∧ inboxBars on ⟨0, 16, 1, 6, [7]⟩ = false) := by
  decide +kernel

/-- Levels sampled from the line, one of the three samples of each bit disturbed. -/
def levels (l : List Bool) : List BitSamples := l.map fun b => ⟨b, !b, b⟩

/-- A run of dominant bits. -/
def zeros (n : Nat) : List Bool := List.replicate n false

/-- The bits up to six equal ones, and the inserted bit that was due; an IDENT of tag 93 whose check ends
with six dominant bits. -/
def tag93 : List Bool := wireBits 0x1016 [93]

theorem witness_ReceivedPostIsTakenOrLeft_faults :
    (stuff (zeros 6) = zeros 6 ++ [!false] ∧ List.replicate 6 false <:+ zeros 6 ∧
      ¬ 39 + 8 * 0 ≤ (zeros 6).length) ∧
    (0x1234 ≠ (crcBits (checkedBits 0x1016 [7])).toNat ∧ 0x1234 < 65536) ∧
    (headerValue 0 16 1 6 = 0x1016 ∧ tag93 = tag93.dropLast ++ [!false] ∧
      List.replicate 6 false <:+ tag93.dropLast) ∧
    ((identPost.take 30).map majority <+: wireBits 0x1016 [7] ∧
      ¬ 39 + 8 * 1 ≤ (destuff ((identPost.take 30).map majority)).length) := by decide +kernel

/-- The three faults of R180, each alone: a seventh equal bit, a length of 33, a check that
disagrees. -/
theorem test_faulty_posts :
    judgePost (levels (zeros 7 ++ [true])) = none ∧
    judgePost (levels (stuff (false :: (bitsOf 16 0x1016 ++ bitsOf 6 33 ++
      (List.replicate 280 [true, false]).flatten)))) = none ∧
    judgePost (levels (stuff (false :: (checkedBits 0x1016 [7] ++
      bitsOf 16 ((crcBits (checkedBits 0x1016 [7])).toNat ^^^ 1))))) = none ∧
    judgePost (identPost.take 30) = none ∧ (judgePost identPost).isSome ∧
    judgePost (levels (tag93.dropLast ++ [false, true])) = some ⟨0, 16, 1, 6, [93]⟩ := by
  decide +kernel

/-- An IDENT with a byte too many spells no request. -/
theorem ident_misfits (c : Instr) : requestOf c ≠ some (entryOf .ident ⟨0, 16, 1, 6, [7, 7]⟩) := by
  have h : (entryOf .ident ⟨0, 16, 1, 6, [7, 7]⟩).request = .misfit .ident := by decide +kernel
  cases c <;> simp [requestOf] <;> intro hc <;> simp [← hc] at h

theorem witness_TakenPostRunsItsCommand_misfit :
    judgePost (sampled 0 16 1 6 [7, 7]) = some ⟨0, 16, 1, 6, [7, 7]⟩ ∧
    kindOfCode 16 = some .ident ∧ Kind.ident.isRequest = true ∧ 6 = on.lif.own ∧
    (Kind.ident, 1) ∈ [(Kind.ident, 1)] ∧ [7, 7].length ≠ 1 ∧
    (∀ c, requestOf c ≠ some (entryOf .ident ⟨0, 16, 1, 6, [7, 7]⟩)) ∧
    Heard (setAck true (count .postsTaken on)) ⟨1, 0, 7⟩ .ident :=
  ⟨by decide +kernel, by decide, by decide, rfl, by decide, by decide, ident_misfits,
    heard (by decide +kernel)⟩

theorem witness_TakenPostRunsItsCommand :
    (judgePost (sampled 1 3 1 15 [9]) = some ⟨1, 3, 1, 15, [9]⟩ ∧
      judgePost (sampled 1 2 2 15 [100]) = some ⟨1, 2, 2, 15, [100]⟩ ∧
      judgePost (sampled 1 4 9 15 [0, 25]) = some ⟨1, 4, 9, 15, [0, 25]⟩ ∧
      judgePost (sampled 1 1 2 15 [1]) = some ⟨1, 1, 2, 15, [1]⟩ ∧
      judgePost (sampled 1 1 2 15 [2]) = some ⟨1, 1, 2, 15, [2]⟩ ∧
      judgePost (sampled 1 1 2 15 [3]) = some ⟨1, 1, 2, 15, [3]⟩ ∧
      judgePost (sampled 1 1 2 15 [4]) = some ⟨1, 1, 2, 15, [4]⟩) ∧
    ([3, 2, 4, 1].all fun k => !dozeDrops on ⟨1, k, 2, 15, []⟩ && !inboxBars on ⟨1, k, 2, 15, []⟩) ∧
    (requestOf (.ident ⟨1, 0, 7⟩) = some (entryOf .ident ⟨0, 16, 1, 6, [7]⟩)) ∧
    (kindOfCode 0 = none ∧ judgePost (sampled 1 0 9 6 [1]) = some ⟨1, 0, 9, 6, [1]⟩ ∧
      judgePost (sampled 1 16 1 5 [7]) = some ⟨1, 16, 1, 5, [7]⟩ ∧
      judgePost (sampled 1 16 1 6 []) = some ⟨1, 16, 1, 6, []⟩ ∧
      judgePost (sampled 1 8 9 15 []) = some ⟨1, 8, 9, 15, []⟩) := by decide +kernel

theorem test_receive_post :
    after (exec (.receivePost false identPost) on) (fun t => (t.lif.acked, t.lif.queue)) =
      some (true, [⟨0, 6, 1, .reply .ident 7 .done (.identity 6 .cold 0 false)⟩]) ∧
    after (exec (.receivePost true []) on) (fun t => (t.lif.acked, t.nu.counters[2])) =
      some (false, ⟨1, false⟩) ∧
    after (exec (.receivePost true identPost) on) (fun t => (t.lif.acked, t.nu.counters[1])) =
      some (false, ⟨0, false⟩) ∧
    after (exec (.receivePost false (sampled 0 16 1 6 [7, 7])) on) (fun t => t.lif.queue) =
      some [⟨0, 6, 1, .reply .ident 7 .badArg .none⟩] ∧
    after (exec (.receivePost false identPost) (waiting 4)) (fun t =>
      (t.lif.acked, t.nu.counters[7])) = some (false, ⟨1, false⟩) := by decide +kernel

/-- While the transmitter sends, the post on the line is the part's own (R180). -/
theorem test_own_post_is_not_judged :
    after (exec (.receivePost false identPost) busy) (fun t => decide (t = setAck false busy)) =
      some true ∧
    after (exec (.receivePost false []) busy) (fun t => decide (t = setAck false busy)) =
      some true := by decide +kernel

/-- The part SILENT until count 262,144, three posts removed. -/
def silenced : State :=
  on.withLif { on.lif with silentEnd := some 262144, runCount := 8, removed := 3 }

theorem witness_TransmitterStartsAndLeavesSilence :
    (on.ps.state = .active ∧ (queued 1).lif.sending = none ∧ (queued 1).lif.silentEnd = none ∧
      (queued 1).lif.queue = [answer 0]) ∧
    (queued 0).lif.queue = [] ∧ silenced.lif.silentEnd = some 262144 := by decide +kernel

/-- The part sending a post with a run count. -/
def transmitting (p : TxPost) (run : Nat) : State :=
  (queued 2).withLif { (queued 2).lif with sending := some p, runCount := run }

/-- A post read back as sent, with a dominant acknowledge slot. -/
def acknowledged (p : TxPost) : List BitSamples := levels (p.line.take p.ackIndex ++ [false])

/-- CLAIM 80 of station 6, and its start bit and header on the line (`test_line_bits`). -/
def claim80 : TxPost := ⟨1, 6, 15, .claim 80⟩
def claim80Header : List Bool :=
  [0, 0,1,0,0,0,1,0,0,0,1,1,0,1,1,1,1].map (· == 1)

/-- The endings of R188 from the bits read back: station 5's CLAIM wins at the first bit in
which its source, 0101, differs from 0110, a length bit is read wrong, nobody acknowledges, somebody does. A dominant
header bit read recessive ends nothing (log 36). -/
theorem test_endings :
    claim80.ending (levels (claim80Header.take 11 ++ [false, true])) = .lostArbitration ∧
    claim80.ending (levels (claim80Header ++ [0,0,0,0,1,1].map (· == 1))) = .damaged ∧
    claim80.ending [] = .unheard ∧ claim80.ending (acknowledged claim80) = .sent ∧
    claim80.ending (levels ([true] ++ claim80Header.drop 1)) = .unheard := by decide +kernel

theorem witness_PostSendEndingsActAndReportClaims_readBack :
    (11 < claim80.headerSpan ∧ claim80.line[11]? = some true ∧
      (levels (claim80Header.take 11 ++ [false]))[11]?.map majority = some false) ∧
    (claim80.headerSpan ≤ 22 ∧ 22 < claim80.ackIndex ∧ claim80.line[22]? = some false ∧
      (levels (claim80Header ++ [0,0,0,0,1,1].map (· == 1)))[22]?.map majority = some true) ∧
    (∀ i < claim80.ackIndex, (acknowledged claim80)[i]?.map majority = claim80.line[i]?) ∧
    ((acknowledged claim80)[claim80.ackIndex]?.map majority = some false ∧
      claim80.line[claim80.ackIndex]? = some true) := by decide +kernel

theorem witness_PostSendEndingsActAndReportClaims :
    ((transmitting (answer 9) 6).lif.sending = some (answer 9) ∧ (answer 9).isClaim = false ∧
      (transmitting (answer 9) 6).lif.queue.length < 8 ∧
      (transmitting (answer 9) 6).lif.runCount < 7 ∧
      7 ≤ (transmitting (answer 9) 7).lif.runCount) ∧
    ((queued 8).lif.queue = (List.range 7).map answer ++ [answer 7] ∧
      ((List.range 7).map answer).length = 7 ∧ (queued 8).lif.queue.any TxPost.isClaim = false ∧
      claim80.header < (answer 7).header ∧ (answer 7).header ≤ (answer 9).header) ∧
    (busy.lif.sending = some claim80 ∧ claim80.isClaim = true ∧
      busy.lif.queue.any TxPost.isClaim = true) ∧
    (on.bu.holding = true ∧ sharing.bu.holding = false ∧
      ({ on.bu with raise := some ⟨80, none⟩ } : Budget).raise = some ⟨80, none⟩ ∧
      on.bu.raise ≠ some ⟨80, none⟩ ∧ on.lif.sending = none) := by decide +kernel

/-- Reply 9's header is 0x8A61: its first bit read dominant loses arbitration. -/
theorem test_post_ends :
    after (exec .transmitStart (queued 2)) (fun t => (t.lif.sending, t.lif.queue)) =
      some (some (answer 0), [answer 1]) ∧
    after (exec (.postSendEnd (levels [false, false])) (transmitting (answer 9) 0)) (fun t =>
      t.lif.queue) = some [answer 9, answer 0, answer 1] ∧
    after (exec (.postSendEnd (levels [false, false, false])) ((queued 8).withLif { (queued 8).lif with
        sending := some claim80 })) (fun t => (t.lif.queue.map TxPost.isClaim, t.nu.counters[6])) =
      some (true :: List.replicate 7 false, ⟨1, false⟩) ∧
    after (exec (.postSendEnd []) (transmitting (answer 9) 7)) (fun t =>
      (t.lif.silentEnd, t.lif.removed, t.lif.queue)) = some (some 262144, 2, []) ∧
    after (exec .silentEnd silenced) (fun t => (t.now, t.lif.queue)) =
      some (262144, [⟨2, 6, 1, .notice (.lineTrouble 3)⟩]) := by decide +kernel

theorem test_post_sent :
    after (exec (.postSendEnd (acknowledged claim80)) busy) (fun t =>
      (t.lif.sending, t.nu.counters[0], t.bu.acked.map Prod.fst)) =
      some (none, ⟨1, false⟩, some 80) := by decide +kernel

/-! ### Witnesses: requests -/

theorem witness_RequestIsRefusedServedOrWaits :
    (requestOf (.ident ⟨3, 0, 7⟩) = some ⟨⟨3, 0, 7⟩, .ident⟩ ∧
      on.settings.clientMask.getLsbD 3 = false) ∧
    (requestOf (.motorCheck ⟨1, 0, 7⟩) = some ⟨⟨1, 0, 7⟩, .motorCheck⟩ ∧
      dozing.settings.clientMask.getLsbD 1 = true ∧ dozing.ps.state = .doze ∧
      Kind.motorCheck.servedInDoze = false) ∧
    Heard on client .ident ∧
    ((waiting 3).lif.inbox = ⟨{ client with tag := 0 }, .saveInfo 0⟩ ::
        [⟨{ client with tag := 1 }, .saveInfo 0⟩, ⟨{ client with tag := 2 }, .saveInfo 0⟩] ∧
      (waiting 3).ss.copying = true ∧ 2 < 3 ∧
      ((waiting 4).lif.inbox.drop 1).length = 3) := by
  refine ⟨by decide +kernel, by decide +kernel, heard (by decide +kernel), by decide +kernel⟩

theorem witness_RequestIsRefusedServedOrWaits_empty :
    requestOf (.saveErase client 1) = some ⟨client, .saveErase 1⟩ ∧
    (waiting 0).ps.state = .active ∧ (waiting 0).settings.clientMask.getLsbD 1 = true ∧
    (waiting 0).lif.inbox = [] ∧ Kind.saveErase.owner = .saveStore ∧
    (waiting 0).ss.copying = true := by decide +kernel

theorem test_save_request_waits_for_the_copy :
    after (exec (.saveErase client 1) (waiting 0)) (fun t => (t.lif.inbox, t.lif.queue)) =
      some ([⟨client, .saveErase 1⟩], []) ∧
    after (exec (.clockAccept client) (waiting 1)) (fun t => t.lif.inbox.length) = some 2 := by
  decide +kernel

/-- In DOZE a request at priority 0 of a kind served there is heard (R184). -/
theorem witness_heard_in_doze : Heard dozing ⟨1, 0, 7⟩ .clockRead :=
  ⟨.inr ⟨rfl, rfl, rfl⟩, rfl, by decide +kernel, fun h => absurd h (by decide)⟩

/-- An inbox with a CLOCK_READ, a SAVE_INFO and an IDENT waiting. -/
def inboxOfThree (s : State) : State :=
  s.withLif { s.lif with inbox := [⟨{ client with tag := 1 }, .clockRead⟩,
    ⟨{ client with tag := 2 }, .saveInfo 0⟩, ⟨{ client with tag := 3 }, .ident⟩] }

theorem witness_RequestIsRefusedServedOrWaits_handOn :
    on.lif.inbox = [] ∧
    ((inboxOfThree (waiting 0)).lif.inbox.map fun e => e.request.kind.owner) =
      [.calendar, .saveStore, .powerSupervisor] ∧
    ((waiting 0).ss.write.map WriteStream.condition = some .copying ∧ on.ss.write = none) ∧
    Kind.saveInfo.owner = .saveStore ∧ Kind.clockRead.owner ≠ .saveStore := by decide +kernel

/-- The inbox is handed on from its head and stops at the first request that must wait (R185). -/
theorem test_hand_on :
    ((drainInbox (inboxOfThree on)).lif.inbox = [] ∧
      (drainInbox (inboxOfThree on)).lif.queue.length = 3) ∧
    ((drainInbox (inboxOfThree (waiting 0))).lif.inbox.map (fun e => e.ask.tag) = [2, 3] ∧
      (drainInbox (inboxOfThree (waiting 0))).lif.queue.length = 1) := by
  decide +kernel

theorem witness_ReadingAndNoticeRequestsAct :
    Heard on client .ident ∧ Heard on client .clockRead ∧ Heard on client .saveInfo ∧ 7 < 8 ∧
    Heard on client .appointList ∧ Heard on client .noticeEnable ∧ 4095 ≤ 4095 ∧ 4095 < 4096 ∧
    Heard on client .noticeRead ∧ Heard on client .statsRead ∧ 1 < 2 := by
  have h : ∀ k, Heard on client k := fun k => heard (by decide +kernel)
  exact ⟨h _, h _, h _, by decide, h _, h _, by decide, by decide, h _, h _, by decide⟩

theorem test_reading_requests :
    after (exec (.saveInfo client 0) busy) (fun t => t.lif.inbox.length) = some 0 ∧
    after (exec (.appointList client 0) { busy with lif := on.lif }) (fun t => t.lif.queue) =
      some [⟨2, 6, 1, .reply .appointList 7 .done
        (.appointments 1 [⟨3, 762406201, .daily, some 0⟩])⟩] ∧
    after (exec (.noticeEnable client 4096) on) (fun t => t.lif.queue) =
      some [⟨2, 6, 1, .reply .noticeEnable 7 .badArg .none⟩] ∧
    after (exec (.statsRead client 1) (count .clips on)) (fun t => t.nu.counters[12]) =
      some ⟨0, false⟩ := by decide +kernel

/-! ### Witnesses: the Calendar -/

/-- The worked rewind (section 2.4) before the set. -/
def dated : State :=
  { on with cal := { calendarStart 36 5 with
      running := true, time := 762579000, mark := 762579000, lastDay := some 8826
      appointments := [⟨3, 762579001, .daily, none⟩] } }

/-- The same with a number of crystal counts of the present second gone by. -/
def ticking (n : Nat) : State := { dated with cal := { dated.cal with prescaler := n } }

theorem witness_GameDayIsTheFloorAndInRange :
    (dated.cal.running = true ∧ dated.serving = true) ∧ on.cal.running = false ∧
    3155759999 ≤ 3155759999 ∧ (calendarStart (-48) 23).zone = -48 ∧
    (calendarStart 56 0).hour = 0 := by decide +kernel

theorem witness_ClockAcceptEndsTheRewind :
    Heard on client .clockAccept ∧ on.cal.running = false ∧ Heard dated client .clockAccept ∧
    dated.cal.running = true ∧ CalendarSound dated.cal ∧ dated.cal.rewound = false :=
  ⟨heard (by decide +kernel), rfl, heard (by decide +kernel), rfl,
    by unfold CalendarSound; decide +kernel, rfl⟩

theorem witness_ClockSetAndTrimAct :
    Heard on client .clockSet ∧ Heard on client .clockTrim ∧ 3155759999 ≤ 3155759999 ∧
    (-48 ≤ (-48 : Int) ∧ (56 : Int) ≤ 56) ∧ 23 ≤ 23 ∧ 3155759999 < 3155760000 ∧
    (56 < (57 : Int)) ∧ 23 < 24 :=
  ⟨heard (by decide +kernel), heard (by decide +kernel), by decide, by decide, by decide, by decide,
    by decide, by decide⟩

theorem test_clock_set :
    after (exec (.clockSet client 762406200 none none) dated) (fun t =>
      (t.cal.mark, t.cal.rewound, t.cal.rewind, t.cal.lastDay)) =
      some (762579000, true, 172800, some 8824) ∧
    after (exec (.clockTrim client (-128)) dated) (fun t => (t.cal.trimRequested, t.cal.trimUse)) =
      some (-127, 0) ∧
    after (exec (.clockSet client 762579001 none none) dated) (fun t =>
      (t.cal.appointments.map Appointment.due, t.nu.pendingFlags.getLsbD 2)) =
      some ([762665401], true) ∧
    after (exec (.clockSet client 762406200 none none) (ticking 32767)) (fun t =>
      after (exec .secondStep t) fun u => u.cal.time) = some (some 762406200) := by decide +kernel

theorem test_clock_accept :
    after (exec (.clockAccept client) busy) (fun t => t.lif.inbox.length) = some 0 ∧
    after (exec (.clockAccept client) { busy with lif := on.lif }) (fun t =>
      (t.cal.mark, t.cal.rewound, t.cal.rewind)) = some (762406200, false, 0) := by decide +kernel

theorem witness_AppointSetChecksInOrder : Heard dated client .appointSet := heard (by decide +kernel)

theorem test_appoint_set :
    after (exec (.appointSet client 9 762579000 1 none) dated) (fun t =>
      t.cal.appointments.map Appointment.tag) = some [9, 3] ∧
    after (exec (.appointSet client 9 762579000 1 (some 0)) dated) (fun t => t.lif.queue) =
      some [⟨2, 6, 1, .reply .appointSet 7 .empty .none⟩] := by decide +kernel

theorem witness_AppointClearRemovesEntries :
    Heard dated client .appointClear ∧ 3 < 255 ∧ (∃ e ∈ dated.cal.appointments, e.tag = 3) ∧
    254 < 255 ∧ (∀ e ∈ dated.cal.appointments, e.tag ≠ 254) ∧ CalendarSound on.cal ∧
    on.cal.running = false :=
  ⟨heard (by decide +kernel), by decide, by decide +kernel, by decide, by decide +kernel,
    by unfold CalendarSound; decide +kernel, rfl⟩

theorem witness_SecondStepCountsAndChecks :
    ((ticking 32767).cal.running = true ∧ (ticking 32767).cal.ended = false ∧
      (ticking 32767).cal.time % 60 ≠ 59 ∧ (32768 : Int) ≤ (ticking 32767).cal.prescaler + 1 ∧
      ¬ ((32768 : Int) ≤ (ticking 32766).cal.prescaler + 1)) ∧
    (let c : Calendar := { dated.cal with time := 762579059, mark := 762579059, trimUse := 5 }
     c.time % 60 = 59 ∧ (32768 : Int) + c.trimUse ≤ (32772 : Nat) + 1 ∧
      ¬ ((32768 : Int) + c.trimUse ≤ (32771 : Nat) + 1)) ∧
    (dated.ps.state = .active ∧ dated.cal.lastDay = some (dated.cal.gameDay 762579001)) ∧
    (({ dated.cal with time := 762551999, lastDay := some 8825 } : Calendar).gameDay 762552000 = 8826) ∧
    ({ dated with ps := starting.ps } : State).ps.state = .starting ∧ on.cal.running = false ∧
    ({ dated.cal with time := 3155759999, mark := 3155759999, ended := true } : Calendar).ended =
      true := by decide +kernel

theorem test_second_step :
    after (exec .secondStep (ticking 32767)) (fun t => (t.cal.time, t.cal.mark,
      t.cal.appointments.map Appointment.due)) = some (762579001, 762579001, [762665401]) ∧
    after (exec .secondStep (ticking 32766)) (fun t => (t.cal.time, t.cal.prescaler)) =
      some (762579000, 32766) ∧
    after (exec .secondStep { dated with cal := { dated.cal with
        time := 762551999, lastDay := some 8825, appointments := [], prescaler := 32772
        trimUse := 5, trimRequested := -7 } }) (fun t => (t.cal.trimUse, t.lif.queue)) =
      some (-7, [⟨2, 6, 1, .notice (.dayTurn 8826 ⟨2024, 3, 1⟩ 5)⟩]) := by decide +kernel

/-- Left to itself the part makes its second steps by its own crystal counts (log 3). -/
theorem test_idle_second :
    after (step { ticking 32767 with crystal := 31 }) (fun t => (t.cal.time, t.cal.prescaler)) =
      some (762579001, 0) ∧
    after (step { ticking 32766 with crystal := 31 }) (fun t => (t.cal.time, t.cal.prescaler)) =
      some (762579000, 32767) := by decide +kernel

theorem witness_AppointmentCheckFiresEachDueEntryOnce :
    AppointmentsSound { dated with cal := { dated.cal with time := 762579001 } } ∧
    dated.cal.running = true ∧ dated.ps.state = .active := by
  refine ⟨⟨by decide +kernel, List.pairwise_singleton _ _, by decide +kernel, ?_⟩, rfl, rfl⟩
  intro e he
  obtain rfl : e = ⟨3, 762579001, .daily, none⟩ := by simpa [dated] using he
  exact ⟨by decide +kernel, by decide +kernel, by rintro k ⟨⟩⟩

/-! ### Witnesses: the Save Store -/

/-- The store of the worked sequence (section 1.8), with an open read stream of slot 2 where asked and
a write stream. -/
def stored (read : Option ReadStream) (write : Option WriteStream) : State :=
  let staged := (write.map WriteStream.staged).getD []
  let own (p : Nat) : PageEntry :=
    { mark := if let some (i, _) := staged.find? fun q => q.2 == p then .staged i
        else if p ≤ 4 then .live 0 p else if p = 5 then .live 2 0 else if p = 6 then .live 2 1
        else if p = 9 then .live 2 2 else if p = 8 then .live 1 0 else .free
      check := 0 }
  let slot (size commits : Nat) (pages : List Nat) : Slot :=
    { state := .live, size := size, pages := pages, stamp := none, day := none, commits := commits }
  { on with
    ss := { storeStart with
      owner := Vector.ofFn fun i : Fin 128 => own i.val
      slots := #v[slot 1280 3 [0, 1, 2, 3, 4], slot 100 1 [8], slot 700 11 [5, 6, 9], emptySlot,
        emptySlot, emptySlot, emptySlot, emptySlot]
      read := read, write := write }
    cal := { calendarStart 36 5 with running := true, time := 762548400, mark := 762548400 } }

/-- The read of the worked sequence after `n` posts. -/
def reading (n : Nat) (verified : List Nat) : ReadStream :=
  { slot := 2, reader := 1, snapshot := [5, 6, 9], next := 30 * n, left := 700 - 30 * n
    toggle := n % 2, verified := verified, damaged := false }

/-- The patch of the worked sequence: bytes 500..539, `n` received, its staged pages given. -/
def patching (n : Nat) (staged : List (Nat × Nat)) : WriteStream :=
  { slot := 2, owner := 1, patch := true, offset := 500, total := 40, received := n, toggle := 0
    needed := 2, staged := staged, condition := .opened, lastActivity := 0, held := []
    postBytes := 0 }

/-- A REPLACE of slot 1 with 600 bytes, `n` received. -/
def replacing (n : Nat) (staged : List (Nat × Nat)) : WriteStream :=
  { slot := 1, owner := 1, patch := false, offset := 0, total := 600, received := n, toggle := 0
    needed := 3, staged := staged, condition := .opened, lastActivity := 0, held := []
    postBytes := 0 }

theorem witness_SaveOpenChecksInOrderAndOpens :
    Heard (stored none none) client .saveOpen ∧ Heard (stored (some (reading 4 [5])) none) client .saveOpen :=
  ⟨heard (by decide +kernel), heard (by decide +kernel)⟩

theorem test_save_open :
    after (exec (.saveOpen client 2 (.patch 500 40)) (stored (some (reading 4 [5])) none)) (fun t =>
      (t.ss.write.map WriteStream.needed, t.lif.queue)) = some (some 2,
        [⟨2, 6, 1, .reply .saveOpen 7 .done (.opened 2 true)⟩]) ∧
    after (exec (.saveOpen client 0 (.replace 8193)) (stored none none)) (fun t => t.lif.queue) =
      some [⟨2, 6, 1, .reply .saveOpen 7 .badArg .none⟩] := by decide +kernel

theorem witness_SaveDataIsTakenByTheRules :
    Heard (stored none (some (replacing 0 []))) ⟨1, 2, 0⟩ .saveData ∧
    Heard (stored none none) ⟨1, 2, 0⟩ .saveData ∧
    (1 ≠ (0 : Nat) ∧ 1 ≤ 1 ∧ 30 ≤ 30 ∧ ¬ (1 ≤ 0) ∧ ¬ (31 ≤ 30) ∧ 600 < 571 + 30 ∧ 570 + 30 ≤ 600) ∧
    ({ replacing 0 [] with condition := .broken } : WriteStream).condition = .broken :=
  ⟨heard (by decide +kernel), heard (by decide +kernel), by decide, rfl⟩

/-- A patch of slot 2 from byte 690 on with 60 bytes in: the next post runs into position 3, beyond
the slot's page list. -/
def extending : WriteStream :=
  { patching 60 [(2, 7)] with offset := 690, total := 100, postBytes := 30 }

/-- The store with every FREE page but the `n` lowest taken. -/
def scarce (n : Nat) (w : WriteStream) : State :=
  let s := stored none (some w)
  s.withSs (s.ss.markAll .pinned (((List.range 128).filter fun p => (s.ss.page p).mark == .free).drop n))

/-- As many FREE pages as the post needs are enough: one page for a post that runs into the next
position, none for a post that stays in its staged page. -/
theorem witness_SaveDataBytesLand_scarce :
    (let w : WriteStream := { replacing 240 [(0, 7)] with postBytes := 30 }
     (scarce 1 w).ss.write = some w ∧ (∀ q ∈ w.staged, ((scarce 1 w).ss.page q.2).mark = .staged q.1) ∧
      ((List.range' (240 / 256) ((240 + 30 - 1) / 256 + 1 - 240 / 256)).filter fun pos =>
        (w.pageAt pos).isNone).length = 1 ∧
      ((List.range 128).filter fun p => ((scarce 1 w).ss.page p).mark == .free).length = 1) ∧
    (let w : WriteStream := { replacing 200 [(0, 7)] with postBytes := 30 }
     ((List.range' (200 / 256) ((200 + 30 - 1) / 256 + 1 - 200 / 256)).filter fun pos =>
        (w.pageAt pos).isNone).length = 0 ∧
      ((List.range 128).filter fun p => ((scarce 0 w).ss.page p).mark == .free).length = 0) := by
  decide +kernel

theorem witness_SaveDataBytesLand :
    (let w : WriteStream := { replacing 240 [(0, 7)] with postBytes := 30 }
     let s := stored none (some w)
     s.ss.write = some w ∧ Memory.wf s.ss.ram = true ∧
      (∀ q ∈ w.staged, (s.ss.page q.2).mark = .staged q.1) ∧ w.patch = false ∧
      ((List.range' (240 / 256) ((240 + 30 - 1) / 256 + 1 - 240 / 256)).filter fun pos =>
        (w.pageAt pos).isNone).length ≤
        ((List.range 128).filter fun p => (s.ss.page p).mark == .free).length) ∧
    (List.replicate 30 (0x41 : Byte)).length = 30 ∧
    (let s := stored none (some extending)
     s.ss.write = some extending ∧ (∀ q ∈ extending.staged, (s.ss.page q.2).mark = .staged q.1) ∧
      extending.patch = true ∧ List.range' (750 / 256) ((750 + 30 - 1) / 256 + 1 - 750 / 256) = [2, 3] ∧
      (extending.pageAt 2).isSome = true ∧ (s.ss.slot extending.slot).pages.length ≤ 3 ∧
      ([2, 3].filter fun pos => (extending.pageAt pos).isNone).length ≤
        ((List.range 128).filter fun p => (s.ss.page p).mark == .free).length) := by
  decide +kernel

theorem test_last_free_page :
    after (exec (.saveData 1 2 0 (List.replicate 30 0x41)) (scarce 1 (replacing 240 [(0, 7)])))
      (fun t => ((t.ss.page 10).mark, Memory.read t.ss.ram (256 * 10 + 13), t.ss.lowestFree)) =
      some (.staged 1, 0x41, none) := by decide +kernel

theorem test_save_data :
    after (exec (.saveData 1 2 0 (List.replicate 30 0x41))
      (stored none (some (replacing 240 [(0, 7)])))) (fun t =>
        (Memory.read t.ss.ram (256 * 7 + 255), Memory.read t.ss.ram (256 * 10 + 13),
          (t.ss.page 10).mark, t.ss.write.map WriteStream.received)) =
      some (0x41, 0x41, .staged 1, some 270) ∧
    after (exec (.saveData 1 2 1 [0x41]) (stored none (some (replacing 240 [(0, 7)]))))
      (fun t => (t.nu.counters[14], t.ss.ram)) = some (⟨1, false⟩, []) ∧
    after (exec (.saveData 1 2 0 (List.replicate 30 0x41))
      (stored none (some { extending with postBytes := 0 }))) (fun t =>
        (Memory.read t.ss.ram (256 * 7 + 255), Memory.read t.ss.ram (256 * 10 + 11),
          Memory.read t.ss.ram (256 * 10 + 12), (t.ss.page 10).mark)) =
      some (0x41, 0x41, 0xFF, .staged 3) := by decide +kernel

/-- The store with page 6's check `d` above the CRC-16 of its bytes. -/
def checked (d : BitVec 16) : State :=
  { stored none none with ss := { (stored none none).ss with
      owner := (stored none none).ss.owner.set 6 ⟨.live 2 1, crcBytes (pageContent [] 6) + d⟩ } }

theorem checked_agrees : (checked 0).ss.checkAgrees 6 = true := by
  simp [SaveStore.checkAgrees, SaveStore.page, checked, getAt, pageCrc, stored, on, State.reset, storeStart]

theorem checked_disagrees : (checked 1).ss.checkAgrees 6 = false := by
  simp [SaveStore.checkAgrees, SaveStore.page, checked, getAt, pageCrc, stored, on, State.reset, storeStart]

theorem witness_PagesAreCopied :
    (let w : WriteStream := { patching 0 [(1, 7)] with postBytes := 30 }
     let s := stored none (some w)
     s.ss.write = some w ∧ w.patch = true ∧ Memory.wf s.ss.ram = true ∧
      (List.replicate 12 (0x41 : Byte)).length + 1 + (List.replicate 17 (0x41 : Byte)).length ≤ 30 ∧
      (∀ i < 12, (w.pageAt ((500 + i) / 256)).isSome = true) ∧
      w.pageAt ((500 + 12) / 256) = none ∧ (500 + 12) / 256 < (s.ss.slot 2).pages.length ∧
      (s.ss.page 10).mark = .free ∧ ∀ q < 10, (s.ss.page q).mark ≠ .free) ∧
    ((patching 0 []).pageAt ((500 + 0) / 256) = none ∧ ([] : List Byte).length = 0) ∧
    ((patching 0 [(1, 7)]).staged = [] ++ [(1, 7)] ∧
      ((stored none none).ss.slot 2).pages[1]? = some 6 ∧ Memory.wf (checked 0).ss.ram = true) ∧
    (checked 0).ss.checkAgrees 6 = true ∧ (checked 1).ss.checkAgrees 6 = false ∧
    (stored none none).ss.write = none ∧ (replacing 0 []).condition ≠ .copying := by
  refine ⟨by decide +kernel, by decide +kernel, by decide +kernel, checked_agrees, checked_disagrees,
    rfl, by decide +kernel⟩

/-- A SAVE_DATA that begins a copy makes the request behind it wait (R12, R185). -/
theorem test_hand_on_stops_at_a_new_copy :
    (let s := stored none (some (patching 0 []))
     let t := drainInbox (s.withLif { s.lif with inbox :=
       [⟨⟨1, 2, 0⟩, .saveData 0 (List.replicate 30 0x41)⟩, ⟨client, .saveInfo 0⟩] })
     t.lif.inbox = [⟨client, .saveInfo 0⟩] ∧ t.ss.copying = true) := by decide +kernel

theorem test_page_copy :
    after (exec (.saveData 1 2 0 (List.replicate 30 0x41)) (stored none (some (patching 0 []))))
      (fun t => (t.ss.write.map WriteStream.condition, (t.ss.page 7).mark)) =
      some (some .copying, .staged 1) ∧
    after (exec (.saveData 1 2 0 (List.replicate 30 0x41)) (stored none (some (patching 0 [(1, 7)]))))
      (fun t => (t.ss.write.map fun w => (w.condition, w.held.length), (t.ss.page 10).mark,
        Memory.read t.ss.ram (256 * 7 + 255))) =
      some (some (.copying, 18), .staged 2, 0x41) ∧
    after (exec .pageCopyComplete (stored none none)) (fun t => t.ss.slots.toList.length) = some 8 := by
  decide +kernel

theorem witness_SaveCloseChecksInOrder :
    Heard (stored none (some (patching 40 [(1, 7), (2, 10)]))) client .saveClose ∧ 1 < 2 ∧
    (stored none none).ss.write = none := ⟨heard (by decide +kernel), by decide, rfl⟩

/-- The worked commit (section 1.8, step 6). -/
theorem test_save_close :
    after (exec (.saveClose client 40 0)
      (stored (some (reading 8 [5])) (some (patching 40 [(1, 7), (2, 10)])))) (fun t =>
        ((t.ss.slot 2).pages, (t.ss.slot 2).size, (t.ss.page 6).mark, t.lif.queue)) =
      some ([5, 7, 10], 700, .pinned,
        [⟨2, 6, 1, .reply .saveClose 7 .done (.committed (some 762548400) (some 8825) 12)⟩]) ∧
    after (exec (.saveClose client 39 0)
      (stored none (some (patching 40 [(1, 7), (2, 10)])))) (fun t =>
        (t.ss.write.isSome, t.lif.queue)) =
      some (false, [⟨2, 6, 1, .reply .saveClose 7 .countMismatch .none⟩]) := by decide +kernel

theorem witness_CommitMakesTheStagedPagesLive :
    (let w := patching 40 [(1, 7), (2, 10)]
     w.slot < 8 ∧ (∀ q ∈ w.staged, q.2 < 128) ∧ (w.staged.map Prod.snd).Nodup ∧
      (∀ p ∈ ((stored none none).ss.slot w.slot).pages, p < 128) ∧
      (∀ q ∈ w.staged, q.2 ∉ ((stored none none).ss.slot w.slot).pages) ∧
      w.staged.map Prod.fst = List.range' 1 w.staged.length ∧
      1 ≤ ((stored none none).ss.slot w.slot).pages.length ∧
      Memory.wf (stored none none).ss.ram = true) ∧
    (let w := replacing 600 [(0, 7), (1, 10), (2, 11)]
     (∀ q ∈ w.staged, q.2 ∉ ((stored none none).ss.slot w.slot).pages) ∧
      w.staged = [(0, 7), (1, 10)] ++ [(2, 11)] ∧ w.total % 256 ≠ 0 ∧
      ({ w with total := 512 } : WriteStream).total % 256 = 0) := by decide +kernel

theorem witness_SaveReadChecksInOrderAndOpens : Heard (stored none none) client .saveRead :=
  heard (by decide +kernel)

theorem test_save_read :
    after (exec (.saveRead client 2 0 8192) (stored none none)) (fun t =>
      (t.ss.read.map ReadStream.snapshot, t.lif.queue)) =
      some (some [5, 6, 9], [⟨2, 6, 1, .reply .saveRead 7 .done (.reading 700)⟩]) ∧
    after (exec (.saveRead client 2 700 1) (stored none none)) (fun t => t.lif.queue) =
      some [⟨2, 6, 1, .reply .saveRead 7 .badArg .none⟩] := by decide +kernel

theorem witness_SaveEraseEmptiesTheSlot :
    Heard (stored none (some (patching 0 []))) client .saveErase ∧
    (stored none (some (patching 0 []))).ss.write = some (patching 0 []) ∧ (patching 0 []).slot = 2 ∧
    (stored none none).guard.asserted = false ∧ ((stored none none).ss.slot 3).state = .empty ∧
    ((stored none none).ss.slot 0).state ≠ .empty :=
  ⟨heard (by decide +kernel), rfl, rfl, rfl, by decide +kernel, by decide +kernel⟩

theorem test_save_erase :
    after (exec (.saveErase client 2) (stored (some (reading 8 [5])) none)) (fun t =>
      ((t.ss.slot 2).state, (t.ss.page 5).mark)) = some (.empty, .pinned) ∧
    after (exec (.saveErase client 2) (stored none (some (patching 0 [])))) (fun t => t.lif.queue) =
      some [⟨2, 6, 1, .reply .saveErase 7 .busy .none⟩] := by decide +kernel

theorem witness_ReadDataIsVerifiedAndHandedFromTheSnapshot :
    (stored none none).ss.read = none ∧
    ((stored (some (reading 8 [5])) none).ss.read = some (reading 8 [5]) ∧
      (queued 5).lif.queue.length ≤ 5 ∧ 5 < (queued 6).lif.queue.length) ∧
    (({ reading 8 [5] with damaged := true } : ReadStream).damaged = true) ∧
    ((reading 8 [5]).next / 256 ≤ 1 ∧ 1 ≤ ((reading 8 [5]).next + 30 - 1) / 256 ∧
      (reading 8 [5]).snapshot.getD 1 0 ∉ (reading 8 [5]).verified ∧
      ∀ j < 1, (reading 8 [5]).snapshot.getD j 0 ∈ (reading 8 [5]).verified) ∧
    (30 < (reading 22 [9]).left ∧ (reading 23 [9]).left ≤ 30 ∧
      ((reading 23 [9]).next + 10 - 1) / 256 = 2) ∧
    (((stored none none).ss.page 6).mark = .live 2 1 ∧
      (((stored none none).ss.withMark 6 .pinned).page 6).mark ≠ .live 2 1) ∧
    ((checked 0).ss.page 6).check = crcBytes (pageContent [] 6) ∧
    ((checked 1).ss.page 6).check ≠ crcBytes (pageContent [] 6) := by
  refine ⟨by decide +kernel, by decide +kernel, by decide +kernel, by decide +kernel,
    by decide +kernel, by decide +kernel, ?_, ?_⟩ <;>
  simp [SaveStore.page, checked, getAt, stored, on, State.reset, storeStart]

/-- READ_PAGE_VERIFY_COMPLETE with nothing to verify: no stream, a damaged one, and one whose next
READ_DATA needs pages at one position, at two and, at the end, at the last, all verified. -/
theorem witness_ReadDataIsVerifiedAndHandedFromTheSnapshot_idle :
    (stored none none).ss.read = none ∧
    ((stored (some { reading 8 [5] with damaged := true }) none).ss.read =
      some { reading 8 [5] with damaged := true }) ∧
    ((reading 0 [5]).next = 0 ∧ (0 + min 30 (reading 0 [5]).left - 1) / 256 = 0 ∧
      (reading 0 [5]).snapshot.getD 0 0 ∈ (reading 0 [5]).verified) ∧
    ((reading 8 [5, 6]).next / 256 = 0 ∧ (240 + min 30 (reading 8 [5, 6]).left - 1) / 256 = 1 ∧
      (reading 8 [5, 6]).snapshot.getD 0 0 ∈ (reading 8 [5, 6]).verified ∧
      (reading 8 [5, 6]).snapshot.getD 1 0 ∈ (reading 8 [5, 6]).verified) ∧
    ((reading 23 [9]).next / 256 = 2 ∧ (690 + min 30 (reading 23 [9]).left - 1) / 256 = 2 ∧
      (reading 23 [9]).snapshot.getD 2 0 ∈ (reading 23 [9]).verified) := by decide +kernel

theorem test_read_data :
    after (exec .readDataHandover (stored (some (reading 23 [5, 6, 9])) none)) (fun t =>
      (t.ss.read, t.lif.queue)) = some (none,
        [⟨3, 6, 1, .readData 1 true false (List.replicate 10 0xFF)⟩]) ∧
    after (exec .readDataHandover (stored (some (reading 8 [5])) none)) (fun t =>
      t.ss.read) = some (some (reading 8 [5])) := by decide +kernel

theorem witness_IdleTimeoutEndsTheStream :
    (stored none none).ss.write = none ∧
    (stored none (some (replacing 0 []))).ss.write = some (replacing 0 []) ∧
    (replacing 0 []).condition = .opened ∧
    ({ replacing 0 [] with condition := .broken } : WriteStream).condition = .broken ∧
    ((waiting 0).ss.write.map WriteStream.condition) = some .copying := by decide +kernel

theorem test_idle_timeout :
    after (exec .streamIdleTimeout (stored none (some (replacing 240 [(0, 7)])))) (fun t =>
      (t.ss.write.isSome, t.now, t.lif.queue)) =
      some (false, 2097152, [⟨2, 6, 1, .notice (.streamLost 1 .timeout 240)⟩]) := by decide +kernel

/-! ### Witnesses: starts and power modes -/

theorem witness_SettingsAreAlwaysInRange :
    4 ≠ 2 ∧ byteAt [] 0 ≠ 0x4E ∧ byteAt [0x4E] 1 ≠ 0x43 ∧ byteAt [0x4E, 0x43] 2 ≠ 1 ∧
    halfAt [0x4E, 0x43, 1] 62 ≠ ((List.range 62).map (byteAt [0x4E, 0x43, 1])).sum % 65536 := by
  decide +kernel

/-- A valid record whose fields are all 0 but for P, 20000, and the client mask, stations 1 and 4. -/
def settingsRecord : List Byte :=
  [0x4E, 0x43, 1, 0, 0, 0, 0, 0x12, 0, 0x4E, 0x20] ++ List.replicate 51 0 ++ [0x01, 0x12]

theorem witness_SettingsAreAlwaysInRange_valid :
    settingsRecord.length = 64 ∧ byteAt settingsRecord 0 = 0x4E ∧ byteAt settingsRecord 1 = 0x43 ∧
    byteAt settingsRecord 2 = 1 ∧
    halfAt settingsRecord 62 = ((List.range 62).map (byteAt settingsRecord)).sum % 65536 := by
  decide +kernel

/-- Fields in range are taken, fields out of range are at their defaults, N is clamped (R201, R204). -/
theorem test_settings_record :
    (let st := settingsOf 6 settingsRecord
     [st.beatStation, st.powerStation, st.clientMask.toNat, st.ticks, st.period, st.iCore, st.a0] =
      [0, 0, 0x12, 1, 20000, 6, 0]) ∧
    (let st := settingsOf 6 settingsRecord
     [st.hTrip, st.hClear, st.guardDuty, st.dirOffset, st.dirCount, st.hour, st.idleUnits] =
      [60000, 0, 0, 64, 256, 0, 20]) := by decide +kernel

/-- A warm start before its settings read ends: page 7 was staged and page 6 pinned. -/
def warming : State :=
  { stored none none with
    ps := { starting.ps with startKind := .warm, keepIntact := true }
    pfu := starting.pfu
    ss := ((stored none none).ss.withMark 7 (.staged 1)).withMark 10 .pinned }

theorem witness_SettingsReadCompletes :
    starting.ps.state = .starting ∧
    starting.pfu.port = some { job := .settings, address := 0, bytes := 64 } ∧
    starting.ps.startKind = .cold ∧ warming.ps.state = .starting ∧ warming.ps.startKind = .warm ∧
    warming.pfu.port = some { job := .settings, address := 0, bytes := 64 } ∧
    on.ps.state ≠ .starting ∧ (starting.withPfu { starting.pfu with port := none }).pfu.port = none := by
  decide +kernel

theorem test_settings_read :
    after (exec (.settingsReadComplete []) starting) (fun t =>
      (t.ps.state, t.ps.keepIntact, t.bu.announced, t.btg.tickCounter)) =
      some (.active, true, some 6, 1) ∧
    after (exec (.settingsReadComplete []) { warming with
        ss := (storeStart.withMark 7 (.staged 1)).withMark 10 .pinned }) (fun t =>
      (t.ps.state, t.ss.scrub, (t.ss.page 7).mark)) = some (.starting, some 2, .free) := by
  decide +kernel

/-- A warm start in its scrub, one slot's list not backed by its pages' marks. -/
def scrubbing : State :=
  { warming with ss := { (stored none none).ss with
      scrub := some 2, owner := (stored none none).ss.owner.set 6 freePage } }

theorem witness_ScrubLeavesTheStoreInAgreement :
    scrubbing.ps.state = .starting ∧ scrubbing.ss.scrub = some 2 ∧
    (∀ k < 8, (scrubbing.ss.slot k).state = .empty → scrubbing.ss.slot k = emptySlot) ∧
    (∀ p < 128, (scrubbing.ss.page p).mark.leftover = false) := by decide +kernel

/-- The same with a slot that cannot be rebuilt, and an appointment linked to it. -/
def scrubbingMore : State :=
  { scrubbing with
    ss := scrubbing.ss.withSlot 1 { scrubbing.ss.slot 1 with size := 300 }
    cal := { scrubbing.cal with appointments := [⟨3, 3000000000, .daily, some 1⟩] } }

theorem test_scrub :
    after (exec .startScrubComplete scrubbing) (fun t =>
      (t.ps.state, t.ss.scrub, (t.ss.slot 0).state)) = some (.active, none, .live) ∧
    after (exec .startScrubComplete scrubbingMore) (fun t =>
      ((t.ss.slot 1).state, t.cal.appointments.length, (t.ss.page 8).mark)) = some (.empty, 0, .free) ∧
    after (exec .startScrubComplete scrubbingMore) (fun t =>
      ((t.ss.slot 2).state, (t.ss.slot 2).commits, (t.ss.page 6).mark)) =
      some (.damaged, 11, .live 2 1) ∧
    after (exec .startScrubComplete scrubbingMore) (fun t =>
      (t.ps.damaged, t.nu.pendingFlags.getLsbD 11)) = some ([1, 2], true) := by decide +kernel

theorem witness_EntryToActiveClaimsGreetsAndReports :
    starting.ps.state = .starting ∧ starting.lif.queue = [] ∧ starting.bu.raise = none ∧
    starting.nu.mask.getLsbD 0 = true ∧ starting.bu.holding = true ∧
    0 < starting.settings.a0 + starting.settings.a1 := by decide +kernel

/-- A start with a safe allowance of 4 mA under an I_core of 6 mA: the entry to ACTIVE raises no
OVER_ALLOWANCE and hands caps of 0, and the recomputation at the first acknowledged CLAIM raises it with
ENTERED (R149, R157). -/
theorem test_start_raises_no_over_allowance :
    let t := enterActive { starting with bu := { starting.bu with allowance := 4 } }
    (t.lif.queue.map TxPost.priority, t.bu.overFlag, t.se.gCeiling, t.rd.dBudget) =
      ([1, 2, 2], false, 0, 0) ∧
    t.lif.queue.all (fun p => p.body != .notice (.overAllowance true 4 0 4)) = true ∧
    (claimAcked 6 t).bu.overFlag = true ∧
    (claimAcked 6 t).lif.queue.any (fun p => p.body == .notice (.overAllowance true 4 0 4)) = true := by
  decide +kernel

theorem witness_PowerModeIsKeptOrDropped :
    dozing.ps.state = .doze ∧ on.ps.state = .active ∧ starting.ps.state = .starting ∧
    on.settings.powerStation = 2 ∧ on.lif.own = 6 := by decide +kernel

/-- The busy part LOCKED with all its ticks issued, its motor warm. -/
def warm : State :=
  { busy with
    btg := { busy.btg with tracker := .locked, timerHeld := true, nextIndex := 4 }
    rd := { busy.rd with heat := 100 } }

/-- What the entry to DOZE raises of the busy part: the streams' STREAM_LOST and the rumble play's end at
priority 0, and the least claim; the reply stays (R30, R136, R158). -/
theorem test_doze_raises :
    after (exec (.powerModeDoze 2 15) { warm with
        lif := { warm.lif with queue := [], inbox := [⟨client, .motorCheck⟩] }
        rd := { warm.rd with endNotice := true, requester := 1 } }) (fun t => t.lif.queue) =
      some [⟨0, 6, 1, .notice (.rumbleEnd 0 .pattern (some 0) .power)⟩,
        ⟨0, 6, 1, .notice (.streamLost 1 .power 10)⟩, ⟨1, 6, 15, .claim 6⟩,
        ⟨2, 6, 1, .reply .motorCheck 7 .dozing .none⟩] := by decide +kernel

/-- Voices 0 to 2 with confirmed plays that want their CUE_END, voice 3 owing a lookup reply, all asked by
station 1: the reply is CANCELLED, it raises no CUE_END, and the equal-header CUE_END posts stand in the
voices' order (R113). -/
theorem test_doze_sound :
    let play (n : Nat) : Voice := { voiceStart with
      state := .playing, playNo := n, requester := 1, endNotice := true }
    let s := (((on.withVoice 2 (play 7)).withVoice 1 (play 8)).withVoice 0 (play 9)).withVoice 3
      { play 6 with state := .starting, owed := some ⟨1, 4, 2⟩ }
    (soundDoze s).lif.queue = [⟨2, 6, 1, .notice (.cueEnd 0 9 0 .power)⟩,
      ⟨2, 6, 1, .notice (.cueEnd 1 8 0 .power)⟩, ⟨2, 6, 1, .notice (.cueEnd 2 7 0 .power)⟩,
      ⟨2, 6, 1, .reply .playSound 4 .cancelled .none⟩] ∧
    (soundDoze s).se.voices.toList.all (fun v => v.state == .idle && v.owed == none) = true := by
  decide +kernel

theorem witness_DozeStopsEveryBlock_sound :
    StoreSound warm ∧ warm.btg.tracker = .locked ∧ warm.btg.timerHeld = true ∧
    busy.btg.timerHeld = true ∧ busy.btg.tracker ≠ .locked ∧ 0 < busy.settings.a0 + busy.settings.a1 ∧
    busy.lif.inbox ≠ [] ∧ ({ busy with lif := on.lif } : State).lif.inbox = [] :=
  ⟨witness_StoreSound, rfl, rfl, by decide +kernel, by decide +kernel, by decide +kernel,
    by decide +kernel, rfl⟩

theorem witness_DozeStopsEveryBlock :
    (busy.ps.state = .active ∧ busy.settings.powerStation = 2 ∧ (6 = busy.lif.own ∨ 6 = 15)) ∧
    (dozing.ps.state = .doze ∧ (15 = dozing.lif.own ∨ 15 = 15)) := by decide +kernel

theorem test_power_modes :
    after (exec (.powerModeDoze 2 15) busy) (fun t => (t.ps.state, t.rd.mode, t.bu.announced)) =
      some (.doze, .off, some 6) ∧
    after (exec (.powerModeDoze 2 15) warm) (fun t =>
      (t.rd.heat, t.btg.tracker, t.se.gEff, (t.ss.page 1).mark, (t.ss.page 2).mark)) =
      some (52, .free, 0, .free, .free) ∧
    after (exec (.powerModeOffSoon 2 6) dozing) (fun t => t.ps.orderly) = some true ∧
    after (exec (.powerModeAwake 2 15) dozing) (fun t => t.ps.state) = some .active := by
  decide +kernel

/-! ### Witnesses: beats, ticks and fetches -/

/-- LOCKED at frame 8 with `i` ticks of the interval issued. -/
def locked (i : Nat) : State :=
  on.withBtg { on.btg with
    tracker := .locked, lastCount := some 8, capture := 17600, nextIndex := i, timer := 4389
    timerHeld := decide (4 ≤ i) }

theorem witness_BeatIsDroppedOrTaken :
    dozing.ps.state ≠ .active ∧ (on.ps.state = .active ∧ ([] : List Byte).length ≠ 1) ∧
    (on.settings.beatStation = 1 ∧ (locked 4).btg.lastCount = some (8 : Byte).toNat) ∧
    (8 < 256 ∧ 8 ≠ (9 : Byte).toNat ∧ (locked 2).btg.tracker = .locked ∧
      (locked 2).btg.lastCount = some 8) ∧
    (on.btg.lastCount ≠ some (9 : Byte).toNat ∧ on.btg.tracker = .free) ∧
    ((12 : Byte).toNat + 256 - 8) % 256 = 4 ∧ ((13 : Byte).toNat + 256 - 8) % 256 = 5 := by
  decide +kernel

theorem test_beat :
    after (exec (.beat 1 [9]) (locked 2)) (fun t =>
      (t.btg.period, t.btg.tickCounter, t.btg.nextIndex, t.btg.timer)) =
      some (17567, 3, 1, 4392) ∧
    after (exec (.beat 3 [9]) (locked 2)) (fun t => (t.nu.counters[9], t.btg.capture)) =
      some (⟨1, false⟩, 17600) := by decide +kernel

theorem witness_TimersIssueTicks :
    0 < 1 ∧ on.btg.timerHeld = true ∧ State.reset.ps.state = .keep ∧
    ((locked 3).ps.state ≠ .keep ∧ (locked 3).btg.timerHeld = false ∧
      (locked 3).btg.nextIndex < (locked 3).settings.ticks ∧ (locked 3).btg.tracker = .locked) ∧
    (let s := on.withBtg { on.btg with timerHeld := false, nextIndex := 4 }
     s.btg.timerHeld = false ∧ s.settings.ticks ≤ s.btg.nextIndex ∧ s.btg.tracker = .free) ∧
    on.ps.state = .active ∧ dozing.ps.state = .doze ∧ starting.ps.state = .starting := by
  decide +kernel

theorem test_tick_timers :
    after (exec .tickTimerExpiry (locked 3)) (fun t =>
      (t.btg.timerHeld, t.btg.nextIndex, t.btg.tickCounter, t.now)) = some (true, 4, 1, 4389) ∧
    after (exec .lossTimeout (locked 4)) (fun t =>
      (t.btg.tracker, t.btg.capture, t.now)) = some (.free, 70224, 52624) := by decide +kernel

/-- A directory entry's ten bytes: kind, no loop, peak 200, one step at 65,536. -/
def entryBytes (kind : Byte) : List Byte := [kind, 0, 200, 1, 0, 0, 0, 1, 0, 0]

/-- Player `p`'s record with a transaction of play 3 in flight. -/
def fetching (p : Nat) (job : Job) (r : FetchRec) : State :=
  (on.withFetchRec p r).withPfu { (on.withFetchRec p r).pfu with
    port := some { job := job, address := 64, bytes := 10 } }

/-- A record in LOOKUP, and one OPEN at step 2 of 6 with a loop from 2. -/
def looking : FetchRec := { fetchRecStart with state := .lookup, playNo := 3 }
def playing : FetchRec :=
  { fetchRecStart with
    state := .opened, playNo := 3, entry := some ⟨.sound, 1, 0, 73728, 6, 2⟩, cursor := some (2, 1)
    firstDone := true }

theorem witness_FetchesCompleteAndTheArbiterTurns :
    ((fetching 0 (.directory 0 5 3) looking).pfu.port =
        some { job := .directory 0 5 3, address := 64, bytes := 10 } ∧
      ((fetching 0 (.directory 0 5 3) looking).fetchRec 0).state = .lookup ∧
      ((fetching 4 (.directory 4 5 3) looking).fetchRec 4).playNo = 3 ∧ 4 < 5) ∧
    (patternKind (readEntry (entryBytes 3)).kindByte = none ∧
      patternKind (readEntry (entryBytes 1)).kindByte = some .sound ∧
      patternKind (readEntry (entryBytes 2)).kindByte = some .rumble ∧
      (1 ≤ (readEntry (entryBytes 2)).stepCount ∧ (readEntry (entryBytes 2)).loopStart < 1) ∧
      ¬ (1 ≤ (readEntry [2, 0, 200, 1, 0, 0, 0, 0, 0, 0]).stepCount)) ∧
    looking.waiting = none ∧ looking.buffer = [] ∧ looking.state ≠ .opened ∧
    ((fetching 1 (.steps 1 3 2 4) playing).pfu.port =
        some { job := .steps 1 3 2 4, address := 64, bytes := 10 } ∧
      playing.state = .opened ∧ playing.cursor = some (2, 1) ∧ 2 + 4 = 6) ∧
    on.pfu.port = none ∧
    (on.withFetchRec 0 { looking with waiting := some .directory }).pfu.waits 0 = true ∧
    ((on.withFetchRec 1 { looking with waiting := some .directory }).pfu.waits 0 = false ∧
      (on.withFetchRec 1 { looking with waiting := some .directory }).pfu.waits
        ((on.pfu.lastVoice + 1 + 0) % 4 + 1) = true) := by decide +kernel

theorem witness_FetchesCompleteAndTheArbiterTurns_grant :
    (on.pfu.port = none ∧ ({ on.pfu with settingsWaiting := true } : Fetch).settingsWaiting = true ∧
      on.pfu.settingsWaiting = false) ∧
    ((fetching 1 (.steps 1 3 2 4) playing).pfu.port ≠ none ∧ ∀ q < 5, (on.fetchRec q).waiting = none) ∧
    (nextPlayer (on.withFetchRec 0 { looking with waiting := some .directory }).pfu = some 0 ∧
      nextPlayer (on.withFetchRec 4 { playing with waiting := some .step }).pfu = some 4 ∧
      playing.entry = some ⟨.sound, 1, 0, 73728, 6, 2⟩ ∧ playing.cursor = some (2, 1)) ∧
    (fetching 1 (.steps 1 3 2 4) playing).pfu.port ≠ none ∧ 16777215 < 16777216 ∧
    (let c := (List.range 8).map fun i => (i, (⟨.sound, 0, 0, 65536, 1, 0⟩ : DirEntry))
     c.length ≤ 8 ∧ (c.map Prod.fst).Nodup ∧ 8 ∉ c.map Prod.fst ∧
      (7, (⟨.sound, 0, 0, 65536, 1, 0⟩ : DirEntry)) ∈ c) := by decide +kernel

/-- The cache holds sound pattern 5 and rumble pattern 6. -/
def caching : State :=
  on.withPfu { on.pfu with cache := [(6, ⟨.rumble, 0, 200, 65536, 9, 0⟩), (5, ⟨.sound, 1, 0, 73728, 6, 2⟩)] }

theorem witness_FetchesCompleteAndTheArbiterTurns_other :
    (starting.pfu.port = some { job := .settings, address := 0, bytes := 64 } ∧
      Job.settings ≠ .directory 1 5 3 ∧ Job.settings ≠ .steps 1 3 2 4 ∧
      Job.steps 1 3 2 4 ≠ .directory 1 5 3) ∧
    (cached caching.pfu.cache 5 = some ⟨.sound, 1, 0, 73728, 6, 2⟩ ∧
      cached caching.pfu.cache 6 = some ⟨.rumble, 0, 200, 65536, 9, 0⟩ ∧
      cached caching.pfu.cache 7 = none ∧ caching.pfu.port = none) ∧
    ((fetching 1 (.steps 1 3 2 4) playing).pfu.port.map Transfer.job = some (.steps 1 3 2 4)) ∧
    (((on.withFetchRec 1 playing).fetchRec 1).state = .opened ∧ playing.waiting = none ∧
      playing.cursor ≠ none ∧ playing.buffer.length ≤ 4) ∧
    (playing.buffer = [] ∧ looking.cursor = none ∧ looking.buffer = []) := by decide +kernel

theorem test_play_start :
    ((startPlay 1 5 9 caching).2 = some (.valid ⟨.sound, 1, 0, 73728, 6, 2⟩) ∧
      ((startPlay 1 5 9 caching).1.fetchRec 1).cursor = some (0, 1) ∧
      ((startPlay 1 5 9 caching).1.pfu.port.map Transfer.job) = some (.steps 1 9 0 6) ∧
      (startPlay 1 5 9 caching).1.pfu.cache.map Prod.fst = [5, 6]) ∧
    ((startPlay 1 6 9 caching).2 = some .badPattern ∧
      ((startPlay 1 6 9 caching).1.fetchRec 1).state = .none) ∧
    ((startPlay 1 7 9 caching).2 = none ∧
      ((startPlay 1 7 9 caching).1.fetchRec 1).state = .lookup ∧
      ((startPlay 1 7 9 caching).1.pfu.port.map Transfer.job) = some (.directory 1 7 9)) := by
  decide +kernel

/-- R79 at a step's leaving: 4 steps left ask for more, 5 do not, and none is asked for while the
play's fetch is in flight. -/
theorem test_ask_steps :
    let holding (n : Nat) : FetchRec := { playing with buffer := List.replicate n (.sound 57 1 10 true) }
    (((nextStep 1 (on.withFetchRec 1 (holding 5))).2.fetchRec 1).waiting = some .step) ∧
    (((nextStep 1 (on.withFetchRec 1 (holding 6))).2.fetchRec 1).waiting = none) ∧
    (((nextStep 1 (fetching 1 (.steps 1 3 2 4) (holding 5))).2.fetchRec 1).waiting = none) ∧
    ((nextStep 1 (on.withFetchRec 1 playing)).1 = .starved) := by decide +kernel

/-- What the part sends for the settings read and for a step fetch at 73,734 (R72). -/
theorem test_sent_bits :
    (Transfer.sentBytes { job := .settings, address := 0, bytes := 64 } = [0x03, 0, 0, 0]) ∧
    (Transfer.sentBytes { job := .steps 1 3 2 4, address := 73734, bytes := 12 } =
      [0x03, 0x01, 0x20, 0x06]) ∧
    (Transfer.clockPeriods { job := .settings, address := 0, bytes := 64 } = 544) ∧
    (grant (on.withFetchRec 4 { playing with waiting := some .step })).pfu.port =
      some { job := .steps 4 3 2 4, address := 73734, bytes := 12 } := by decide +kernel

/-- A directory entry and steps as R204 lays them out, clamped by R82: note 100 held to 95, a length of
0 taken as 1, a level of 200 as 15; bits of the flag byte beyond RAMP and BRAKE are ignored. -/
theorem test_pattern_bytes :
    readEntry (bytes [1, 3, 200, 1, 2, 3, 4, 5, 0, 7]) = ⟨1, 3, 200, 0x010203, 0x0405, 7⟩ ∧
    readSteps .sound 3 (bytes [0x80 + 57, 4, 10, 100, 0, 200, 126, 9, 0]) =
      [.sound 57 4 10 true, .sound 95 1 15 false, .sound 126 9 0 false] ∧
    readSteps .rumble 2 (bytes [30, 0, 0xF5, 255, 7, 2]) =
      [.rumble 30 1 true false, .rumble 255 7 false true] := by decide +kernel

theorem test_fetches :
    after (exec (.directoryFetchComplete (entryBytes 1)) (fetching 1 (.directory 1 5 3) looking))
      (fun t => ((t.fetchRec 1).state, t.pfu.port.map Transfer.address, t.pfu.cache.length)) =
      some (.opened, some 65536, 1) ∧
    after (exec (.stepFetchComplete (List.replicate 12 0)) (fetching 1 (.steps 1 3 2 4) playing))
      (fun t => ((t.fetchRec 1).cursor, (t.fetchRec 1).buffer)) =
      some (some (2, 0), List.replicate 4 (.sound 0 1 0 false)) := by decide +kernel

/-! ### Witnesses: the Sound Engine -/

theorem witness_PlaySoundIsRefusedOrTakesAVoice :
    Heard crowded client .playSound ∧ (5 ≤ 5 ∧ 3 ≤ 3 ∧ crowded.settings.dirCount ≤ 256) ∧
    (65536 * 1 ≤ 65467 + 10 * 6 + 9 ∧ ¬ (65536 * 1 ≤ 65466 + 10 * 6 + 9)) ∧
    ((crowded.voice 2).priority ≤ 1 ∧ (crowded.voice 1).state ≠ .idle ∧
      2 < (crowded.voice 1).priority) ∧
    ((on.voice 0).state = .idle ∧ (∀ j < 4, (crowded.voice j).state ≠ .idle)) ∧
    ((crowded.voice 3).state = .releasing ∧ (crowded.voice 3).env < (crowded.voice 1).env) ∧
    (let s := (crowded.withVoice 1 { crowded.voice 1 with state := .playing }).withVoice 3
        { crowded.voice 3 with state := .starved, priority := 3 }
     (∀ j < 4, (s.voice j).state ≠ .releasing) ∧ (s.voice 2).priority ≤ 1 ∧ 1 < (s.voice 0).priority ∧
      1 < (s.voice 1).priority ∧ (∀ j < 4, 0 < (s.voice j).priority)) :=
  ⟨heard (by decide +kernel), by decide +kernel⟩

theorem test_play_sound :
    after (exec (.playSound client 4 9 0 true { level := some 99 }) crowded) (fun t =>
      ((t.voice 3).state, (t.voice 3).level, (t.voice 3).playNo, t.lif.queue)) =
      some (.starting, 15, 1, [⟨2, 6, 0, .notice (.cueEnd 3 0 0 .replaced)⟩]) ∧
    after (exec (.playSound client 1 9 2 true {}) crowded) (fun t => t.lif.queue) =
      some [⟨2, 6, 1, .reply .playSound 7 .busy .none⟩] := by decide +kernel

/-- A part whose voice 0 owes a lookup reply. -/
def owing : State :=
  crowded.withVoice 0 { crowded.voice 0 with state := .starting, owed := some ⟨1, 5, 3⟩, env := 0 }

/-- A starting voice 1 with its first step come. -/
def delivered : State :=
  (crowded.withVoice 1 { crowded.voice 1 with state := .starting }).withFetchRec 2
    { playing with buffer := [.sound 57 4 10 true] }

theorem witness_PlaySoundIsRefusedOrTakesAVoice_hands :
    ((owing.voice 0).owed = some ⟨1, 5, 3⟩ ∧ (crowded.voice 0).owed = none) ∧
    ((delivered.voice 1).state = .starting ∧
      (delivered.fetchRec (1 + 1)).buffer = .sound 57 4 10 true :: []) ∧
    ((owing.fetchRec 1).buffer = [] ∧ (crowded.voice 0).state ≠ .starting ∧
      (crowded.voice 0).state ≠ .starved) := by decide +kernel

theorem test_results_and_deliveries :
    ((soundResult 0 .noSuch owing).lif.queue, ((soundResult 0 .noSuch owing).voice 0).state) =
      ([⟨3, 6, 1, .reply .playSound 5 .noSuch .none⟩], .idle) ∧
    (((soundDelivery 1 delivered).voice 1).state, ((soundDelivery 1 delivered).voice 1).ticksLeft,
      ((soundDelivery 1 delivered).voice 1).increment) = (.playing, 4, 225280) := by decide +kernel

theorem witness_StopSoundActsByVoiceState :
    Heard crowded client .stopSound ∧ (2 ≤ 2 ∧ 5 ≤ 5 ∧ 1 < 2 ∧ 4 < 5) ∧ (on.voice 0).state = .idle ∧
    ((owing.voice 0).state = .starting ∧ (owing.voice 0).owed = some ⟨1, 5, 3⟩) ∧
    ((crowded.voice 0).state = .playing ∧ (crowded.voice 0).owed = none ∧ 0 < (crowded.voice 0).env) ∧
    ({ crowded.voice 0 with env := 0 } : Voice).env = 0 ∧ (crowded.voice 1).state = .releasing ∧
    (crowded.voice 1).owed = none :=
  ⟨heard (by decide +kernel), by decide +kernel⟩

theorem test_stop_sound :
    after (exec (.stopSound client 4 0) crowded) (fun t =>
      ((t.voice 0).state, (t.voice 0).stage, t.lif.queue)) = some (.releasing, .release,
        [⟨2, 6, 1, .reply .stopSound 7 .done (.soundStop 2)⟩]) ∧
    after (exec (.stopSound client 0 1) owing) (fun t => (t.lif.queue, (t.voice 0).state)) =
      some ([⟨2, 6, 1, .reply .stopSound 7 .done (.soundStop 1)⟩,
        ⟨3, 6, 1, .reply .playSound 5 .cancelled .none⟩], .idle) := by decide +kernel

theorem witness_VoiceSetAndMasterLevelAct :
    Heard on client .voiceSet ∧ Heard on client .masterLevel ∧ (4 ≤ 4 ∧ 3 ≤ 3 ∧ ¬ (4 ≤ 3)) ∧
    on.se.gTarget = 4 * 48 :=
  ⟨heard (by decide +kernel), heard (by decide +kernel), by decide, rfl⟩

theorem test_sound_settings :
    after (exec (.voiceSet client 3 { duty := some 0, transpose := some (-30) }) on) (fun t =>
      ((t.voice 3).change.duty, (t.voice 3).change.transpose)) = some (some 1, some (-24)) ∧
    after (exec (.masterLevel client 64) on) (fun t => (t.se.master, t.se.gTarget)) =
      some (63, 252) := by decide +kernel

theorem witness_AudioSampleMixesTheVoices :
    ((mixing.voice 3).env ≤ 255 ∧ (mixing.voice 3).stepLevel ≤ 15 ∧ (mixing.voice 3).level ≤ 15 ∧
      (mixing.voice 0).phase < 16777216 ∧ (mixing.voice 3).phase < 16777216 ∧
      (mixing.voice 3).state ≠ .idle ∧ (mixing.voice 2).state = .idle ∧ (mixing.voice 2).env = 0) ∧
    (mixing.ps.state = .active ∧ mixOut { mixing.se with gEff := 255 } = 511) ∧
    mixOut ({ mixing.se with
      gEff := 255, voices := mixing.se.voices.set 0 (mixing.voice 3) } : Sound) = 816 ∧
    mixing.se.clipOpen = true ∧ starting.ps.state = .starting ∧ State.reset.ps.state = .keep := by
  decide +kernel

/-- A voice with a step of one note in its buffer. -/
def sounding (stage : Stage) (e : Nat) (st : VoiceState) : Voice :=
  { voiceStart with state := st, stage := stage, env := e, ticksLeft := 1, endNotice := true }

/-- R98: PULSE of duty 2 in eighths 1 and 2, TRIANGLE at t = 0, 127, 128 and 255, NOISE by its lowest
bit. -/
theorem test_waves :
    let v : Voice := voiceStart
    ([2097152, 4194304].map fun p => { v with waveform := .pulse, duty := 2, phase := p }.wave) =
      [127, -128] ∧
    ([0, 127, 128, 255].map fun t => { v with waveform := .triangle, phase := 65536 * t }.wave) =
      [-128, 126, 127, -127] ∧
    ([3, 2].map fun r => { v with waveform := .noise, noise := r }.wave) = [127, -128] := by
  decide +kernel

theorem witness_TickMovesTheVoicesAndTheGain :
    (95 ≤ 95 ∧ 222 + 32 < 255 ∧ 255 ≤ 223 + 32 ∧ 192 + 4 < 197 ∧ 196 ≤ 192 + 4 ∧ 16 < 17 ∧ 16 ≤ 16) ∧
    (on.voice 0).applyChange.state = .idle ∧
    ((sounding .attack 0 .playing).applyChange.state = .playing ∧
      1 < ({ sounding .attack 0 .playing with ticksLeft := 2 } : Voice).applyChange.ticksLeft ∧
      (sounding .attack 0 .playing).applyChange.ticksLeft ≤ 1 ∧
      ({ playing with buffer := [.sound 126 1 0 false] } : FetchRec).buffer =
        .sound 126 1 0 false :: []) ∧
    (playing.buffer = [] ∧ playing.cursor ≠ none ∧ fetchRecStart.cursor = none ∧
      (sounding .sustain 192 .playing).applyChange.release <
        (sounding .sustain 192 .playing).applyChange.env ∧
      (sounding .sustain 16 .playing).applyChange.env ≤
        (sounding .sustain 16 .playing).applyChange.release ∧
      (sounding .sustain 16 .playing).applyChange.owed = none) ∧
    (sounding .off 0 .playing).stage = .off ∧
    ((sounding .release 17 .releasing).applyChange.moveEnvelope.stage ≠ .off ∧
      (sounding .release 16 .releasing).applyChange.moveEnvelope.stage = .off ∧
      (sounding .release 16 .releasing).applyChange.owed = none) := by decide +kernel

/-- A tick that begins the next step: the rest is taken, the envelope enters RELEASE and falls by 16, and
the emptied buffer asks for steps (R79, R100, R103). -/
theorem test_step_begins :
    let s := (on.withVoice 1 (sounding .sustain 192 .playing)).withFetchRec 2
      { playing with buffer := [.sound 126 5 0 false] }
    (((voiceTick 1 s).voice 1).ticksLeft, ((voiceTick 1 s).voice 1).stage,
      ((voiceTick 1 s).voice 1).env) = (5, .release, 176) ∧
    (((voiceTick 1 s).fetchRec 2).buffer, ((voiceTick 1 s).fetchRec 2).waiting) = ([], some .step) ∧
    (voiceTick 1 s).voice 0 = s.voice 0 := by decide +kernel

theorem test_sound_tick :
    (soundTick ((on.withVoice 1 (sounding .release 16 .releasing)).withSe
      { (on.withVoice 1 (sounding .release 16 .releasing)).se with gCeiling := 70 })).se.gEff = 8 ∧
    ((soundTick (on.withVoice 1 (sounding .release 16 .releasing))).voice 1).state = .idle ∧
    (let t := soundTick (on.withVoice 1 (sounding .sustain 16 .playing))
     ((t.voice 1).state, t.lif.queue)) =
      (.idle, [⟨2, 6, 0, .notice (.cueEnd 1 0 0 .finished)⟩]) ∧
    noteIncrement 57 = 225280 := by decide +kernel

/-! ### Witnesses: the Rumble Driver and the Budget Unit -/

/-- The part with its player in a state, at priority 2. -/
def player (p : PlayerState) (k : PlayKind) : State :=
  on.withRd { rumbleStart with
    player := p, kind := k, priority := 2, requester := 1, endNotice := true, mode := .drive
    dReq := 40, dRes := 40, dBudget := 40, dEff := 40 }

theorem witness_RumbleRequestsAreRefusedOrTakeThePlayer :
    Heard on client .playRumble ∧ Heard on client .steadyRumble ∧
    (on.settings.dirCount ≤ 256 ∧ 255 < on.settings.dirCount) ∧
    ((player .faulted .pattern).rd.player = .faulted ∧ (player .checking .pattern).rd.player = .checking) ∧
    ((player .playing .pattern).rd.player = .playing ∧ 1 < (player .playing .pattern).rd.priority ∧
      (player .playing .pattern).rd.priority ≤ 2 ∧ (player .braking .steady).rd.player = .braking) ∧
    (({ rumbleStart with player := .starting, owed := some ⟨1, 5, 3⟩ } : Rumble).owed =
      some ⟨1, 5, 3⟩) ∧
    ((player .starting .steady).rd.raiseEnded = true ∧ (player .starting .steady).rd.owed = none ∧
      ({ rumbleStart with player := .starting, raiseEnded := false } : Rumble).raiseEnded = false ∧
      ((player .starting .pattern).fetchRec 0).buffer = [] ∧
      ({ playing with buffer := [.rumble 200 4 true false] } : FetchRec).buffer =
        .rumble 200 4 true false :: []) :=
  ⟨heard (by decide +kernel), heard (by decide +kernel), by decide +kernel⟩

/-- A starting steady play whose duty 40 has just been reserved, the claim large enough. -/
def reserving : State :=
  { sharing with
    rd := { rumbleStart with player := .starting, kind := .steady, steadyDuty := 40, dRes := 40 } }

/-- A STARVED rumble play with a step delivered. -/
def starved : State :=
  (player .starved .pattern).withFetchRec 0 { playing with buffer := [.rumble 30 4 false false] }

theorem witness_RumbleRequestsAreRefusedOrTakeThePlayer_follow :
    (starved.rd.player = .starved ∧ (starved.fetchRec 0).buffer = .rumble 30 4 false false :: [] ∧
      ((player .starved .pattern).fetchRec 0).buffer = [] ∧ on.rd.player ≠ .starved) ∧
    (on.rd.check = none ∧ reserving.rd.dRes ≠ sharing.rd.dRes) ∧
    (0 < (recompute reserving).rd.dRes ∧ (recompute reserving).ps.state = .active ∧
      (recompute reserving).bu.raise = none ∧ (recompute reserving).bu.listenEnd = none) ∧
    (recompute reserving).rd.dEff ≠ (takeReport (recompute reserving)).rd.dEff ∧
    (takeReport { reserving with rd := { reserving.rd with kind := .pattern } }).rd.dEff =
      reserving.rd.dEff := by decide +kernel

theorem test_rumble_follows :
    ((budgetFollow sharing reserving).rd.player = .steady ∧
      (budgetFollow sharing reserving).rd.dEff = 40) ∧
    ((rumbleDelivery starved).rd.player = .playing ∧ (rumbleDelivery starved).rd.ticksLeft = 4) := by
  decide +kernel

theorem test_rumble_requests :
    after (exec (.playRumble client 256 1 true) on) (fun t => t.lif.queue) =
      some [⟨2, 6, 1, .reply .playRumble 7 .badArg .none⟩] ∧
    after (exec (.playRumble client 9 2 false) (player .playing .pattern)) (fun t =>
      (t.rd.player, t.rd.mode, t.rd.owed, t.lif.queue)) =
      some (.starting, .off, some ⟨1, 7, 2⟩,
        [⟨2, 6, 1, .notice (.rumbleEnd 0 .pattern (some 0) .replaced)⟩]) ∧
    after (exec (.steadyRumble client 0 5 9 true) on) (fun t =>
      (t.rd.player, t.rd.duration, t.lif.queue)) =
      some (.steady, some 5, [⟨2, 6, 1, .reply .steadyRumble 7 .done (.steadyPlay 1 0 5 3)⟩]) := by
  decide +kernel

theorem witness_StopRumbleActsByPlayerState :
    Heard (player .playing .pattern) client .stopRumble ∧ 2 ≤ 2 ∧ 1 < 2 ∧ on.rd.player = .idle ∧
    ((player .braking .steady).rd.player = .braking ∧ (player .braking .steady).rd.owed = none) ∧
    (({ rumbleStart with player := .starting, owed := some ⟨1, 5, 3⟩ } : Rumble).owed =
      some ⟨1, 5, 3⟩) ∧
    ((player .steady .steady).rd.player = .steady ∧ (player .steady .steady).rd.owed = none ∧
      0 < on.settings.brakeTicks) :=
  ⟨heard (by decide +kernel), by decide +kernel⟩

theorem test_stop_rumble :
    after (exec (.stopRumble client 0) (player .steady .steady)) (fun t =>
      (t.rd.player, t.rd.mode, t.rd.brakeLeft)) = some (.braking, .brake, 12) ∧
    after (exec (.stopRumble client 1) (player .steady .steady)) (fun t =>
      (t.rd.player, t.lif.queue)) = some (.idle,
        [⟨2, 6, 1, .notice (.rumbleEnd 0 .steady none .stopped)⟩,
          ⟨2, 6, 1, .reply .stopRumble 7 .done (.rumbleStop true .idle)⟩]) := by decide +kernel

/-- A check with `n` samples of 20 mA, its drive started at count `t` where given. -/
def checking (t : Option Nat) (n : Nat) : State :=
  (player .checking .pattern).withRd { (player .checking .pattern).rd with
    check := some { owed := ⟨1, 5, 3⟩, cameFaulted := true, driveStart := t, sum := 20 * n, count := n } }

theorem witness_MotorCheckRunsAndTheCurrentIsSensed :
    Heard on client .motorCheck ∧
    (on.rd.player = .idle ∧ on.rd.guard = .clear ∧ (player .playing .pattern).rd.player ≠ .idle) ∧
    ((checking none 0).rd.check.isSome = true ∧ (checking none 0).settings.testDuty ≤ 40 ∧ 39 < 40) ∧
    ((checking (some 0) 0).rd.check = some ⟨⟨1, 5, 3⟩, true, some 0, 0, 0⟩ ∧
      min (2 / 1) 511 < on.settings.openThreshold ∧ on.settings.openThreshold ≤ min (3 / 1) 511 ∧
      on.settings.shortThreshold < 61 ∧ 60 ≤ on.settings.shortThreshold) ∧
    ((checking (some 0) 0).rd.mode = .drive ∧ 0 < (checking (some 0) 0).rd.dEff ∧
      on.rd.mode ≠ .drive ∧ on.settings.overTrip < min 241 511 ∧ ¬ (on.settings.overTrip < 240)) ∧
    ((player .playing .pattern).rd.check = none ∧ (player .playing .pattern).rd.player ≠ .braking) ∧
    (0 + 10486 ≤ 10486 ∧ 10485 < 0 + 10486) :=
  ⟨heard (by decide +kernel), by decide +kernel⟩

theorem test_motor_check :
    after (exec (.motorCheck client) (on.withBu { on.bu with listenEnd := some 629146 }))
      (fun t => (t.rd.player, t.rd.dRes, t.lif.queue)) = some (.checking, 40, []) ∧
    after (exec (.motorCheck client) on) (fun t => (t.rd.player, t.lif.queue)) = some (.idle,
      [⟨2, 6, 1, .reply .motorCheck 7 .noHeadroom
        (.check .failed (some .noHeadroom) none .idle)⟩]) ∧
    after (exec .motorCheckDriveEnd (checking (some 0) 163)) (fun t =>
      (t.rd.player, t.now, t.lif.queue)) = some (.idle, 20972,
        [⟨3, 6, 1, .reply .motorCheck 5 .done (.check .normal none (some 20) .idle)⟩]) := by
  decide +kernel

theorem test_motor_sense :
    after (exec (.motorSenseSample 241) (player .playing .pattern)) (fun t =>
      (t.rd.player, t.rd.dEff, t.rd.lastFault)) = some (.faulted, 0, some (.overcurrent, 241)) ∧
    after (exec (.motorSenseSample 240) (player .playing .pattern)) (fun t => t.rd.player) =
      some .playing := by decide +kernel

/-- A stopped steady play at its last brake tick. -/
def lastBrake : State :=
  (player .braking .steady).withRd { (player .braking .steady).rd with
    brakeLeft := 1, endReason := some .stopped }

theorem witness_TickMovesTheMotorAndItsHeat :
    (on.rd.guard = .clear ∧ 59999 < on.settings.hTrip ∧ on.settings.hTrip ≤ 60000) ∧
    ((checking (some 0) 0).rd.check = some ⟨⟨1, 5, 3⟩, true, some 0, 0, 0⟩ ∧
      ({ rumbleStart with guard := .tripped } : Rumble).guard = .tripped ∧
      30000 ≤ on.settings.hClear ∧ on.settings.hClear < 30001) ∧
    (busy.rd.player = .playing ∧ 1 < busy.rd.ticksLeft ∧ busy.rd.ramp = some ⟨40, 200, 2, 4⟩) ∧
    ((player .playing .pattern).rd.ramp = none ∧ (player .playing .pattern).rd.ticksLeft ≤ 1 ∧
      ((player .playing .pattern).fetchRec 0).buffer = [] ∧
      ((player .playing .pattern).fetchRec 0).cursor = none ∧
      (((player .playing .pattern).withFetchRec 0 playing).fetchRec 0).cursor ≠ none ∧
      (((player .playing .pattern).withFetchRec 0 { playing with
        buffer := [.rumble 1 1 false false] }).fetchRec 0).buffer = .rumble 1 1 false false :: []) ∧
    ((player .steady .steady).rd.duration = none ∧
      ({ rumbleStart with duration := some 1 } : Rumble).duration = some 1 ∧
      ({ rumbleStart with duration := some 2 } : Rumble).duration = some (0 + 2)) ∧
    (1 < ({ (player .braking .steady).rd with brakeLeft := 2 } : Rumble).brakeLeft ∧
      on.rd.player = .idle) ∧
    (lastBrake.rd.player = .braking ∧ lastBrake.rd.brakeLeft ≤ 1 ∧
      lastBrake.rd.endReason = some .stopped) ∧
    on.settings.brakeTicks = 12 ∧
    ({ on.settings with brakeTicks := 0 } : Settings).brakeTicks = 0 := by decide +kernel

/-- The end of a duration: 12 brake ticks in BRAKE, or with brake ticks 0 the end at once with FINISHED
(R124, R125, R127). -/
theorem test_duration_ends :
    let s := (player .steady .steady).withRd { (player .steady .steady).rd with duration := some 1 }
    let t := rumbleStepWork s
    let u := rumbleStepWork { s with settings := { s.settings with brakeTicks := 0 } }
    (t.rd.player, t.rd.mode, t.rd.brakeLeft, t.rd.endReason) =
      (.braking, .brake, 12, some .finished) ∧
    (t.rd.dReq, t.rd.dRes, t.rd.dEff, t.lif.queue) = (0, 0, 0, []) ∧
    (u.rd.player, u.rd.mode, u.rd.brakeLeft, u.lif.queue) =
      (.idle, .off, 0, [⟨2, 6, 1, .notice (.rumbleEnd 0 .steady none .finished)⟩]) := by decide +kernel

/-- The guard trips in a check that came from FAULTED: the reply is BUSY with FAILED and GUARD, the player
FAULTED again (R134, R135). -/
theorem test_guard_ends_check :
    let s := (checking (some 0) 0).withRd { (checking (some 0) 0).rd with heat := 60100 }
    ((heatTick s).rd.player, (heatTick s).rd.check, (heatTick s).rd.mode, (heatTick s).rd.lastFault) =
      (.faulted, none, .off, none) ∧
    (heatTick s).lif.queue = [⟨2, 6, 1, .notice (.motorGuard .tripped 60092)⟩,
      ⟨3, 6, 1, .reply .motorCheck 5 .busy (.check .failed (some .guardTrip) none .faulted)⟩] := by
  decide +kernel

theorem test_rumble_tick :
    ((rumbleTick busy).rd.dReq, (rumbleTick busy).rd.dEff, (rumbleTick busy).rd.heat) =
      (160, 89, 41) ∧
    (rumbleTick ((player .steady .steady).withRd { (player .steady .steady).rd with
      duration := some 1 })).rd.player = .braking ∧
    ((rumbleTick lastBrake).rd.player, (rumbleTick lastBrake).rd.mode, (rumbleTick lastBrake).lif.queue) =
      (.idle, .off, [⟨2, 6, 1, .notice (.rumbleEnd 0 .steady none .stopped)⟩]) := by decide +kernel

theorem witness_MotorTakesWhatTheSoundShareLeaves :
    0 < sharing.settings.iFull ∧ sharing.rd.dReq ≤ sharing.rd.dRes ∧ on.rd.dRes = 0 ∧
    grantBase on - on.settings.iCore ≤
      ampCurrent on.settings (min (max on.se.gTarget on.se.gEff) (gainCeiling on)) := by
  decide +kernel

theorem witness_BudgetUnitTakesPostsAndTimers :
    (on.ps.state = .active ∧ dozing.ps.state = .doze ∧ starting.ps.state = .starting) ∧
    (on.settings.powerStation = 2 ∧ 14 < 15 ∧ 14 ≠ on.lif.own ∧ 14 ≠ on.settings.powerStation) ∧
    (sharing.bu.heard = some 0 ∧ sharing.bu.fresh = true ∧ on.bu.fresh = false) ∧
    (sharing.bu.peer 9 = quietPeer 30 ∧ sharing.bu.peer 14 = none ∧ sharing.bu.peer 15 = none) ∧
    (sharing.bu.acked = some (80, 0) ∧ sharing.bu.holding = false ∧ on.bu.holding = true) ∧
    (({ sharing.bu with listenEnd := some 629146 } : Budget).listenEnd = some 629146 ∧
      0 < sharing.rd.dRes ∧ on.rd.dRes = 0 ∧ on.bu.listenEnd = none) ∧
    (sharing.bu.handedAt = some 0 ∧ sharing.bu.announced = some 80 ∧ on.bu.handedAt = none ∧
      sharing.bu.raise = none ∧ sharing.bu.listenEnd = none ∧ ¬ (sharing.se.gTarget < sharing.se.gEff)) := by
  decide +kernel

theorem test_budget_timers :
    after (exec .allowanceStale sharing) (fun t => (t.bu.allowance, t.now, t.rd.dEff)) =
      some (60, 629146, 0) ∧
    after (exec (.peerClaimExpiry 9) sharing) (fun t =>
      (t.bu.peer 9, t.bu.raise.map Raise.planned)) = some (none, some 110) ∧
    after (exec .claimAgeExpiry sharing) (fun t => (t.rd.dEff, t.se.gEff)) = some (0, 0) ∧
    after (exec .listenEnd { on with bu := { on.bu with
        listenEnd := some 629146, announced := some 6, allowance := 200 } }) (fun t =>
      (t.bu.listenEnd, t.bu.raise.map Raise.planned)) = some (none, some 38) ∧
    after (exec .claimRefresh sharing) (fun t => t.lif.queue) =
      some [⟨1, 6, 15, .claim 80⟩] := by decide +kernel

/-- The worked sharing with another announced claim, raise and listen end. -/
def claiming (ann : Nat) (r : Option Raise) (listen : Option Nat) : State :=
  { sharing with bu := { sharing.bu with announced := some ann, raise := r, listenEnd := listen } }

theorem witness_RecomputationSettles :
    (let b : Budget := { sharing.bu with allowance := 124 }
     b.overFlag = false ∧ (124 : Int) - peerSum b < sharing.settings.iCore) ∧
    (({ sharing.bu with overFlag := true } : Budget).overFlag = true ∧ (6 : Int) ≤ headroom sharing.bu) ∧
    (wantedClaim sharing = 80 ∧ lowerClaim sharing = 80 ∧ 78 < 80 ∧ lowerClaim sharing + 4 ≤ 84 ∧
      83 < lowerClaim sharing + 4 ∧ sharing.se.gEff ≤ sharing.se.gTarget) ∧
    (sharing.ps.state = .active ∧ (claiming 60 none none).bu.raise = none ∧
      (claiming 60 none none).bu.listenEnd = none ∧ (claiming 60 none (some 9)).bu.listenEnd ≠ none ∧
      (claiming 60 (some ⟨60, some 0⟩) none).bu.raise = some ⟨60, some 0⟩) := by decide +kernel

/-- The decisions on the claim, with the headroom of 80 mA of the worked sharing (R150, R151, R154) and
OVER_ALLOWANCE with its values (R149). -/
theorem test_claim_decisions :
    (let t := recompute (claiming 60 none none)
     (t.bu.raise, t.bu.announced, t.lif.queue)) =
      (some ⟨80, none⟩, some 80, [⟨1, 6, 15, .claim 80⟩]) ∧
    (recompute (claiming 60 none (some 9))).lif.queue = [] ∧
    (recompute (claiming 60 (some ⟨60, some 0⟩) none)).bu.raise = some ⟨80, none⟩ ∧
    (recompute (claiming 82 (some ⟨82, some 0⟩) none)).bu.raise = some ⟨82, some 0⟩ ∧
    ((recompute (claiming 84 none none)).bu.announced, (recompute (claiming 84 none none)).bu.released,
      (recompute (claiming 82 none none)).bu.announced) = (some 80, 80, some 82) ∧
    (recompute (sharing.withBu { sharing.bu with allowance := 124, announced := some 6 })).lif.queue =
      [⟨2, 6, 1, .notice (.overAllowance true 124 120 4)⟩] := by decide +kernel

/-- The worked raise at its settle end (section 7.6): planned 80, station 9 raised inside the window,
station 5 below the own number. -/
def settling : State :=
  { sharing with
    now := 30000
    rd := { sharing.rd with
      player := .starting, mode := .off, dReq := 0, dBudget := 0, dEff := 0, raiseEnded := false }
    bu := { sharing.bu.withPeer 9 (some ⟨50, 30, some 50972, 0, false⟩) with
      announced := some 80, released := 38, raise := some { planned := 80, settleStart := some 30000 } } }

theorem witness_SettleEndReleasesTheRaise :
    settling.bu.raise = some { planned := 80, settleStart := some 30000 } ∧
    settling.bu.peer 9 = some ⟨50, 30, some 50972, 0, false⟩ ∧ settling.lif.own < 9 ∧
    (30000 ≤ 50972 + 20972 ∧ 50972 ≤ 30000 + 20972) ∧ ¬ (50973 ≤ 30000 + 20972) ∧
    0 < settling.rd.dRes ∧ on.rd.dRes = 0 ∧ on.bu.raise = none := by decide +kernel

theorem test_settle_end :
    after (exec .settleEnd settling) (fun t =>
      (t.bu.released, t.rd.dBudget, t.rd.player, t.rd.dEff, t.now)) =
      some (80, 89, .steady, 89, 50972) := by decide +kernel

end Sys2Proof.Tests
end

section
/-! SUPPORT. What a step can do, said once for all commands: most leave the Save Store, the Calendar, the
Power Supervisor and the inbox alone (`Aside`), and the others are named by `Acts`. -/

namespace Sys2Proof.Machine

/-! ### Steps that leave store, Calendar, power and inbox alone -/

/-- `t` holds what `s` holds in the Save Store, the Calendar, the Power Supervisor, the settings, the
inbox and the queue of waiting commands. -/
structure Aside (s t : State) : Prop where
  ss : t.ss = s.ss
  cal : t.cal = s.cal
  ps : t.ps = s.ps
  settings : t.settings = s.settings
  inbox : t.lif.inbox = s.lif.inbox
  own : t.lif.own = s.lif.own
  pending : t.pending = s.pending

theorem Aside.refl (s : State) : Aside s s := ⟨rfl, rfl, rfl, rfl, rfl, rfl, rfl⟩

theorem Aside.trans {s t u : State} (h : Aside s t) (k : Aside t u) : Aside s u :=
  ⟨k.ss.trans h.ss, k.cal.trans h.cal, k.ps.trans h.ps, k.settings.trans h.settings,
    k.inbox.trans h.inbox, k.own.trans h.own, k.pending.trans h.pending⟩

theorem Posts.aside {s t : State} (h : Posts s t) : Aside s t := by
  unfold Posts at h
  constructor <;> rw [h]

theorem Sounds.aside {s t : State} (h : Sounds s t) : Aside s t := by
  unfold Sounds at h
  constructor <;> rw [h]

theorem Rumbles.aside {s t : State} (h : Rumbles s t) : Aside s t := by
  unfold Rumbles at h
  constructor <;> rw [h]

theorem Budgets.aside {s t : State} (h : Budgets s t) : Aside s t := by
  unfold Budgets at h
  constructor <;> rw [h]

theorem Aside.serving {s t : State} (h : Aside s t) : t.serving = s.serving := by
  simp only [State.serving, h.ps]

/-! ### Updates and time -/

theorem withBtg_aside (x : BeatGen) (s : State) : Aside s (s.withBtg x) := ⟨rfl, rfl, rfl, rfl, rfl, rfl, rfl⟩

theorem withPfu_aside (x : Fetch) (s : State) : Aside s (s.withPfu x) := ⟨rfl, rfl, rfl, rfl, rfl, rfl, rfl⟩

theorem withRd_aside (x : Rumble) (s : State) : Aside s (s.withRd x) := ⟨rfl, rfl, rfl, rfl, rfl, rfl, rfl⟩

theorem withSe_aside (x : Sound) (s : State) : Aside s (s.withSe x) := ⟨rfl, rfl, rfl, rfl, rfl, rfl, rfl⟩

theorem withBu_aside (x : Budget) (s : State) : Aside s (s.withBu x) := ⟨rfl, rfl, rfl, rfl, rfl, rfl, rfl⟩

theorem withNu_aside (x : Notices) (s : State) : Aside s (s.withNu x) := ⟨rfl, rfl, rfl, rfl, rfl, rfl, rfl⟩

theorem withGuard_aside (x : GuardPin) (s : State) : Aside s (s.withGuard x) :=
  ⟨rfl, rfl, rfl, rfl, rfl, rfl, rfl⟩

theorem withVoice_aside (i : Nat) (v : Voice) (s : State) : Aside s (s.withVoice i v) :=
  withSe_aside _ s

theorem withFetchRec_aside (p : Nat) (r : FetchRec) (s : State) : Aside s (s.withFetchRec p r) :=
  withPfu_aside _ s

theorem setAck_aside (b : Bool) (s : State) : Aside s (setAck b s) := ⟨rfl, rfl, rfl, rfl, rfl, rfl, rfl⟩

theorem elapse_aside (d : Nat) (s : State) : Aside s (elapse d s) := ⟨rfl, rfl, rfl, rfl, rfl, rfl, rfl⟩

theorem reach_aside (d : Nat) (s : State) : Aside s (reach d s) := elapse_aside _ s

theorem count_aside (st : Stat) (s : State) : Aside s (count st s) := (count_posts st s).aside

theorem reply_aside (a : Ask) (k : Kind) (c : Code) (d : ReplyData) (s : State) :
    Aside s (reply a k c d s) := (reply_posts a k c d s).aside

/-! ### The Pattern Fetch Unit -/

theorem grant_aside (s : State) : Aside s (grant s) := withPfu_aside _ s

theorem freePort_aside (s : State) : Aside s (freePort s) := withPfu_aside _ s

theorem openRec_aside (p : Nat) (e : DirEntry) (s : State) : Aside s (openRec p e s) :=
  (withFetchRec_aside p _ s).trans (askSteps_sounds p _).aside

theorem deliver_aside (p j n : Nat) (bytes : List Byte) (s : State) :
    Aside s (deliver p j n bytes s) := by
  unfold deliver
  simp only
  split
  · exact (withFetchRec_aside p _ s).trans (askSteps_sounds p _).aside
  · exact .refl s

theorem startPlay_aside (p pattern playNo : Nat) (s : State) :
    Aside s (startPlay p pattern playNo s).1 := by
  have fresh := withFetchRec_aside p { fetchRecStart with playNo := playNo, pattern := pattern } s
  unfold startPlay
  simp only
  split
  · split
    · exact ((fresh.trans (withPfu_aside _ _)).trans (openRec_aside p _ _)).trans (grant_aside _)
    · exact fresh.trans (withPfu_aside _ _)
  · exact (fresh.trans (withFetchRec_aside p _ _)).trans (grant_aside _)

theorem finishLookup_aside (p pattern playNo : Nat) (bytes : List Byte) (s : State) :
    Aside s (finishLookup p pattern playNo bytes s).1 := by
  unfold finishLookup
  simp only
  repeat' split
  all_goals first
    | exact (withPfu_aside _ s).trans (openRec_aside p _ _)
    | exact (withPfu_aside _ s).trans (withFetchRec_aside p _ _)
    | exact withPfu_aside _ s

/-! ### The Budget Unit and the Rumble Driver -/

theorem recompute_aside (s : State) : Aside s (recompute s) := (recompute_budgets s).aside

theorem recomputeWith_aside (b : Budget) (s : State) : Aside s (recomputeWith b s) :=
  (withBu_aside b s).trans (recompute_aside _)

theorem announce_aside (c : Nat) (s : State) : Aside s (announce c s) := (announce_budgets c s).aside

theorem recomputeSince_aside (s₀ s : State) : Aside s (recomputeSince s₀ s) := by
  unfold recomputeSince
  split
  · exact .refl s
  · exact recompute_aside s

theorem takeReport_rumbles (s : State) : Rumbles s (takeReport s) := by
  have marked := withRd_rumbles { s.rd with raiseEnded := true } s
  unfold takeReport
  simp only
  split
  · split
    · exact marked
    · split
      · exact marked.trans (failCheck_rumbles _ _)
      · exact (marked.trans (withRd_rumbles _ _)).trans (refreshDuty_rumbles _)
  · exact marked.trans (tryStart_rumbles _)

theorem report_aside (s : State) : Aside s (report s) :=
  (takeReport_rumbles s).aside.trans (recomputeSince_aside _ _)

theorem budgetFollow_aside (s₀ s : State) : Aside s (budgetFollow s₀ s) := by
  unfold budgetFollow
  simp only
  split
  · exact (recomputeSince_aside s₀ s).trans (report_aside _)
  · exact recomputeSince_aside s₀ s

theorem takePlayer_aside (a : Ask) (kind : PlayKind) (pattern priority : Nat) (endNotice : Bool)
    (s : State) : Aside s (takePlayer a kind pattern priority endNotice s) :=
  ((((endRumble_rumbles .replaced s).trans (cancelRumbleOwed_rumbles _)).trans
    (closeRec_rumbles 0 _)).trans (withRd_rumbles _ _)).aside.trans (budgetFollow_aside _ _)

theorem rumbleResult_rumbles (l : Lookup) (s : State) : Rumbles s (rumbleResult l s) := by
  unfold rumbleResult
  split
  · exact .refl s
  · simp only
    split
    · exact (((withRd_rumbles _ s).trans (withRd_rumbles _ _)).trans
        (replyOwed_posts _ _ _ _ _).rumbles).trans (tryStart_rumbles _)
    · exact ((withRd_rumbles _ s).trans (restRumble_rumbles _ _)).trans
        (replyOwed_posts _ _ _ _ _).rumbles
    · exact ((withRd_rumbles _ s).trans (restRumble_rumbles _ _)).trans
        (replyOwed_posts _ _ _ _ _).rumbles

theorem rumbleDelivery_rumbles (s : State) : Rumbles s (rumbleDelivery s) := by
  unfold rumbleDelivery
  split
  · split
    · exact .refl s
    · exact takeRumbleStep_rumbles s
  · exact tryStart_rumbles s

theorem finishCheck_rumbles (c : MotorCheck) (s : State) : Rumbles s (finishCheck c s) := by
  unfold finishCheck
  split
  · exact failCheck_rumbles _ s
  · simp only
    split
    · exact endCheck_rumbles _ _ _ _ _ _ s
    · exact endCheck_rumbles _ _ _ _ _ _ s
    · exact endCheck_rumbles _ _ _ _ _ _ s
    · exact .refl s

theorem servePlayRumble_aside (a : Ask) (pattern priority : Nat) (endNotice : Bool) (s : State) :
    Aside s (servePlayRumble a pattern priority endNotice s) := by
  unfold servePlayRumble
  simp only
  split
  · exact reply_aside _ _ _ _ s
  · split
    · exact reply_aside _ _ _ _ s
    · split
      · exact reply_aside _ _ _ _ s
      · have started (t : State) := ((takePlayer_aside a .pattern pattern (playPriority priority)
          endNotice s).trans (withRd_aside { t.rd with owed := some (owedTo a) } _)).trans
          (startPlay_aside 0 pattern t.rd.playNo _)
        split <;> rename_i h
        · exact (congrArg (Aside s) (congrArg Prod.fst h)).mp (started _)
        · exact (((congrArg (Aside s) (congrArg Prod.fst h)).mp (started _)).trans
            ((rumbleResult_rumbles _ _).aside.trans (budgetFollow_aside _ _))).trans (grant_aside _)

theorem serveSteadyRumble_aside (a : Ask) (duty duration priority : Nat) (endNotice : Bool)
    (s : State) : Aside s (serveSteadyRumble a duty duration priority endNotice s) := by
  unfold serveSteadyRumble
  simp only
  split
  · exact reply_aside _ _ _ _ s
  · exact ((((takePlayer_aside a .steady _ _ endNotice s).trans (withRd_aside _ _)).trans
      (reply_aside _ _ _ _ _)).trans (tryStart_rumbles _).aside).trans (budgetFollow_aside _ _)

theorem serveStopRumble_aside (a : Ask) (mode : Nat) (s : State) :
    Aside s (serveStopRumble a mode s) := by
  unfold serveStopRumble
  split
  · exact reply_aside _ _ _ _ s
  · exact (((stopPlayer_rumbles _ s).aside.trans (reply_aside _ _ _ _ _)).trans
      (budgetFollow_aside _ _)).trans (grant_aside _)

theorem serveMotorCheck_aside (a : Ask) (s : State) : Aside s (serveMotorCheck a s) := by
  unfold serveMotorCheck
  split
  · exact (withRd_aside _ s).trans (budgetFollow_aside _ _)
  · exact reply_aside _ _ _ _ s

/-! ### The Sound Engine -/

theorem soundResult_aside (i : Nat) (l : Lookup) (s : State) : Aside s (soundResult i l s) := by
  unfold soundResult
  simp only
  split
  · exact .refl s
  · split
    · exact (withVoice_aside i _ s).trans (replyOwed_posts _ _ _ _ _).aside
    · exact ((withVoice_aside i _ s).trans (restVoice_sounds i _).aside).trans
        (replyOwed_posts _ _ _ _ _).aside
    · exact ((withVoice_aside i _ s).trans (restVoice_sounds i _).aside).trans
        (replyOwed_posts _ _ _ _ _).aside

theorem takeVoice_aside (a : Ask) (i pattern priority : Nat) (endNotice : Bool) (f : PendingChange)
    (s : State) : Aside s (takeVoice a i pattern priority endNotice f s) := by
  have started (v : Voice) (n : Nat) := (((endCue_sounds i .replaced s).trans
    (cancelVoiceOwed_sounds i _)).aside.trans (withVoice_aside i v _)).trans
    (startPlay_aside (i + 1) pattern n _)
  unfold takeVoice
  simp only
  split <;> rename_i h
  · exact (congrArg (Aside s) (congrArg Prod.fst h)).mp (started _ _)
  · exact ((congrArg (Aside s) (congrArg Prod.fst h)).mp (started _ _)).trans (soundResult_aside i _ _)

theorem servePlaySound_aside (a : Ask) (voice pattern priority : Nat) (endNotice : Bool)
    (f : VoiceFields) (s : State) :
    Aside s (servePlaySound a voice pattern priority endNotice f s) := by
  unfold servePlaySound
  simp only
  repeat' split
  all_goals first
    | exact reply_aside _ _ _ _ s
    | exact takeVoice_aside _ _ _ _ _ _ s

theorem serveVoiceSet_aside (a : Ask) (voice : Nat) (f : VoiceFields) (s : State) :
    Aside s (serveVoiceSet a voice f s) := by
  unfold serveVoiceSet
  split
  · exact reply_aside _ _ _ _ s
  · exact (withVoice_aside voice _ s).trans (reply_aside _ _ _ _ _)

theorem serveMasterLevel_aside (a : Ask) (level : Nat) (s : State) :
    Aside s (serveMasterLevel a level s) :=
  ((withSe_aside _ s).trans (recomputeSince_aside _ _)).trans (reply_aside _ _ _ _ _)

theorem serveStopSound_aside (a : Ask) (voice mode : Nat) (s : State) :
    Aside s (serveStopSound a voice mode s) := by
  have stopped (m : SoundStop) (l : List Nat) :
      ∀ s, Aside s (l.foldl (fun s i => stopVoice m i s) s) := by
    induction l with
    | nil => exact .refl
    | cons i rest ih => exact fun s => (stopVoice_sounds m i s).aside.trans (ih _)
  unfold serveStopSound
  split
  · exact reply_aside _ _ _ _ s
  · split
    · exact reply_aside _ _ _ _ s
    · exact (stopped _ _ s).trans (reply_aside _ _ _ _ _)

/-! ### Ticks and beats -/

theorem issueTick_aside (s : State) : Aside s (issueTick s) := by
  have counted := withBtg_aside { s.btg with tickCounter := (s.btg.tickCounter + 1) % 4294967296 } s
  unfold issueTick
  simp only
  split
  · exact (((counted.trans (soundTick_sounds _).aside).trans (rumbleTick_rumbles _).aside).trans
      (budgetFollow_aside _ _)).trans (grant_aside _)
  · exact counted.trans (heatTick_rumbles _).aside
  · exact counted
  · exact counted

theorem beginInterval_aside (s : State) : Aside s (beginInterval s) :=
  (withBtg_aside _ s).trans (issueTick_aside _)

theorem issueNext_aside (s : State) : Aside s (issueNext s) :=
  (withBtg_aside _ s).trans (issueTick_aside _)

theorem catchUp_aside (n : Nat) (s : State) : Aside s (catchUp n s) := by
  induction n generalizing s with
  | zero => exact .refl s
  | succ n ih => exact (issueTick_aside s).trans (ih _)

theorem handBeat_aside (source : Nat) (payload : List Byte) (s : State) :
    Aside s (handBeat source payload s) := by
  unfold handBeat
  repeat' split
  all_goals first
    | exact count_aside _ s
    | exact .refl s
    | exact ((catchUp_aside _ s).trans (withBtg_aside _ _)).trans (beginInterval_aside _)
    | exact (withBtg_aside _ s).trans (beginInterval_aside _)

theorem timerExpiry_aside (s : State) : Aside s (timerExpiry s) := by
  unfold timerExpiry
  simp only
  repeat' split
  · exact (elapse_aside _ s).trans (issueNext_aside _)
  · exact (elapse_aside _ s).trans (beginInterval_aside _)
  · exact .refl s

theorem lossExpiry_aside (s : State) : Aside s (lossExpiry s) := by
  unfold lossExpiry
  split
  · exact ((elapse_aside _ s).trans (withBtg_aside _ _)).trans (beginInterval_aside _)
  · exact .refl s

theorem beatDoze_aside (s : State) : Aside s (beatDoze s) := by
  unfold beatDoze
  simp only
  repeat' split
  · exact (withBtg_aside _ s).trans (beginInterval_aside _)
  · exact withBtg_aside _ s
  · exact .refl s

theorem beatBegin_aside (s : State) : Aside s (beatBegin s) :=
  (withBtg_aside _ s).trans (beginInterval_aside _)

/-! ### The Budget Unit's events -/

theorem handAllowance_aside (source : Nat) (payload : List Byte) (s : State) :
    Aside s (handAllowance source payload s) := by
  unfold handAllowance
  repeat' split
  all_goals first
    | exact recomputeWith_aside _ s
    | exact .refl s

theorem handClaim_aside (source : Nat) (payload : List Byte) (s : State) :
    Aside s (handClaim source payload s) := by
  unfold handClaim
  repeat' split
  all_goals first
    | exact recomputeWith_aside _ s
    | exact .refl s

theorem allowanceExpiry_aside (s : State) : Aside s (allowanceExpiry s) := by
  unfold allowanceExpiry
  repeat' split
  all_goals first
    | exact (reach_aside _ s).trans (recomputeWith_aside _ _)
    | exact .refl s

theorem peerExpiry_aside (station : Nat) (s : State) : Aside s (peerExpiry station s) := by
  unfold peerExpiry
  split
  · exact .refl s
  · exact (reach_aside _ s).trans (recomputeWith_aside _ _)

theorem releaseRaise_aside (r : Raise) (t : Nat) (s : State) : Aside s (releaseRaise r t s) := by
  have capped (b : Budget) : Aside s (examineOver (handCaps (s.withBu b))) :=
    (withBu_aside b s).trans ((handCaps_budgets _).trans (examineOver_budgets _)).aside
  unfold releaseRaise
  simp only
  split
  · exact ((capped _).trans (announce_aside _ _)).trans (recompute_aside _)
  · exact (capped _).trans (recompute_aside _)

theorem settleExpiry_aside (s : State) : Aside s (settleExpiry s) := by
  have released (r : Raise) (t : Nat) : Aside s (releaseRaise r t (reach (t + Config.settleCounts) s)) :=
    (reach_aside _ s).trans (releaseRaise_aside r t _)
  unfold settleExpiry
  simp only
  repeat' split
  · exact .refl s
  · exact .refl s
  · exact ((released _ _).trans (report_aside _)).trans (grant_aside _)
  · exact (released _ _).trans (grant_aside _)

theorem listenExpiry_aside (s : State) : Aside s (listenExpiry s) := by
  have ended (t : Nat) (b : Budget) : Aside s (recomputeWith b (reach t s)) :=
    (reach_aside t s).trans (recomputeWith_aside b _)
  unfold listenExpiry
  simp only
  repeat' split
  · exact .refl s
  · exact ((ended _ _).trans (report_aside _)).trans (grant_aside _)
  · exact (ended _ _).trans (grant_aside _)

theorem refreshExpiry_aside (s : State) : Aside s (refreshExpiry s) := by
  unfold refreshExpiry
  simp only
  repeat' split
  · exact (reach_aside _ s).trans (announce_aside _ _)
  · exact (reach_aside _ s).trans (announce_aside _ _)
  · exact (((reach_aside _ s).trans (withBu_aside _ _)).trans (announce_aside _ _)).trans
      (recompute_aside _)
  · exact .refl s

theorem ageExpiry_aside (s : State) : Aside s (ageExpiry s) := by
  unfold ageExpiry
  repeat' split
  all_goals first
    | exact (reach_aside _ s).trans (recomputeWith_aside _ _)
    | exact .refl s

theorem budgetDoze_aside (s : State) : Aside s (budgetDoze s) :=
  ((recomputeWith_aside _ s).trans (withBu_aside _ _)).trans (announce_aside _ _)

/-! ### The line -/

theorem reportClaim_aside (p : TxPost) (acked : Bool) (s : State) :
    Aside s (reportClaim p acked s) := by
  unfold reportClaim claimAcked claimFailed
  simp only
  repeat' split
  all_goals first
    | exact recomputeWith_aside _ s
    | exact withBu_aside _ s
    | exact announce_aside _ s

/-- A change of the Line Interface that keeps the inbox and the own station. -/
theorem withLif_aside {x : LineIf} {s : State} (hi : x.inbox = s.lif.inbox) (ho : x.own = s.lif.own) :
    Aside s (s.withLif x) := ⟨rfl, rfl, rfl, rfl, hi, ho, rfl⟩

theorem LineIf.failed_inbox (x : LineIf) (now : Nat) : (x.failed now).inbox = x.inbox := by
  unfold LineIf.failed
  split <;> rfl

theorem LineIf.failed_own (x : LineIf) (now : Nat) : (x.failed now).own = x.own := by
  unfold LineIf.failed
  split <;> rfl

theorem sendFailed_aside (st : Stat) (p : TxPost) (s : State) : Aside s (sendFailed st p s) := by
  refine ((count_aside st s).trans ?_).trans (reportClaim_aside p false _)
  exact withLif_aside (LineIf.failed_inbox _ _) (LineIf.failed_own _ _)

theorem startSending_aside (s : State) : Aside s (startSending s) := by
  unfold startSending
  repeat' split
  all_goals exact withLif_aside rfl rfl

theorem endSending_aside (read : List BitSamples) (s : State) : Aside s (endSending read s) := by
  cases h : s.lif.sending with
  | none => rw [endSending_idle h]; exact .refl s
  | some p =>
    rcases endSending_cases (read := read) h with ⟨-, e⟩ | ⟨-, e⟩ | ⟨-, e⟩ | ⟨-, e⟩ <;> rw [e]
    · refine ((count_aside .arbLosses s).trans ?_).trans (returnPost_posts p _).aside
      exact withLif_aside rfl rfl
    · exact sendFailed_aside _ p s
    · exact sendFailed_aside _ p s
    · refine ((count_aside .postsSent s).trans ?_).trans (reportClaim_aside p true _)
      exact withLif_aside rfl rfl

theorem leaveSilent_aside (s : State) : Aside s (leaveSilent s) := by
  unfold leaveSilent
  split
  · exact .refl s
  · next t _ =>
    refine (((reach_aside t s).trans ?_).trans (count_aside _ _)).trans (raiseNotice_posts _ _).aside
    exact withLif_aside rfl rfl

/-! ### Fetches -/

theorem directoryArrive_aside (p pattern playNo : Nat) (bytes : List Byte) (s : State) :
    Aside s (directoryArrive p pattern playNo bytes s) := by
  have looked := (freePort_aside s).trans (finishLookup_aside p pattern playNo bytes _)
  unfold directoryArrive
  split <;> rename_i h <;> rw [h] at looked
  · exact looked.trans (grant_aside _)
  · refine (looked.trans ?_).trans (grant_aside _)
    unfold handResult
    split
    · exact (rumbleResult_rumbles _ _).aside.trans (budgetFollow_aside _ _)
    · exact soundResult_aside _ _ _

theorem stepsArrive_aside (p playNo j n : Nat) (bytes : List Byte) (s : State) :
    Aside s (stepsArrive p playNo j n bytes s) := by
  unfold stepsArrive
  simp only
  refine ((freePort_aside s).trans ?_).trans (grant_aside _)
  split
  · refine (deliver_aside p j n bytes _).trans ?_
    unfold handDelivery
    split
    · exact (rumbleDelivery_rumbles _).aside.trans (budgetFollow_aside _ _)
    · exact (soundDelivery_sounds _ _).aside
  · exact .refl _

/-! ### All that a step can do -/

/-- All that a command, or a count that passes, can do: leave store, Calendar, power state and inbox
alone, or one of the acts that change them. -/
inductive Acts (s : State) : State → Prop
  | aside {t : State} (h : Aside s t) : Acts s t
  | crystal {u : State} (h : Aside s u) : Acts s (crystalCount u)
  | cell {t : State} (ss : t.ss = s.ss) (cal : t.cal = s.cal) (state : t.ps.state = s.ps.state)
      (startKind : t.ps.startKind = s.ps.startKind) (inbox : t.lif.inbox = s.lif.inbox) : Acts s t
  | enter {u : State} (e : Entry) (h : Aside s u) (serving : s.serving = true) :
      Acts s (enterRequest e u)
  | mode {u : State} (m : PowerMode) (h : Aside s u) (serving : s.serving = true) :
      Acts s (actMode m u)
  | handover : Acts s (readHandover s)
  | verify : Acts s (readVerify s)
  | copied : Acts s (drainInbox (copyComplete s))
  | idled : Acts s (idleExpiry s)
  | scrubbed (freed : Nat) (scrub : s.ss.scrub = some freed) (starting : s.ps.state = .starting) :
      Acts s (enterActive (scrubEnd freed s))
  | settled (bytes : List Byte) (starting : s.ps.state = .starting) : Acts s (settingsArrive bytes s)
  | started (own mv : Nat) (rail : s.ps.rail = .fail) : Acts s (beginStart own mv s)
  | failed (mv : Nat) : Acts s (railLost mv s)
  | wiped : Acts s (keepReset s)

theorem Acts.refl (s : State) : Acts s s := .aside (.refl s)

theorem State.serving_iff (s : State) :
    s.serving = true ↔ s.ps.state = .active ∨ s.ps.state = .doze := by
  simp [State.serving]

theorem request_acts (a : Ask) (r : Request) (s : State) : Acts s (request a r s) := by
  unfold request
  split
  · next h => exact .enter _ (.refl s) (s.serving_iff.2 (h.imp_right And.left))
  · exact .refl s

theorem handMode_acts (source target : Nat) (m : PowerMode) {s u : State} (h : Aside s u) :
    Acts s (handMode source target m u) := by
  unfold handMode
  split
  · next hk => exact .mode m h (h.serving ▸ hk.1)
  · exact .aside h

theorem route_acts (p : RxPost) {s u : State} (h : Aside s u) (hs : s.serving = true) :
    Acts s (route p u) := by
  unfold route
  split
  · exact .aside (h.trans (handBeat_aside _ _ _))
  · exact .aside (h.trans (handAllowance_aside _ _ _))
  · exact .aside (h.trans (handClaim_aside _ _ _))
  · split
    · exact .aside h
    · exact handMode_acts _ _ _ h
  · split
    · exact .aside h
    · exact .enter _ h hs

theorem receive_acts (began : Bool) (samples : List BitSamples) (s : State) :
    Acts s (receive began samples s) := by
  unfold receive
  split
  · exact .aside (setAck_aside _ _)
  · next hs =>
    split
    · exact .aside ((count_aside _ s).trans (setAck_aside _ _))
    · split
      · exact .aside (setAck_aside _ _)
      · unfold takePost
        split
        · exact .aside ((count_aside _ s).trans (setAck_aside _ _))
        · split
          · exact .aside ((count_aside _ s).trans (setAck_aside _ _))
          · exact route_acts _ ((count_aside _ s).trans (setAck_aside _ _)) (by simp_all)

theorem secondStep_acts (s : State) : Acts s (secondStep s) := by
  unfold secondStep
  split
  · exact .crystal (.refl s)
  · exact .refl s

theorem idle_acts (s : State) : Acts s (idle s) := by
  unfold idle
  simp only
  repeat' split
  · exact .aside ⟨rfl, rfl, rfl, rfl, rfl, rfl, rfl⟩
  · exact .crystal ⟨rfl, rfl, rfl, rfl, rfl, rfl, rfl⟩
  · exact .crystal (.refl s)
  · exact .refl s

theorem sampleCell_acts (mv : Nat) (s : State) : Acts s (sampleCell mv s) := by
  unfold sampleCell
  simp only
  split <;> exact .cell (by simp) (by simp) (by simp) (by simp) (by simp)

/-- What each command can do. -/
theorem exec_acts {c : Instr} {s t : State} (h : exec c s = .next t) : Acts s t := by
  cases c <;> cases h
  case beat => exact .aside (handBeat_aside _ _ s)
  case allowance => exact .aside (handAllowance_aside _ _ s)
  case claim => exact .aside (handClaim_aside _ _ s)
  case powerModeDoze => exact handMode_acts _ _ _ (.refl s)
  case powerModeAwake => exact handMode_acts _ _ _ (.refl s)
  case powerModeOffSoon => exact handMode_acts _ _ _ (.refl s)
  case receivePost => exact receive_acts _ _ s
  case transmitStart => exact .aside (startSending_aside s)
  case postSendEnd => exact .aside (endSending_aside _ s)
  case silentEnd => exact .aside (leaveSilent_aside s)
  case readDataHandover => exact .handover
  case readPageVerifyComplete => exact .verify
  case pageCopyComplete => exact .copied
  case streamIdleTimeout => exact .idled
  case startScrubComplete =>
    split
    · exact .refl s
    · next freed hf =>
      split
      · next hs => exact .scrubbed freed hf hs
      · exact .refl s
  case secondStep => exact secondStep_acts s
  case tickTimerExpiry => exact .aside (timerExpiry_aside s)
  case lossTimeout => exact .aside (lossExpiry_aside s)
  case audioSample =>
    split
    · exact .aside (audioSample_sounds s).aside
    · exact .refl s
  case motorSenseSample =>
    exact .aside ((senseSample_rumbles _ s).aside.trans (budgetFollow_aside _ _))
  case motorCheckDriveEnd =>
    split
    · exact .refl s
    · split
      · exact .refl s
      · exact .aside (((reach_aside _ s).trans (finishCheck_rumbles _ _).aside).trans
          (budgetFollow_aside _ _))
  case settingsReadComplete =>
    split
    · exact .refl s
    · split
      · next hk => exact .settled _ hk.2
      · exact .refl s
  case directoryFetchComplete =>
    split
    · exact .refl s
    · split
      · exact .aside (directoryArrive_aside _ _ _ _ s)
      · exact .refl s
      · exact .refl s
  case stepFetchComplete =>
    split
    · exact .refl s
    · split
      · exact .aside (stepsArrive_aside _ _ _ _ _ s)
      · exact .refl s
      · exact .refl s
  case allowanceStale => exact .aside (allowanceExpiry_aside s)
  case peerClaimExpiry => exact .aside (peerExpiry_aside _ s)
  case settleEnd => exact .aside (settleExpiry_aside s)
  case listenEnd => exact .aside (listenExpiry_aside s)
  case claimRefresh => exact .aside (refreshExpiry_aside s)
  case claimAgeExpiry => exact .aside (ageExpiry_aside s)
  case railGood =>
    split
    · next hr => exact .started _ _ hr
    · exact .refl s
  case railFail =>
    split
    · exact .failed _
    · exact .refl s
  case keepDomainReset => exact .wiped
  case keepSupplyRestored =>
    split
    · exact .refl s
    · exact .cell rfl rfl rfl rfl rfl
  case coinCellSample =>
    split
    · exact sampleCell_acts _ s
    · exact .refl s
  case guardPinChange => exact .aside (withGuard_aside _ s)
  case guardDebounceEnd =>
    split
    · exact .refl s
    · exact .aside ((reach_aside _ s).trans (withGuard_aside _ _))
  all_goals exact request_acts _ _ s

/-- A step is an act on the state without the command that it takes. -/
theorem step_acts {s t : State} (h : step s = .next t) :
    ∃ rest, Acts { s with pending := rest } t := by
  unfold step at h
  split at h
  · next hp =>
    cases h
    exact ⟨[], by
      have hs : { s with pending := [] } = s := by rw [← hp]
      rw [hs]
      exact idle_acts s⟩
  · next c rest _ => exact ⟨rest, exec_acts h⟩

/-! ### What a request's service can do -/

theorem serveMisfit_aside (a : Ask) (k : Kind) (s : State) : Aside s (serveMisfit a k s) := by
  unfold serveMisfit
  split
  · exact .refl s
  · exact reply_aside _ _ _ _ s

/-- The requests of the Sound Engine, the Rumble Driver and the Notice Unit, the readings, and those of
no layout, leave store, Calendar and power alone. -/
theorem serve_aside {e : Entry} (hs : e.request.kind.owner ≠ .saveStore)
    (hc : e.request.kind.owner ≠ .calendar) (s : State) : Aside s (serve e s) := by
  obtain ⟨a, r⟩ := e
  cases r
  case ident => exact reply_aside _ _ _ _ s
  case playSound => exact servePlaySound_aside _ _ _ _ _ _ s
  case stopSound => exact serveStopSound_aside _ _ _ s
  case voiceSet => exact serveVoiceSet_aside _ _ _ s
  case masterLevel => exact serveMasterLevel_aside _ _ s
  case playRumble => exact servePlayRumble_aside _ _ _ _ s
  case steadyRumble => exact serveSteadyRumble_aside _ _ _ _ _ s
  case stopRumble => exact serveStopRumble_aside _ _ s
  case motorCheck => exact serveMotorCheck_aside _ s
  case noticeEnable =>
    simp only [serve, serveNoticeEnable]
    split
    · exact reply_aside _ _ _ _ s
    · exact (withNu_aside _ s).trans (reply_aside _ _ _ _ _)
  case noticeRead => exact (withNu_aside _ s).trans (reply_aside _ _ _ _ _)
  case statsRead =>
    simp only [serve, serveStatsRead]
    split
    · exact reply_aside _ _ _ _ s
    · exact (withNu_aside _ s).trans (reply_aside _ _ _ _ _)
  case misfit k => exact serveMisfit_aside a k s
  all_goals simp [Request.kind, Kind.owner] at hs hc

end Sys2Proof.Machine
end

section
/-! SUPPORT. The Save Store's operations, one rule each: what an entry of a table reads after a write, what
a run of marks, a release, a check and a slot write do to pages and slots, and what they leave alone. -/

namespace Sys2Proof

/-! ### Tables -/

theorem getAt_of_lt {α : Type} {n : Nat} (v : Vector α n) {i : Nat} (d : α) (h : i < n) :
    getAt v i d = v[i] := by
  simp [getAt, h]

theorem getAt_of_ge {α : Type} {n : Nat} (v : Vector α n) {i : Nat} (d : α) (h : n ≤ i) :
    getAt v i d = d := by
  simp [getAt, h]

theorem getAt_setAt_same {α : Type} {n : Nat} (v : Vector α n) {i : Nat} (x d : α) (h : i < n) :
    getAt (setAt v i x) i d = x := by
  simp [getAt, setAt, h]

@[simp] theorem getAt_setAt_other {α : Type} {n : Nat} (v : Vector α n) {i j : Nat} (x d : α)
    (h : j ≠ i) : getAt (setAt v i x) j d = getAt v j d := by
  simp [getAt, setAt, Vector.getElem?_setIfInBounds_ne h.symm]

theorem setAt_of_ge {α : Type} {n : Nat} (v : Vector α n) {i : Nat} (x : α) (h : n ≤ i) :
    setAt v i x = v := by
  ext j hj
  simp [setAt, show ¬ i = j by omega]

end Sys2Proof

namespace Sys2Proof.Machine

variable (x : SaveStore)

/-! ### Pages and slots of the tables -/

theorem SaveStore.page_fin (p : Fin 128) : x.page p.val = x.owner[p] := getAt_of_lt _ _ p.isLt

theorem SaveStore.slot_fin (k : Fin 8) : x.slot k.val = x.slots[k] := getAt_of_lt _ _ k.isLt

theorem SaveStore.page_beyond {p : Nat} (h : 128 ≤ p) : x.page p = freePage := getAt_of_ge _ _ h

theorem SaveStore.slot_beyond {k : Nat} (h : 8 ≤ k) : x.slot k = emptySlot := getAt_of_ge _ _ h

/-- Two owner tables are equal when their pages are. -/
theorem SaveStore.owner_ext {x y : SaveStore} (h : ∀ p < 128, x.page p = y.page p) :
    x.owner = y.owner := by
  ext p hp
  have := h p hp
  rwa [SaveStore.page, SaveStore.page, getAt_of_lt _ _ hp, getAt_of_lt _ _ hp] at this

/-- Two slot directories are equal when their slots are. -/
theorem SaveStore.slots_ext {x y : SaveStore} (h : ∀ k < 8, x.slot k = y.slot k) :
    x.slots = y.slots := by
  ext k hk
  have := h k hk
  rwa [SaveStore.slot, SaveStore.slot, getAt_of_lt _ _ hk, getAt_of_lt _ _ hk] at this

/-! ### One mark -/

section
variable (p : Nat) (m : Mark)
@[simp] theorem SaveStore.withMark_ram : (x.withMark p m).ram = x.ram := rfl
@[simp] theorem SaveStore.withMark_slots : (x.withMark p m).slots = x.slots := rfl
@[simp] theorem SaveStore.withMark_slot (k : Nat) : (x.withMark p m).slot k = x.slot k := rfl
@[simp] theorem SaveStore.withMark_write : (x.withMark p m).write = x.write := rfl
@[simp] theorem SaveStore.withMark_read : (x.withMark p m).read = x.read := rfl
@[simp] theorem SaveStore.withMark_scrub : (x.withMark p m).scrub = x.scrub := rfl
@[simp] theorem SaveStore.withMark_inSnapshot (q : Nat) :
    (x.withMark p m).inSnapshot q = x.inSnapshot q := rfl
end

theorem SaveStore.page_withMark_same {p : Nat} (m : Mark) (h : p < 128) :
    (x.withMark p m).page p = { x.page p with mark := m } := getAt_setAt_same _ _ _ h

@[simp] theorem SaveStore.page_withMark_other {p q : Nat} (m : Mark) (h : q ≠ p) :
    (x.withMark p m).page q = x.page q := getAt_setAt_other _ _ _ h

@[simp] theorem SaveStore.check_withMark (p q : Nat) (m : Mark) :
    ((x.withMark p m).page q).check = (x.page q).check := by
  by_cases h : q = p
  · subst h
    by_cases hq : q < 128
    · rw [page_withMark_same _ _ hq]
    · rw [page_beyond _ (by omega), page_beyond _ (by omega)]
  · rw [page_withMark_other _ _ h]

/-! ### Runs of marks -/

/-- The pages of a list take the marks that stand beside them. -/
def SaveStore.markPairs (x : SaveStore) (l : List (Nat × Mark)) : SaveStore :=
  l.foldl (fun x q => x.withMark q.1 q.2) x

theorem SaveStore.markAll_eq (m : Mark) (l : List Nat) :
    x.markAll m l = x.markPairs (l.map fun p => (p, m)) := by
  simp [markAll, markPairs, List.foldl_map]

theorem SaveStore.markPairs_frame (l : List (Nat × Mark)) :
    x.markPairs l = { x with owner := (x.markPairs l).owner } := by
  induction l generalizing x with
  | nil => rfl
  | cons q rest ih => exact ih (x.withMark q.1 q.2)

section
variable (l : List (Nat × Mark))
@[simp] theorem SaveStore.markPairs_ram : (x.markPairs l).ram = x.ram := by rw [markPairs_frame]
@[simp] theorem SaveStore.markPairs_slots : (x.markPairs l).slots = x.slots := by rw [markPairs_frame]
@[simp] theorem SaveStore.markPairs_slot (k : Nat) : (x.markPairs l).slot k = x.slot k := by
  rw [markPairs_frame]; rfl
@[simp] theorem SaveStore.markPairs_write : (x.markPairs l).write = x.write := by rw [markPairs_frame]
@[simp] theorem SaveStore.markPairs_read : (x.markPairs l).read = x.read := by rw [markPairs_frame]
@[simp] theorem SaveStore.markPairs_scrub : (x.markPairs l).scrub = x.scrub := by rw [markPairs_frame]
end

@[simp] theorem SaveStore.check_markPairs (l : List (Nat × Mark)) (p : Nat) :
    ((x.markPairs l).page p).check = (x.page p).check := by
  induction l generalizing x with
  | nil => rfl
  | cons q rest ih => exact (ih (x.withMark q.1 q.2)).trans (check_withMark _ _ _ _)

theorem SaveStore.page_markPairs_unlisted {l : List (Nat × Mark)} {p : Nat}
    (h : p ∉ l.map Prod.fst) : (x.markPairs l).page p = x.page p := by
  induction l generalizing x with
  | nil => rfl
  | cons q rest ih =>
    simp only [List.map_cons, List.mem_cons, not_or] at h
    exact (ih (x.withMark q.1 q.2) h.2).trans (page_withMark_other _ _ h.1)

theorem SaveStore.page_markPairs_listed {l : List (Nat × Mark)} {p : Nat} {m : Mark} (hp : p < 128)
    (h : p ∈ l.map Prod.fst) (hm : ∀ q ∈ l, q.1 = p → q.2 = m) :
    (x.markPairs l).page p = { x.page p with mark := m } := by
  induction l generalizing x with
  | nil => simp at h
  | cons q rest ih =>
    show ((x.withMark q.1 q.2).markPairs rest).page p = _
    have hrest : ∀ r ∈ rest, r.1 = p → r.2 = m := fun r hr => hm r (List.mem_cons_of_mem _ hr)
    have hhead : (x.withMark q.1 q.2).page p = x.page p ∨
        (x.withMark q.1 q.2).page p = { x.page p with mark := m } := by
      by_cases hq : q.1 = p
      · rw [hm q List.mem_cons_self hq, hq, page_withMark_same _ _ hp]
        exact .inr rfl
      · exact .inl (page_withMark_other _ _ (Ne.symm hq))
    by_cases hin : p ∈ rest.map Prod.fst
    · rw [ih _ hin hrest]
      rcases hhead with e | e <;> rw [e]
    · rw [page_markPairs_unlisted _ hin]
      have hq : q.1 = p := by
        rw [List.map_cons, List.mem_cons] at h
        exact (h.resolve_right hin).symm
      rw [hm q List.mem_cons_self hq, hq, page_withMark_same _ _ hp]

/-! ### One mark for a list of pages -/

section
variable (m : Mark) (l : List Nat)
@[simp] theorem SaveStore.markAll_ram : (x.markAll m l).ram = x.ram := by simp [markAll_eq]
@[simp] theorem SaveStore.markAll_slots : (x.markAll m l).slots = x.slots := by simp [markAll_eq]
@[simp] theorem SaveStore.markAll_slot (k : Nat) : (x.markAll m l).slot k = x.slot k := by
  simp [markAll_eq]
@[simp] theorem SaveStore.markAll_write : (x.markAll m l).write = x.write := by simp [markAll_eq]
@[simp] theorem SaveStore.markAll_read : (x.markAll m l).read = x.read := by simp [markAll_eq]
@[simp] theorem SaveStore.markAll_scrub : (x.markAll m l).scrub = x.scrub := by simp [markAll_eq]
theorem SaveStore.markAll_frame : x.markAll m l = { x with owner := (x.markAll m l).owner } := by
  rw [markAll_eq, ← markPairs_frame]
@[simp] theorem SaveStore.check_markAll (p : Nat) :
    ((x.markAll m l).page p).check = (x.page p).check := by simp [markAll_eq]
end

theorem SaveStore.page_markAll (m : Mark) (l : List Nat) {p : Nat} (hp : p < 128) :
    (x.markAll m l).page p = if p ∈ l then { x.page p with mark := m } else x.page p := by
  rw [markAll_eq]
  split
  · next h => exact page_markPairs_listed _ hp (by simpa using h) (by simp)
  · next h => exact page_markPairs_unlisted _ (by simpa using h)

/-! ### Released pages (R22) -/

theorem SaveStore.release_eq (l : List Nat) :
    x.release l = x.markPairs (l.map fun p => (p, if x.inSnapshot p then .pinned else .free)) := by
  simp only [release, markPairs, List.foldl_map]
  induction l generalizing x with
  | nil => rfl
  | cons q rest ih => exact ih _

section
variable (l : List Nat)
@[simp] theorem SaveStore.release_ram : (x.release l).ram = x.ram := by simp [release_eq]
@[simp] theorem SaveStore.release_slots : (x.release l).slots = x.slots := by simp [release_eq]
@[simp] theorem SaveStore.release_slot (k : Nat) : (x.release l).slot k = x.slot k := by
  simp [release_eq]
@[simp] theorem SaveStore.release_write : (x.release l).write = x.write := by simp [release_eq]
@[simp] theorem SaveStore.release_read : (x.release l).read = x.read := by simp [release_eq]
@[simp] theorem SaveStore.release_scrub : (x.release l).scrub = x.scrub := by simp [release_eq]
theorem SaveStore.release_frame : x.release l = { x with owner := (x.release l).owner } := by
  rw [release_eq, ← markPairs_frame]
@[simp] theorem SaveStore.check_release (p : Nat) :
    ((x.release l).page p).check = (x.page p).check := by simp [release_eq]
end

theorem SaveStore.page_release_unlisted {l : List Nat} {p : Nat} (h : p ∉ l) :
    (x.release l).page p = x.page p := by
  rw [release_eq]
  exact page_markPairs_unlisted _ (by simpa using h)

theorem SaveStore.page_release (l : List Nat) {p : Nat} (hp : p < 128) :
    (x.release l).page p = if p ∈ l then
      { x.page p with mark := if x.inSnapshot p then .pinned else .free } else x.page p := by
  split
  · next h =>
    rw [release_eq]
    refine page_markPairs_listed _ hp (by simpa using h) ?_
    simp only [List.mem_map]
    rintro _ ⟨a, -, rfl⟩ rfl
    rfl
  · next h => exact page_release_unlisted _ h

/-! ### Checks and slots -/

section
variable (p : Nat)
@[simp] theorem SaveStore.makeCheck_ram : (x.makeCheck p).ram = x.ram := rfl
@[simp] theorem SaveStore.makeCheck_slots : (x.makeCheck p).slots = x.slots := rfl
@[simp] theorem SaveStore.makeCheck_slot (k : Nat) : (x.makeCheck p).slot k = x.slot k := rfl
@[simp] theorem SaveStore.makeCheck_write : (x.makeCheck p).write = x.write := rfl
@[simp] theorem SaveStore.makeCheck_read : (x.makeCheck p).read = x.read := rfl
@[simp] theorem SaveStore.makeCheck_scrub : (x.makeCheck p).scrub = x.scrub := rfl
end

theorem SaveStore.page_makeCheck_same {p : Nat} (h : p < 128) :
    (x.makeCheck p).page p = { x.page p with check := pageCrc x.ram p } := getAt_setAt_same _ _ _ h

@[simp] theorem SaveStore.page_makeCheck_other {p q : Nat} (h : q ≠ p) :
    (x.makeCheck p).page q = x.page q := getAt_setAt_other _ _ _ h

@[simp] theorem SaveStore.mark_makeCheck (p q : Nat) :
    ((x.makeCheck p).page q).mark = (x.page q).mark := by
  by_cases h : q = p
  · subst h
    by_cases hq : q < 128
    · rw [page_makeCheck_same _ hq]
    · rw [page_beyond _ (by omega), page_beyond _ (by omega)]
  · rw [page_makeCheck_other _ h]

section
variable (a : Nat) (l : List Byte)
@[simp] theorem SaveStore.poke_page (p : Nat) : (x.poke a l).page p = x.page p := rfl
@[simp] theorem SaveStore.poke_slot (k : Nat) : (x.poke a l).slot k = x.slot k := rfl
@[simp] theorem SaveStore.poke_slots : (x.poke a l).slots = x.slots := rfl
@[simp] theorem SaveStore.poke_owner : (x.poke a l).owner = x.owner := rfl
@[simp] theorem SaveStore.poke_ram : (x.poke a l).ram = Memory.writeRun x.ram a l := rfl
@[simp] theorem SaveStore.poke_write : (x.poke a l).write = x.write := rfl
@[simp] theorem SaveStore.poke_read : (x.poke a l).read = x.read := rfl
@[simp] theorem SaveStore.poke_scrub : (x.poke a l).scrub = x.scrub := rfl
end

section
variable (k : Nat) (r : Slot)
@[simp] theorem SaveStore.withSlot_ram : (x.withSlot k r).ram = x.ram := rfl
@[simp] theorem SaveStore.withSlot_owner : (x.withSlot k r).owner = x.owner := rfl
@[simp] theorem SaveStore.withSlot_page (p : Nat) : (x.withSlot k r).page p = x.page p := rfl
@[simp] theorem SaveStore.withSlot_write : (x.withSlot k r).write = x.write := rfl
@[simp] theorem SaveStore.withSlot_read : (x.withSlot k r).read = x.read := rfl
@[simp] theorem SaveStore.withSlot_scrub : (x.withSlot k r).scrub = x.scrub := rfl
@[simp] theorem SaveStore.withSlot_inSnapshot (q : Nat) :
    (x.withSlot k r).inSnapshot q = x.inSnapshot q := rfl
end

theorem SaveStore.slot_withSlot_same {k : Nat} (r : Slot) (h : k < 8) :
    (x.withSlot k r).slot k = r := getAt_setAt_same _ _ _ h

@[simp] theorem SaveStore.slot_withSlot_other {k j : Nat} (r : Slot) (h : j ≠ k) :
    (x.withSlot k r).slot j = x.slot j := getAt_setAt_other _ _ _ h

/-! ### The end of a read stream (R22) -/

@[simp] theorem SaveStore.endRead_ram : x.endRead.ram = x.ram := by simp [endRead]
@[simp] theorem SaveStore.endRead_slots : x.endRead.slots = x.slots := by simp [endRead]
@[simp] theorem SaveStore.endRead_slot (k : Nat) : x.endRead.slot k = x.slot k := by
  simp [slot]
@[simp] theorem SaveStore.endRead_write : x.endRead.write = x.write := by simp [endRead]
@[simp] theorem SaveStore.endRead_read : x.endRead.read = none := rfl
@[simp] theorem SaveStore.endRead_scrub : x.endRead.scrub = x.scrub := by simp [endRead]

theorem SaveStore.endRead_frame :
    x.endRead = { x with owner := x.endRead.owner, read := none } := by
  unfold endRead
  rw [markAll_frame]

theorem mem_pageNumbers {p : Nat} : p ∈ pageNumbers ↔ p < 128 := by
  simp [pageNumbers, Config.pageCount]

theorem SaveStore.page_endRead {p : Nat} (hp : p < 128) : x.endRead.page p =
    { x.page p with mark := if (x.page p).mark = .pinned then .free else (x.page p).mark } := by
  show (x.markAll _ _).page p = _
  rw [page_markAll _ _ _ hp]
  simp only [List.mem_filter, mem_pageNumbers, hp, true_and, beq_iff_eq]
  split <;> rfl

end Sys2Proof.Machine
end

section
/-! SUPPORT. The page RAM stays canonical and the Calendar keeps its laws in every step. -/

namespace Sys2Proof.Machine

/-! ### What the Save Store's acts do to the page RAM -/

/-- `t` has a canonical page RAM where `s` has one. -/
def KeepsRam (x y : SaveStore) : Prop := Memory.wf x.ram = true → Memory.wf y.ram = true

theorem KeepsRam.refl (x : SaveStore) : KeepsRam x x := id

theorem KeepsRam.trans {x y z : SaveStore} (h : KeepsRam x y) (k : KeepsRam y z) : KeepsRam x z :=
  fun w => k (h w)

theorem KeepsRam.of_eq {x y : SaveStore} (h : y.ram = x.ram) : KeepsRam x y := by
  unfold KeepsRam
  rw [h]
  exact id

theorem poke_keepsRam (x : SaveStore) (a : Nat) (l : List Byte) : KeepsRam x (x.poke a l) :=
  fun h => Memory.writeRun_wf h a l

theorem SaveStore.putByte_ram (x : SaveStore) (patch : Bool) (p at_ : Nat) (b : Byte) :
    (x.putByte patch p at_ b).ram = Memory.write x.ram (256 * p + at_ % 256) b := by
  unfold putByte
  simp only
  split <;> rfl

theorem putByte_keepsRam (x : SaveStore) (patch : Bool) (p at_ : Nat) (b : Byte) :
    KeepsRam x (x.putByte patch p at_ b) := by
  intro h
  rw [SaveStore.putByte_ram]
  exact Memory.write_wf h _ _

@[simp] theorem abandonStream_ram (w : WriteStream) (s : State) :
    (abandonStream w s).ss.ram = s.ss.ram := by
  simp [abandonStream, State.withWrite, SaveStore.freeStaged]

@[simp] theorem breakStream_ram (w : WriteStream) (cause : LostCause) (s : State) :
    (breakStream w cause s).ss.ram = s.ss.ram := by
  simp [breakStream, State.withWrite, SaveStore.freeStaged]

@[simp] theorem damageSlot_ram (slot : Nat) (cause : DamageCause) (s : State) :
    (damageSlot slot cause s).ss.ram = s.ss.ram := by
  simp [damageSlot, SaveStore.damage]

theorem feed_keepsRam (l : List Byte) (s : State) : KeepsRam s.ss (feed l s).ss := by
  intro h
  induction l generalizing s with
  | nil =>
    unfold feed
    split <;> exact h
  | cons b rest ih =>
    unfold feed
    simp only
    repeat' split
    · exact h
    · exact ih _ (putByte_keepsRam _ _ _ _ _ h)
    · rwa [breakStream_ram]
    · exact ih _ (putByte_keepsRam _ _ _ _ _ h)
    · exact h
    · exact ih _ (putByte_keepsRam _ _ _ _ _ (poke_keepsRam _ _ _ h))

theorem copyComplete_keepsRam (s : State) : KeepsRam s.ss (copyComplete s).ss := by
  intro h
  unfold copyComplete
  simp only
  repeat' split
  · exact h
  · exact feed_keepsRam _ _ (poke_keepsRam _ _ _ h)
  · simpa using h
  · exact h

theorem foldl_makeCheck_ram (l : List (Nat × Nat)) (x : SaveStore) :
    (l.foldl (fun x q => x.makeCheck q.2) x).ram = x.ram := by
  induction l generalizing x with
  | nil => rfl
  | cons q rest ih => exact ih _

theorem complete_keepsRam (x : SaveStore) (w : WriteStream) : KeepsRam x (x.complete w) := by
  unfold SaveStore.complete
  split
  · exact .of_eq (foldl_makeCheck_ram _ _)
  · split
    · exact .refl x
    · split
      · exact .refl x
      · exact poke_keepsRam x _ _

/-- The marks of the commit: the staged pages become LIVE (R14, R15). -/
theorem foldl_live_eq (slot : Nat) (l : List (Nat × Nat)) (x : SaveStore) :
    l.foldl (fun x q => x.withMark q.2 (.live slot q.1)) x =
      x.markPairs (l.map fun q => (q.2, .live slot q.1)) := by
  simp [SaveStore.markPairs, List.foldl_map]

theorem commit_ram (x : SaveStore) (c : Calendar) (w : WriteStream) :
    (x.commit c w).ram = (x.complete w).ram := by
  simp [SaveStore.commit, foldl_live_eq]

/-! ### The Calendar's laws under its updates -/

theorem secondLength_pos {c : Calendar} (h : -127 ≤ c.trimUse) : 0 < c.secondLength := by
  unfold Calendar.secondLength Config.secondCounts
  split <;> omega

/-- A second step keeps the Calendar's laws (R32, R33, R40). -/
theorem stepped_sound {c : Calendar} (h : CalendarSound c) (hr : c.running = true)
    (he : c.ended = false) : CalendarSound c.stepped := by
  obtain ⟨ht, hm, htm, hrew, hrw, hend, hrun, -, -, hq1, hq2, hu1, hu2⟩ := h
  have hlt : c.time ≠ Config.maxTime := fun hk => by simp [hend.2 hk] at he
  simp only [Config.maxTime] at ht hm hlt
  have hu : -127 ≤ c.stepped.trimUse ∧ c.stepped.trimUse ≤ 127 := by
    simp only [Calendar.stepped]
    split <;> omega
  refine ⟨?_, ?_, ?_, ?_, hrw, ?_, by simp [Calendar.stepped, hr], secondLength_pos hu.1, fun _ => rfl,
    hq1, hq2, hu⟩
  all_goals simp only [Calendar.stepped]
  · simp only [Config.maxTime]
    omega
  · simp only [Config.maxTime]
    split <;> omega
  · split <;> omega
  · split
    · omega
    · exact fun _ => hrew (by omega)
  · rw [decide_eq_true_eq, Config.maxTime]
    omega

theorem clockSetOk_time {time : Nat} {zone : Option Int} {hour : Option Nat}
    (h : clockSetOk time zone hour = true) : time ≤ Config.maxTime := by
  simp only [clockSetOk, Bool.and_eq_true, decide_eq_true_eq] at h
  exact h.1.1

/-- CLOCK_SET keeps the Calendar's laws (R41). -/
theorem set_sound {c : Calendar} (h : CalendarSound c) {time : Nat} (zone : Option Int)
    (hour : Option Nat) (ht : time ≤ Config.maxTime) : CalendarSound (c.set time zone hour) := by
  obtain ⟨-, hm, -, -, hrw, -, -, -, -, hq1, hq2, hu1, hu2⟩ := h
  refine ⟨ht, ?_, ?_, ?_, ?_, ?_, by simp [Calendar.set],
    secondLength_pos (c := c.set time zone hour) hu1, fun _ => rfl, hq1, hq2, hu1, hu2⟩
  all_goals simp only [Calendar.set]
  · split
    · exact hm
    · exact ht
  · split
    · next hb =>
      simp only [Bool.and_eq_true, decide_eq_true_eq] at hb
      omega
    · exact le_rfl
  · split
    · next hb => simp [hb]
    · exact fun hk => absurd hk (lt_irrefl _)
  · intro hk
    rw [Bool.or_eq_false_iff] at hk
    simp [hk.2, hrw hk.1]
  · simp

/-- CLOCK_ACCEPT keeps the Calendar's laws (R42). -/
theorem accept_sound {c : Calendar} (h : CalendarSound c) (hr : c.running = true) :
    CalendarSound { c with rewound := false, rewind := 0, mark := c.time } := by
  obtain ⟨ht, -, -, -, -, hend, -, hp, hp0, hq1, hq2, hu1, hu2⟩ := h
  exact ⟨ht, ht, le_rfl, fun hk => absurd hk (lt_irrefl _), fun _ => rfl, hend, by simp [hr], hp, hp0,
    hq1, hq2, hu1, hu2⟩

theorem prescaler_sound {c : Calendar} (h : CalendarSound c) (hr : c.running = true)
    (he : c.ended = false) (hd : c.secondDue = false) :
    CalendarSound { c with prescaler := c.prescaler + 1 } := by
  obtain ⟨ht, hm, htm, hrew, hrw, hend, hrun, -, -, hq1, hq2, hu1, hu2⟩ := h
  refine ⟨ht, hm, htm, hrew, hrw, hend, hrun, ?_, by simp [hr, he], hq1, hq2, hu1, hu2⟩
  simp only [Calendar.secondDue, decide_eq_false_iff_not, not_le] at hd
  exact hd

/-- The appointments of a running Calendar are no part of its laws. -/
theorem appointments_sound {c : Calendar} (h : CalendarSound c) {l : List Appointment}
    (hl : c.running = true ∨ (c.appointments = [] → l = [])) :
    CalendarSound { c with appointments := l } := by
  obtain ⟨ht, hm, htm, hrew, hrw, hend, hrun, hp, hp0, hq⟩ := h
  refine ⟨ht, hm, htm, hrew, hrw, hend, fun hk => ?_, hp, hp0, hq⟩
  obtain ⟨h1, h2, h3, h4⟩ := hrun hk
  exact ⟨h1, h2, h3, hl.elim (fun hr => absurd hk (by simp [hr])) fun f => f h4⟩

theorem trim_sound {c : Calendar} (h : CalendarSound c) (n : Int) :
    CalendarSound { c with trimRequested := clampInt n (-127) 127 } := by
  obtain ⟨ht, hm, htm, hrew, hrw, hend, hrun, hp, hp0, -, -, hu⟩ := h
  refine ⟨ht, hm, htm, hrew, hrw, hend, hrun, hp, hp0, ?_, ?_, hu⟩ <;> simp only [clampInt] <;> omega

theorem calendarStart_sound (zone : Int) (hour : Nat) : CalendarSound (calendarStart zone hour) := by
  refine ⟨?_, ?_, ?_, ?_, ?_, ?_, ?_, ?_, ?_, ?_⟩ <;>
    simp [calendarStart, Config.maxTime, Calendar.secondLength, Config.secondCounts]

/-! ### Both laws, from step to step -/

/-- `t` has a canonical page RAM and a sound Calendar where `s` has them. -/
def KeepsLaws (s t : State) : Prop :=
  KeepsRam s.ss t.ss ∧ (CalendarSound s.cal → CalendarSound t.cal)

theorem KeepsLaws.refl (s : State) : KeepsLaws s s := ⟨.refl _, id⟩

theorem KeepsLaws.trans {s t u : State} (h : KeepsLaws s t) (k : KeepsLaws t u) : KeepsLaws s u :=
  ⟨h.1.trans k.1, fun w => k.2 (h.2 w)⟩

/-- `trans` with the last act first, as a nest of acts is read. -/
theorem KeepsLaws.after {s t u : State} (k : KeepsLaws t u) (h : KeepsLaws s t) : KeepsLaws s u :=
  h.trans k

theorem withLif_keepsLaws (x : LineIf) (s : State) : KeepsLaws s (s.withLif x) := ⟨.refl _, id⟩

theorem withPs_keepsLaws (x : Power) (s : State) : KeepsLaws s (s.withPs x) := ⟨.refl _, id⟩

/-- A change of the Save Store that keeps the page RAM. -/
theorem withSs_keepsLaws {x : SaveStore} {s : State} (h : x.ram = s.ss.ram) :
    KeepsLaws s (s.withSs x) := ⟨.of_eq h, id⟩

theorem Aside.keepsLaws {s t : State} (h : Aside s t) : KeepsLaws s t :=
  ⟨.of_eq (by rw [h.ss]), by rw [h.cal]; exact id⟩

theorem KeepsLaws.reply {s t : State} (h : KeepsLaws s t) (a : Ask) (k : Kind) (c : Code)
    (d : ReplyData) : KeepsLaws s (reply a k c d t) := h.trans (reply_aside a k c d t).keepsLaws

theorem reply_keepsLaws (a : Ask) (k : Kind) (c : Code) (d : ReplyData) (s : State) :
    KeepsLaws s (reply a k c d s) := (reply_aside a k c d s).keepsLaws

theorem Stores.cal {s t : State} (h : Stores s t) : t.cal = s.cal := by
  unfold Stores at h
  rw [h]

theorem Stores.keepsLaws {s t : State} (h : Stores s t) (hr : KeepsRam s.ss t.ss) : KeepsLaws s t :=
  ⟨hr, by rw [h.cal]; exact id⟩

theorem Clocks.keepsLaws {s t : State} (h : Clocks s t)
    (hc : CalendarSound s.cal → CalendarSound t.cal) : KeepsLaws s t := by
  refine ⟨.of_eq ?_, hc⟩
  unfold Clocks at h
  rw [h]

theorem withCal_keepsLaws {s : State} {c : Calendar} (h : CalendarSound s.cal → CalendarSound c) :
    KeepsLaws s (s.withCal c) := ⟨.refl _, h⟩

theorem fireDue_calendarSound (n : Nat) {s : State} (hr : s.cal.running = true)
    (h : CalendarSound s.cal) : CalendarSound (fireDue n s).cal := by
  induction n generalizing s with
  | zero => exact h
  | succ n ih =>
    unfold fireDue
    split
    · exact h
    · split
      · exact ih (by simpa using hr) (by simpa using appointments_sound h (.inl hr))
      · exact h

theorem appointmentCheck_keepsLaws (s : State) : KeepsLaws s (appointmentCheck s) := by
  refine (appointmentCheck_clocks s).keepsLaws fun h => ?_
  unfold appointmentCheck
  split
  · next hr => exact fireDue_calendarSound _ (by simp_all) h
  · exact h

theorem dayTurnCheck_keepsLaws (s : State) : KeepsLaws s (dayTurnCheck s) := by
  refine (dayTurnCheck_clocks s).keepsLaws fun h => ?_
  unfold dayTurnCheck
  split
  · rw [raiseNotice_cal]
    exact h
  · exact h

theorem crystalCount_keepsLaws (s : State) : KeepsLaws s (crystalCount s) := by
  have counted : KeepsLaws s (samplerCount s) := ⟨.refl _, id⟩
  refine counted.trans ?_
  show KeepsLaws (samplerCount s) (prescalerCount (samplerCount s))
  generalize samplerCount s = u
  unfold prescalerCount calendarStep
  split
  · next hr =>
    simp only [Bool.and_eq_true, Bool.not_eq_true'] at hr
    split
    · exact ((withCal_keepsLaws fun h => stepped_sound h hr.1 hr.2).trans
        (dayTurnCheck_keepsLaws _)).trans (appointmentCheck_keepsLaws _)
    · next hd => exact withCal_keepsLaws fun h => prescaler_sound h hr.1 hr.2 (by simpa using hd)
  · exact .refl u

/-! ### Requests -/

theorem slotEmptied_keepsLaws (slot : Nat) (s : State) : KeepsLaws s (slotEmptied slot s) :=
  withCal_keepsLaws fun h => appointments_sound h (.inr fun e => by rw [e]; rfl)

theorem serveSaveData_keepsRam (source toggle : Nat) (data : List Byte) (s : State) :
    KeepsRam s.ss (serveSaveData source toggle data s).ss := by
  unfold serveSaveData
  simp only
  repeat' split
  · exact .refl _
  · exact .refl _
  · exact .refl _
  · exact .of_eq rfl
  · exact .of_eq rfl
  · exact .of_eq (by simp [State.withWrite])
  · exact .of_eq (by simp [State.withWrite])
  · exact fun h => feed_keepsRam _ _ h

theorem serveSaveClose_keepsLaws (a : Ask) (n mode : Nat) (s : State) :
    KeepsLaws s (serveSaveClose a n mode s) := by
  have left {t : State} (hr : t.ss.ram = s.ss.ram) (hc : t.cal = s.cal) (c : Code) (d : ReplyData) :
      KeepsLaws s (reply a .saveClose c d t) :=
    ⟨.of_eq (by simpa using hr), by simp [hc]⟩
  unfold serveSaveClose closeCommit
  simp only
  repeat' split
  iterate 3 exact left rfl rfl _ _
  · exact left (by rfl) (by rfl) _ _
  iterate 4 exact left (by simp) (by rfl) _ _
  · refine ⟨?_, by simp⟩
    simp only [reply_ss, State.withSs_ss]
    exact (complete_keepsRam _ _).trans (.of_eq (commit_ram _ _ _))

theorem serveSaveErase_keepsLaws (a : Ask) (slot : Nat) (s : State) :
    KeepsLaws s (serveSaveErase a slot s) := by
  unfold serveSaveErase
  simp only
  repeat' split
  iterate 4 exact reply_keepsLaws _ _ _ _ s
  · refine (KeepsLaws.trans ?_ (slotEmptied_keepsLaws slot _)).reply _ _ _ _
    exact ⟨.of_eq (by simp), id⟩

theorem serveClockSet_keepsLaws (a : Ask) (time : Nat) (zone : Option Int) (hour : Option Nat)
    (s : State) : KeepsLaws s (serveClockSet a time zone hour s) := by
  unfold serveClockSet
  split
  · next hok =>
    exact ((withCal_keepsLaws fun h => set_sound h zone hour (clockSetOk_time hok)).trans
      (appointmentCheck_keepsLaws _)).reply _ _ _ _
  · exact reply_keepsLaws _ _ _ _ s

theorem serveAppointSet_keepsLaws (a : Ask) (tag due period : Nat) (link : Option Nat) (s : State) :
    KeepsLaws s (serveAppointSet a tag due period link s) := by
  unfold serveAppointSet
  simp only
  repeat' split
  iterate 5 exact reply_keepsLaws _ _ _ _ s
  · next hr _ _ =>
    exact .reply (withCal_keepsLaws fun h => appointments_sound h (.inl (not_not.mp hr))) _ _ _ _

theorem serveAppointClear_keepsLaws (a : Ask) (tag : Nat) (s : State) :
    KeepsLaws s (serveAppointClear a tag s) := by
  unfold serveAppointClear
  simp only
  repeat' split
  · exact .reply (withCal_keepsLaws fun h => appointments_sound h (.inr fun _ => rfl)) _ _ _ _
  · refine .reply (withCal_keepsLaws fun h => appointments_sound h (.inr fun e => ?_)) _ _ _ _
    rw [e]
    rfl
  · exact reply_keepsLaws _ _ _ _ s

theorem serve_keepsLaws (e : Entry) (s : State) : KeepsLaws s (serve e s) := by
  by_cases ho : e.request.kind.owner ≠ .saveStore ∧ e.request.kind.owner ≠ .calendar
  · exact (serve_aside ho.1 ho.2 s).keepsLaws
  · obtain ⟨a, r⟩ := e
    cases r
    case saveOpen slot form =>
      simp only [serve, serveSaveOpen]
      split
      · exact reply_keepsLaws _ _ _ _ s
      · exact (withSs_keepsLaws (by rfl)).reply _ _ _ _
    case saveData => exact (serveSaveData_stores _ _ _ s).keepsLaws (serveSaveData_keepsRam _ _ _ s)
    case saveClose => exact serveSaveClose_keepsLaws _ _ _ s
    case saveRead slot offset length =>
      simp only [serve, serveSaveRead]
      split
      · exact reply_keepsLaws _ _ _ _ s
      · exact (withSs_keepsLaws (by rfl)).reply _ _ _ _
    case saveErase => exact serveSaveErase_keepsLaws _ _ s
    case saveInfo slot =>
      simp only [serve, serveSaveInfo]
      split <;> exact reply_keepsLaws _ _ _ _ s
    case clockSet => exact serveClockSet_keepsLaws _ _ _ _ s
    case clockRead => exact reply_keepsLaws _ _ _ _ s
    case clockAccept =>
      simp only [serve, serveClockAccept]
      split
      · next hr => exact .reply (withCal_keepsLaws fun h => accept_sound h hr) _ _ _ _
      · exact reply_keepsLaws _ _ _ _ s
    case clockTrim =>
      exact .reply (withCal_keepsLaws fun h => trim_sound h _) _ _ _ _
    case appointSet => exact serveAppointSet_keepsLaws _ _ _ _ _ s
    case appointClear => exact serveAppointClear_keepsLaws _ _ s
    case appointList start =>
      simp only [serve, serveAppointList]
      split <;> exact reply_keepsLaws _ _ _ _ s
    case misfit k => exact (serveMisfit_aside a k s).keepsLaws
    all_goals simp [Request.kind, Kind.owner] at ho

theorem drainInbox_keepsLaws (s : State) : KeepsLaws s (drainInbox s) := by
  unfold drainInbox
  generalize s.lif.inbox.length = n
  induction n generalizing s with
  | zero => exact .refl s
  | succ n ih =>
    unfold handOn
    split
    · exact .refl s
    · next e rest _ =>
      split
      · exact (ih _).after ((serve_keepsLaws e _).after (withLif_keepsLaws _ s))
      · exact .refl s

theorem refuseRequest_aside (e : Entry) (c : Code) (s : State) : Aside s (refuseRequest e c s) := by
  unfold refuseRequest
  split
  · exact .refl s
  · exact reply_aside _ _ _ _ s

theorem enterRequest_keepsLaws (e : Entry) (s : State) : KeepsLaws s (enterRequest e s) := by
  unfold enterRequest
  repeat' split
  · exact (refuseRequest_aside _ _ s).keepsLaws
  · exact (refuseRequest_aside _ _ s).keepsLaws
  · exact .refl s
  · exact (drainInbox_keepsLaws _).after (withLif_keepsLaws _ s)

/-! ### Starts, DOZE and KEEP -/

theorem foldl_refuseRequest_posts (l : List Entry) (s : State) :
    Posts s (l.foldl (fun s e => refuseRequest e .dozing s) s) := by
  induction l generalizing s with
  | nil => exact .refl s
  | cons e rest ih =>
    refine Posts.trans ?_ (ih _)
    show Posts s (refuseRequest e .dozing s)
    unfold refuseRequest
    split
    · exact .refl s
    · exact reply_posts _ _ _ _ s

theorem lineDoze_keepsLaws (s : State) : KeepsLaws s (lineDoze s) :=
  (foldl_refuseRequest_posts _ _).aside.keepsLaws.after (withLif_keepsLaws _ s)

theorem storeDoze_keepsLaws (s : State) : KeepsLaws s (storeDoze s) := by
  have wrote : (dozeWrite s).ss.ram = s.ss.ram := by
    unfold dozeWrite
    repeat' split
    · rfl
    · rfl
    · simp
    · simp
  refine (storeDoze_stores s).keepsLaws (.of_eq ?_)
  unfold storeDoze
  simp only
  split <;> simp [wrote]

theorem enterDoze_keepsLaws (s : State) : KeepsLaws s (enterDoze s) :=
  (drainInbox_keepsLaws _).after <| (budgetDoze_aside _).keepsLaws.after <|
    (beatDoze_aside _).keepsLaws.after <| (storeDoze_keepsLaws _).after <|
    (rumbleDoze_rumbles _).aside.keepsLaws.after <| (soundDoze_sounds _).aside.keepsLaws.after <|
    (lineDoze_keepsLaws _).after (withPs_keepsLaws _ s)

theorem actMode_keepsLaws (m : PowerMode) (s : State) : KeepsLaws s (actMode m s) := by
  unfold actMode
  split
  · split
    · exact enterDoze_keepsLaws s
    · exact .refl s
  · split
    · exact (recompute_aside _).keepsLaws.after (withPs_keepsLaws _ s)
    · exact .refl s
  · exact (enterDoze_keepsLaws _).after (withPs_keepsLaws _ s)

theorem budgetActive_aside (s : State) : Aside s (budgetActive s) :=
  (((withBu_aside _ s).trans (announce_aside _ _)).trans (withBu_aside _ _)).trans
    (recomputeAtStart_budgets _).aside

theorem sendHello_posts (s : State) : Posts s (sendHello s) := handPost_posts _ _

theorem raiseResume_keepsLaws (s : State) : KeepsLaws s (raiseResume s) :=
  (raiseNotice_posts _ _).aside.keepsLaws.after (withPs_keepsLaws _ s)

theorem calendarActive_keepsLaws (s : State) : KeepsLaws s (calendarActive s) := ⟨.refl _, id⟩

theorem enterActive_keepsLaws (s : State) : KeepsLaws s (enterActive s) :=
  (appointmentCheck_keepsLaws _).after <| (raiseResume_keepsLaws _).after <|
    (calendarActive_keepsLaws _).after <| (sendHello_posts _).aside.keepsLaws.after <|
    (budgetActive_aside _).keepsLaws.after (withPs_keepsLaws _ s)

theorem foldl_keepsLaws {α : Type} {f : State → α → State} (h : ∀ s a, KeepsLaws s (f s a))
    (l : List α) (s : State) : KeepsLaws s (l.foldl f s) := by
  induction l generalizing s with
  | nil => exact .refl s
  | cons a rest ih => exact (h s a).trans (ih _)

theorem scrubBegin_keepsLaws (s : State) : KeepsLaws s (scrubBegin s) := by
  have freed (l : List Nat) (n : Option Nat) :
      KeepsLaws s (s.withSs { s.ss.markAll .free l with scrub := n }) := ⟨.of_eq (by simp), id⟩
  refine (freed _ _).trans (foldl_keepsLaws (fun u k => ?_) _ _)
  unfold scrubCheckSlot
  split
  · exact (damageSlot_stores _ _ _).keepsLaws (.of_eq (by simp))
  · exact .refl u

theorem takeSettings_keepsLaws (st : Settings) (valid : Bool) (s : State) :
    KeepsLaws s (takeSettings st valid s) := ⟨.refl _, id⟩

theorem finishCold_keepsLaws (s : State) : KeepsLaws s (finishCold s) := ⟨.refl _, id⟩

theorem settingsArrive_keepsLaws (bytes : List Byte) (s : State) :
    KeepsLaws s (settingsArrive bytes s) := by
  have begun : KeepsLaws s (beatBegin (takeSettings (settingsOf s.lif.own bytes)
      (settingsValid bytes) (freePort s))) :=
    (beatBegin_aside _).keepsLaws.after <| (takeSettings_keepsLaws _ _ _).after <|
      (freePort_aside s).keepsLaws
  refine (grant_aside _).keepsLaws.after ?_
  split
  · exact (enterActive_keepsLaws _).after ((finishCold_keepsLaws _).after begun)
  · exact (scrubBegin_keepsLaws _).after begun

theorem foldl_markLive_ram (k : Nat) (l : List (Nat × Nat)) (x : SaveStore) :
    (l.foldl (fun x q => x.withMark q.2 (.live k q.1)) x).ram = x.ram := by
  rw [foldl_live_eq]
  simp

theorem scrubSlot_keepsLaws (acc : List Nat × List Nat × State) (k : Nat) :
    KeepsLaws acc.2.2 (scrubSlot acc k).2.2 := by
  unfold scrubSlot
  simp only
  repeat' split
  · exact .refl _
  · exact .refl _
  · exact ((damageSlot_stores _ _ _).keepsLaws (.of_eq (damageSlot_ram _ _ _))).after
      (withSs_keepsLaws (foldl_markLive_ram _ _ _))
  · exact (raiseNotice_posts _ _).aside.keepsLaws.after <| (slotEmptied_keepsLaws _ _).after <|
      withSs_keepsLaws rfl

theorem scrubEnd_keepsLaws (freed : Nat) (s : State) : KeepsLaws s (scrubEnd freed s) := by
  have folded (l : List Nat) : ∀ acc : List Nat × List Nat × State,
      KeepsLaws acc.2.2 (l.foldl scrubSlot acc).2.2 := by
    induction l with
    | nil => exact fun acc => .refl _
    | cons k rest ih => exact fun acc => (scrubSlot_keepsLaws acc k).trans (ih _)
  have h := folded slotNumbers ([], [], s)
  unfold scrubEnd
  generalize slotNumbers.foldl scrubSlot ([], [], s) = r at h
  obtain ⟨accepted, emptied, t⟩ := r
  exact (withPs_keepsLaws _ _).after ((withSs_keepsLaws (by simp)).after h)

theorem sampleCell_keepsLaws (mv : Nat) (s : State) : KeepsLaws s (sampleCell mv s) := by
  unfold sampleCell
  simp only
  split <;> exact ⟨.of_eq (by simp), by simp⟩

theorem askSettings_aside (s : State) : Aside s (askSettings s) :=
  (withPfu_aside { s.pfu with settingsWaiting := true } s).trans (grant_aside _)

theorem coreStart_keepsLaws (own : Nat) (s : State) : KeepsLaws s (coreStart own s) := ⟨.refl _, id⟩

theorem coldStart_keepsLaws (s : State) : KeepsLaws s (coldStart s) :=
  ⟨fun _ => reset_ram_wf, fun _ => calendarStart_sound _ _⟩

theorem beginStart_keepsLaws (own mv : Nat) (s : State) : KeepsLaws s (beginStart own mv s) := by
  have cored := (coreStart_keepsLaws own _).after (withPs_keepsLaws s.ps.started s)
  refine (askSettings_aside _).keepsLaws.after <| (sampleCell_keepsLaws mv _).after <|
    (withGuard_aside _ _).keepsLaws.after ?_
  split
  · exact (coldStart_keepsLaws _).after cored
  · exact cored

theorem calendarKeep_keepsLaws (s : State) : KeepsLaws s (calendarKeep s) := ⟨.refl _, id⟩

theorem railLost_keepsLaws (mv : Nat) (s : State) : KeepsLaws s (railLost mv s) :=
  (sampleCell_keepsLaws mv _).after <| (coreStart_keepsLaws _ _).after <|
    (withPs_keepsLaws _ _).after (calendarKeep_keepsLaws s)

theorem readHandover_ram (s : State) : (readHandover s).ss.ram = s.ss.ram := by
  unfold readHandover
  simp only
  repeat' split
  · rfl
  · rfl
  · rw [handPost_ss]
    exact s.ss.endRead_ram
  · rfl
  · rw [handPost_ss]
    exact s.ss.endRead_ram
  · rw [handPost_ss]
    rfl

theorem readVerify_ram (s : State) : (readVerify s).ss.ram = s.ss.ram := by
  unfold readVerify
  simp only
  repeat' split
  iterate 4 rfl
  · rw [damageSlot_ram]
    rfl
  · rfl

theorem idleExpiry_keepsLaws (s : State) : KeepsLaws s (idleExpiry s) := by
  unfold idleExpiry
  split
  · exact .refl s
  · next w _ =>
    have reached : KeepsLaws s (reach (w.lastActivity + idleCounts s.settings) s) :=
      (reach_aside _ s).keepsLaws
    simp only
    split
    · exact .refl s
    · exact (withSs_keepsLaws (by rfl)).after reached
    · refine (raiseTo_posts _ _ _).aside.keepsLaws.after (KeepsLaws.after ?_ reached)
      exact (abandonStream_stores _ _).keepsLaws (.of_eq (abandonStream_ram _ _))

theorem Acts.keepsLaws {s t : State} (h : Acts s t) : KeepsLaws s t := by
  cases h with
  | aside h => exact h.keepsLaws
  | crystal h => exact h.keepsLaws.trans (crystalCount_keepsLaws _)
  | cell ss cal _ _ _ => exact ⟨.of_eq (by rw [ss]), by rw [cal]; exact id⟩
  | enter e h _ => exact h.keepsLaws.trans (enterRequest_keepsLaws e _)
  | mode m h _ => exact h.keepsLaws.trans (actMode_keepsLaws m _)
  | handover => exact (readHandover_stores s).keepsLaws (.of_eq (readHandover_ram s))
  | verify => exact (readVerify_stores s).keepsLaws (.of_eq (readVerify_ram s))
  | copied =>
    exact ((copyComplete_stores s).keepsLaws (copyComplete_keepsRam s)).trans (drainInbox_keepsLaws _)
  | idled => exact idleExpiry_keepsLaws s
  | scrubbed freed _ _ => exact (scrubEnd_keepsLaws freed s).trans (enterActive_keepsLaws _)
  | settled bytes _ => exact settingsArrive_keepsLaws bytes s
  | started own mv _ => exact beginStart_keepsLaws own mv s
  | failed mv => exact railLost_keepsLaws mv s
  | wiped => exact ⟨fun _ => reset_ram_wf, fun _ => calendarStart_sound 0 5⟩

/-- Settles O4: a step is one of the acts, and each keeps the page RAM canonical and the Calendar's
laws. -/
theorem everyStepKeepsThePageRamAndTheCalendar :
    Obligations.EveryStepKeepsThePageRamAndTheCalendar := by
  intro s t h
  obtain ⟨rest, ha⟩ := step_acts h
  exact ha.keepsLaws

end Sys2Proof.Machine
end

section
/-! SUPPORT. Runs of bytes in the page RAM, and the commit: what it makes of pages, marks, checks, bytes
and slots (R14 to R16, R22). -/

namespace Sys2Proof.Machine

/-! ### Reading after a run of writes -/

theorem Memory.read_writeRun_outside {m : List Host.Cell} (h : Memory.wf m = true) {a x : Nat}
    {l : List Byte} (hx : x < a ∨ a + l.length ≤ x) :
    Memory.read (Memory.writeRun m a l) x = Memory.read m x := by
  induction l generalizing m a with
  | nil => rfl
  | cons b rest ih =>
    simp only [List.length_cons] at hx
    rw [writeRun, ih (write_wf h a b) (by omega), read_write h, if_neg (by omega)]

theorem Memory.read_writeRun_inside {m : List Host.Cell} (h : Memory.wf m = true) {a i : Nat}
    {l : List Byte} (hi : i < l.length) :
    Memory.read (Memory.writeRun m a l) (a + i) = l[i] := by
  induction l generalizing m a i with
  | nil => simp at hi
  | cons b rest ih =>
    rw [writeRun]
    cases i with
    | zero =>
      rw [read_writeRun_outside (write_wf h a b) (.inl (by omega)), read_write h]
      simp
    | succ j =>
      have := ih (write_wf h a b) (a := a + 1) (i := j) (by simpa using hi)
      simpa [Nat.add_assoc, Nat.add_comm 1 j] using this

/-! ### The completing of staged pages (R14, R15) -/

theorem foldl_makeCheck_page_unlisted {l : List (Nat × Nat)} {p : Nat} (h : ∀ q ∈ l, q.2 ≠ p)
    (x : SaveStore) : (l.foldl (fun x q => x.makeCheck q.2) x).page p = x.page p := by
  induction l generalizing x with
  | nil => rfl
  | cons q rest ih =>
    rw [List.forall_mem_cons] at h
    exact (ih h.2 _).trans (x.page_makeCheck_other h.1.symm)

theorem foldl_makeCheck_check {l : List (Nat × Nat)} {p : Nat} (hp : p < 128)
    (h : ∃ q ∈ l, q.2 = p) (x : SaveStore) :
    ((l.foldl (fun x q => x.makeCheck q.2) x).page p).check = pageCrc x.ram p := by
  induction l generalizing x with
  | nil => simp at h
  | cons q rest ih =>
    by_cases hr : ∃ r ∈ rest, r.2 = p
    · exact ih hr (x.makeCheck q.2)
    · push Not at hr
      have hq : q.2 = p := by
        obtain ⟨r, hm, e⟩ := h
        rcases List.mem_cons.1 hm with rfl | hm
        · exact e
        · exact absurd e (hr r hm)
      rw [List.foldl_cons, foldl_makeCheck_page_unlisted hr, hq, x.page_makeCheck_same hp]

theorem foldl_makeCheck_frame (l : List (Nat × Nat)) (x : SaveStore) :
    l.foldl (fun x q => x.makeCheck q.2) x =
      { x with owner := (l.foldl (fun x q => x.makeCheck q.2) x).owner } := by
  induction l generalizing x with
  | nil => rfl
  | cons q rest ih => exact ih (x.makeCheck q.2)

@[simp] theorem foldl_makeCheck_mark (l : List (Nat × Nat)) (x : SaveStore) (p : Nat) :
    ((l.foldl (fun x q => x.makeCheck q.2) x).page p).mark = (x.page p).mark := by
  induction l generalizing x with
  | nil => rfl
  | cons q rest ih => exact (ih _).trans (x.mark_makeCheck _ _)

variable (x : SaveStore) (w : WriteStream)

theorem SaveStore.complete_frame :
    x.complete w = { x with ram := (x.complete w).ram, owner := (x.complete w).owner } := by
  unfold complete
  split
  · rw [foldl_makeCheck_frame]
  · split
    · rfl
    · split <;> rfl

@[simp] theorem SaveStore.complete_slot (k : Nat) : (x.complete w).slot k = x.slot k := by
  rw [complete_frame]; rfl
@[simp] theorem SaveStore.complete_slots : (x.complete w).slots = x.slots := by rw [complete_frame]
@[simp] theorem SaveStore.complete_write : (x.complete w).write = x.write := by rw [complete_frame]
@[simp] theorem SaveStore.complete_read : (x.complete w).read = x.read := by rw [complete_frame]
@[simp] theorem SaveStore.complete_scrub : (x.complete w).scrub = x.scrub := by rw [complete_frame]

@[simp] theorem SaveStore.complete_mark (p : Nat) :
    ((x.complete w).page p).mark = (x.page p).mark := by
  unfold complete
  split
  · exact foldl_makeCheck_mark _ _ _
  · split
    · rfl
    · split
      · rfl
      · exact mark_makeCheck _ _ _

/-- Pages that are not staged keep mark and check. -/
theorem SaveStore.complete_page_other {p : Nat} (h : ∀ q ∈ w.staged, q.2 ≠ p) :
    (x.complete w).page p = x.page p := by
  unfold complete
  split
  · exact foldl_makeCheck_page_unlisted h x
  · split
    · rfl
    · next q hq =>
      split
      · rfl
      · exact page_makeCheck_other _ (h _ (List.mem_of_getLast? hq)).symm

variable {x w}

theorem SaveStore.complete_patch_ram (h : w.patch = true) : (x.complete w).ram = x.ram := by
  rw [complete, if_pos h]
  exact foldl_makeCheck_ram _ _

theorem SaveStore.complete_patch_check (h : w.patch = true) {q : Nat × Nat} (hq : q ∈ w.staged)
    (hp : q.2 < 128) : ((x.complete w).page q.2).check = pageCrc x.ram q.2 := by
  rw [complete, if_pos h]
  exact foldl_makeCheck_check hp ⟨q, hq, rfl⟩ x

theorem SaveStore.complete_whole (h : w.patch = false) (ht : w.total % 256 = 0) :
    x.complete w = x := by
  rw [complete, if_neg (by simp [h])]
  split
  · rfl
  · rw [if_pos ht]

theorem SaveStore.complete_padded (h : w.patch = false) (ht : w.total % 256 ≠ 0)
    {l : List (Nat × Nat)} {pos p : Nat} (hs : w.staged = l ++ [(pos, p)]) :
    x.complete w = (x.poke (256 * p + w.total % 256)
      (List.replicate (256 - w.total % 256) 0xFF)).makeCheck p := by
  rw [complete, if_neg (by simp [h])]
  simp only [hs, List.getLast?_concat, if_neg ht, pageBase]

/-! ### The page list of a committed PATCH (R15) -/

/-- A page placed at its position of a page list, or at the list's end. -/
def placePage (l : List Nat) (q : Nat × Nat) : List Nat :=
  if q.1 < l.length then l.set q.1 q.2 else l ++ [q.2]

theorem newPages_patch {w : WriteStream} (h : w.patch = true) (old : List Nat) :
    w.newPages old = w.staged.foldl placePage old := by
  rw [WriteStream.newPages, if_pos h]
  rfl

theorem placePage_length {l : List Nat} {q : Nat × Nat} (h : q.1 ≤ l.length) :
    (placePage l q).length = max l.length (q.1 + 1) := by
  unfold placePage
  split <;> simp <;> omega

theorem placePage_same {l : List Nat} {q : Nat × Nat} (h : q.1 ≤ l.length) :
    (placePage l q)[q.1]? = some q.2 := by
  unfold placePage
  split
  · next hl => simp [hl]
  · next hl =>
    have : q.1 = l.length := by omega
    simp [this]

theorem placePage_other {l : List Nat} {q : Nat × Nat} {i : Nat} (h : q.1 ≤ l.length) (hi : q.1 ≠ i) :
    (placePage l q)[i]? = l[i]? := by
  unfold placePage
  split
  · simp [List.getElem?_set_ne hi]
  · have : i ≠ l.length := by omega
    rcases Nat.lt_or_ge i l.length with hl | hl
    · simp [List.getElem?_append_left hl]
    · rw [List.getElem?_eq_none hl, List.getElem?_eq_none (by simp; omega)]

/-- Staged pages without a gap in their positions, the first one inside the list or at its end, are
found at their positions; every other position keeps its page. -/
theorem foldl_placePage {staged : List (Nat × Nat)} {first : Nat} {l : List Nat}
    (hs : staged.map Prod.fst = List.range' first staged.length) (hf : first ≤ l.length) :
    (staged.foldl placePage l).length = max l.length (first + staged.length) ∧
    (∀ q ∈ staged, (staged.foldl placePage l)[q.1]? = some q.2) ∧
    ∀ i, (∀ q ∈ staged, q.1 ≠ i) → (staged.foldl placePage l)[i]? = l[i]? := by
  induction staged generalizing first l with
  | nil => simp [hf]
  | cons q rest ih =>
    simp only [List.map_cons, List.length_cons, List.range'_succ, List.cons.injEq] at hs
    obtain ⟨hq, hrest⟩ := hs
    have hql : q.1 ≤ l.length := by omega
    have hlen := placePage_length hql
    obtain ⟨hl, hin, hout⟩ := ih (l := placePage l q) hrest (by omega)
    have later : ∀ r ∈ rest, first + 1 ≤ r.1 := by
      intro r hr
      have := List.mem_map_of_mem (f := Prod.fst) hr
      rw [hrest] at this
      exact (List.mem_range'_1.1 this).1
    simp only [List.foldl_cons, List.length_cons, List.forall_mem_cons]
    refine ⟨by omega, ⟨?_, hin⟩, fun i hi => ?_⟩
    · rw [hout q.1 fun r hr => by have := later r hr; omega]
      exact placePage_same hql
    · rw [hout i hi.2, placePage_other hql hi.1]

/-! ### The commit -/

/-- The commit, cut into the marks that the staged pages take and the pages that are released. -/
theorem commit_eq (x : SaveStore) (c : Calendar) (w : WriteStream) :
    x.commit c w = { (((x.complete w).markPairs
        (w.staged.map fun q => (q.2, .live w.slot q.1))).release
        ((x.slot w.slot).pages.filter fun p => !(w.newPages (x.slot w.slot).pages).contains p)).withSlot
        w.slot (committedSlot c w (x.slot w.slot)) with write := none } := by
  rw [SaveStore.commit]
  simp only [foldl_live_eq]
  rfl

section
variable (x : SaveStore) (c : Calendar) (w : WriteStream)
@[simp] theorem commit_write : (x.commit c w).write = none := rfl
@[simp] theorem commit_read : (x.commit c w).read = x.read := by simp [commit_eq]
@[simp] theorem commit_scrub : (x.commit c w).scrub = x.scrub := by simp [commit_eq]

theorem commit_slot_same (h : w.slot < 8) :
    (x.commit c w).slot w.slot = committedSlot c w (x.slot w.slot) := by
  rw [commit_eq]
  exact SaveStore.slot_withSlot_same _ _ h

theorem commit_slot_other {k : Nat} (h : k ≠ w.slot) : (x.commit c w).slot k = x.slot k := by
  rw [commit_eq]
  exact (SaveStore.slot_withSlot_other _ _ h).trans (by simp)

theorem commit_check (p : Nat) :
    ((x.commit c w).page p).check = ((x.complete w).page p).check := by
  rw [commit_eq]
  exact (SaveStore.check_release _ _ _).trans (SaveStore.check_markPairs _ _ _)

@[simp] theorem complete_inSnapshot (p : Nat) : (x.complete w).inSnapshot p = x.inSnapshot p := by
  simp [SaveStore.inSnapshot]

/-- A page that is not staged and does not leave the slot's list keeps mark and check. -/
theorem commit_page_other {p : Nat} (hs : ∀ q ∈ w.staged, q.2 ≠ p)
    (ho : p ∉ (x.slot w.slot).pages ∨ p ∈ w.newPages (x.slot w.slot).pages) :
    (x.commit c w).page p = x.page p := by
  rw [commit_eq]
  refine (SaveStore.page_release_unlisted _ ?_).trans <|
    (SaveStore.page_markPairs_unlisted _ ?_).trans (x.complete_page_other w hs)
  · simpa [List.mem_filter, or_iff_not_imp_left] using ho
  · simp only [List.map_map, List.mem_map, not_exists, not_and]
    exact fun q hq => hs q hq

/-- A page that leaves the slot's list is released (R22). -/
theorem commit_mark_released {p : Nat} (hp : p < 128) (ho : p ∈ (x.slot w.slot).pages)
    (hn : p ∉ w.newPages (x.slot w.slot).pages) :
    ((x.commit c w).page p).mark = if x.inSnapshot p then .pinned else .free := by
  have same : ((x.complete w).markPairs (w.staged.map fun q => (q.2, .live w.slot q.1))).inSnapshot p
      = x.inSnapshot p := by
    simp [SaveStore.inSnapshot]
  rw [commit_eq]
  refine (congrArg PageEntry.mark (SaveStore.page_release _ _ hp)).trans ?_
  rw [if_pos (by simp [ho, hn]), same]

/-- A staged page is LIVE at its position. -/
theorem commit_mark_staged {q : Nat × Nat} (hq : q ∈ w.staged) (hp : q.2 < 128)
    (hd : (w.staged.map Prod.snd).Nodup) (ho : q.2 ∉ (x.slot w.slot).pages) :
    ((x.commit c w).page q.2).mark = .live w.slot q.1 := by
  rw [commit_eq]
  refine (congrArg PageEntry.mark ((SaveStore.page_release_unlisted _ ?_).trans
    (SaveStore.page_markPairs_listed _ (m := .live w.slot q.1) hp ?_ ?_))).trans rfl
  · simp [ho]
  · simp only [List.map_map, List.mem_map]
    exact ⟨q, hq, rfl⟩
  · simp only [List.mem_map]
    rintro _ ⟨r, hr, rfl⟩ he
    rw [List.inj_on_of_nodup_map hd hr hq he]
end

/-- Settles O34: marks and pages by the cut of `commit_eq`, bytes and checks by what the completing of the
staged pages writes. -/
theorem commitMakesTheStagedPagesLive : Obligations.CommitMakesTheStagedPagesLive := by
  intro x c w hw hwf hs128 hnd hold hdis y old new
  have hnew : new = committedSlot c w old := commit_slot_same x c w hw
  have hpages : new.pages = w.newPages old.pages := by rw [hnew]; rfl
  have hcheck (p : Nat) : (y.page p).check = ((x.complete w).page p).check := commit_check x c w p
  have hram : y.ram = (x.complete w).ram := commit_ram x c w
  refine ⟨?_, ?_, ?_, fun q hq => commit_mark_staged x c w hq (hs128 q hq) hnd (hdis q hq),
    fun p hp hn => commit_mark_released x c w (hold p hp) hp (hpages ▸ hn),
    fun p hp ho => commit_page_other x c w hp (hpages ▸ ho),
    fun k hk => commit_slot_other x c w hk, rfl, commit_read x c w, commit_scrub x c w, ?_, ?_, ?_⟩
  · rw [hnew]
    exact ⟨rfl, rfl, rfl, rfl, rfl⟩
  · intro h
    rw [hpages, WriteStream.newPages, if_neg (by simp [h])]
  · intro first h hrange hfirst
    rw [hpages, newPages_patch h]
    exact foldl_placePage hrange hfirst
  · intro h
    refine ⟨hram.trans (SaveStore.complete_patch_ram h), fun q hq => ?_, fun p hp => ?_⟩
    · rw [hcheck, SaveStore.complete_patch_check h hq (hs128 q hq)]
      rfl
    · rw [hcheck, x.complete_page_other w hp]
  · intro h l pos p hl ht
    have hp : p < 128 := hs128 (pos, p) (by simp [hl])
    have he := SaveStore.complete_padded (x := x) h ht hl
    have hread : y.ram = Memory.writeRun x.ram (256 * p + w.total % 256)
        (List.replicate (256 - w.total % 256) 0xFF) := by rw [hram, he]; rfl
    refine ⟨fun i hi hi' => ?_, fun a ha => ?_, ?_, fun q hq => ?_⟩
    · have hin := Memory.read_writeRun_inside hwf (a := 256 * p + w.total % 256)
        (l := List.replicate (256 - w.total % 256) 0xFF) (i := i - w.total % 256)
        (by rw [List.length_replicate]; omega)
      rw [show 256 * p + w.total % 256 + (i - w.total % 256) = 256 * p + i by omega] at hin
      rw [hread, hin, List.getElem_replicate]
    · rw [hread]
      refine Memory.read_writeRun_outside hwf ?_
      rw [List.length_replicate]
      omega
    · rw [hcheck, he, SaveStore.page_makeCheck_same _ hp, hread, SaveStore.poke_ram, pageCrc]
    · rw [hcheck, he, SaveStore.page_makeCheck_other _ hq]
      rfl
  · intro h ht
    have he := SaveStore.complete_whole (x := x) h ht
    exact ⟨by rw [hram, he], fun q => by rw [hcheck, he]⟩

end Sys2Proof.Machine
end

section
/-! SUPPORT. The third step of the start scrub, slot by slot, and what it leaves (R26, R27). -/

namespace Sys2Proof.Machine

/-! ### Which slots the scrub keeps -/

/-- The pages of the slots below `k` that the scrub accepts (R26). -/
def acceptedBefore (x : SaveStore) : Nat → List Nat
  | 0 => []
  | k + 1 => acceptedBefore x k ++
      if (x.slot k).state != .empty && rebuildable (x.slot k) (acceptedBefore x k) then
        (x.slot k).pages else []

/-- The scrub keeps the slot: its page list can be rebuilt (R26). -/
def keepsSlot (x : SaveStore) (k : Nat) : Bool :=
  (x.slot k).state != .empty && rebuildable (x.slot k) (acceptedBefore x k)

/-- The scrub empties the slot (R26). -/
def emptiesSlot (x : SaveStore) (k : Nat) : Bool := (x.slot k).state != .empty && !keepsSlot x k

/-- The scrub raises SLOT_DAMAGED for the slot (R26). -/
def alarmsSlot (x : SaveStore) (k : Nat) : Bool :=
  (x.slot k).state != .empty && !(keepsSlot x k && x.marksAgree k (x.slot k).pages)

/-- What the scrub leaves in the slot (R26). -/
def scrubbedSlot (x : SaveStore) (k : Nat) : Slot :=
  if keepsSlot x k then
    if x.marksAgree k (x.slot k).pages then x.slot k else { x.slot k with state := .damaged }
  else emptySlot

theorem acceptedBefore_succ (x : SaveStore) (k : Nat) : acceptedBefore x (k + 1) =
    acceptedBefore x k ++ if keepsSlot x k then (x.slot k).pages else [] := rfl

theorem mem_acceptedBefore {x : SaveStore} {k p : Nat} :
    p ∈ acceptedBefore x k ↔ ∃ j < k, keepsSlot x j = true ∧ p ∈ (x.slot j).pages := by
  induction k with
  | zero => simp [acceptedBefore]
  | succ k ih =>
    rw [acceptedBefore_succ, List.mem_append, ih, Nat.exists_lt_succ_right]
    refine or_congr_right ?_
    split <;> simp [*]

/-- A kept slot's list has the length of its size and names pages 0..127, none twice and none of an
earlier kept slot (R26). -/
theorem keepsSlot_iff {x : SaveStore} {k : Nat} : keepsSlot x k = true ↔
    (x.slot k).state ≠ .empty ∧ (x.slot k).pages.length = ceilDiv (x.slot k).size 256 ∧
      (x.slot k).pages.Nodup ∧
      ∀ p ∈ (x.slot k).pages, p < 128 ∧ ∀ j < k, keepsSlot x j = true → p ∉ (x.slot j).pages := by
  have fresh : (∀ p ∈ (x.slot k).pages, p ∉ acceptedBefore x k) ↔
      ∀ p ∈ (x.slot k).pages, ∀ j < k, keepsSlot x j = true → p ∉ (x.slot j).pages := by
    simp only [mem_acceptedBefore, not_exists, not_and]
  simp only [keepsSlot, rebuildable, Bool.and_eq_true, bne_iff_ne, beq_iff_eq, List.all_eq_true,
    decide_eq_true_eq, Bool.not_eq_true', List.contains_eq_mem, decide_eq_false_iff_not,
    Config.pageCount] at fresh ⊢
  rw [fresh]
  constructor
  · rintro ⟨hs, ⟨⟨hl, hp⟩, hd⟩, hf⟩
    exact ⟨hs, hl, hd, fun p h => ⟨of_decide_eq_true (hp p h), hf p h⟩⟩
  · rintro ⟨hs, hl, hd, h⟩
    exact ⟨hs, ⟨⟨hl, fun p hp => decide_eq_true (h p hp).1⟩, hd⟩, fun p hp => (h p hp).2⟩

theorem mem_positioned {l : List Nat} {q : Nat × Nat} : q ∈ positioned l ↔ l[q.1]? = some q.2 := by
  have he : positioned l = l.zipIdx.map Prod.swap := by
    rw [positioned, List.zipIdx_eq_zip_range', ← List.range_eq_range', List.zip_swap]
  rw [he, List.mem_map]
  constructor
  · rintro ⟨r, hr, rfl⟩
    exact List.mem_zipIdx_iff_getElem?.1 hr
  · exact fun h => ⟨(q.2, q.1), List.mem_zipIdx_iff_getElem?.2 h, rfl⟩

theorem marksAgree_iff {x : SaveStore} {k : Nat} {l : List Nat} : x.marksAgree k l = true ↔
    ∀ i p, l[i]? = some p → (x.page p).mark = .live k i := by
  simp only [SaveStore.marksAgree, List.all_eq_true, beq_iff_eq, mem_positioned, Prod.forall]

theorem marksAgree_eq_zipIdx (x : SaveStore) (k : Nat) (l : List Nat) :
    x.marksAgree k l = l.zipIdx.all fun q => (x.page q.1).mark == .live k q.2 := by
  rw [Bool.eq_iff_iff, marksAgree_iff]
  simp only [List.all_eq_true, beq_iff_eq, Prod.forall, List.mem_zipIdx_iff_getElem?]
  exact ⟨fun h p i => h i p, fun h i p => h p i⟩

/-! ### The scrub after its first slots -/

/-- A notice raised in STARTING sets its pending flag alone (R195). -/
theorem raiseNotice_starting {s : State} (h : s.ps.state = .starting) (n : Notice) :
    raiseNotice n s = { s with nu := { s.nu with
      pendingFlags := s.nu.pendingFlags ||| BitVec.ofNat 12 (2 ^ n.kind.number) } } := by
  simp [raiseNotice, raiseTo, State.serving, h]
  rfl

/-- An appointment is linked to a slot below `n` that the scrub empties (R26, R52). -/
def linkedEmptied (x : SaveStore) (n : Nat) (e : Appointment) : Bool :=
  e.link.any fun k => decide (k < n) && emptiesSlot x k

/-- The flags that the scrub's alarms for the slots below `n` leave (R26, R195). -/
def alarmedFlags (x : SaveStore) (n : Nat) (flags : BitVec 12) : BitVec 12 :=
  flags ||| if (List.range n).any (alarmsSlot x) then BitVec.ofNat 12 (2 ^ 11) else 0

/-- The scrub's results after the slots below `n`: pages accepted, slots emptied, and the part. -/
structure Scrubbed (s : State) (n : Nat) (acc : List Nat × List Nat × State) : Prop where
  accepted : acc.1 = acceptedBefore s.ss n
  emptied : acc.2.1 = (List.range n).filter (emptiesSlot s.ss)
  frame : acc.2.2 = { s with
    ss := { s.ss with owner := acc.2.2.ss.owner, slots := acc.2.2.ss.slots }
    cal := { s.cal with
      appointments := s.cal.appointments.filter fun e => !linkedEmptied s.ss n e }
    nu := { s.nu with pendingFlags := alarmedFlags s.ss n s.nu.pendingFlags } }
  slot : ∀ k, acc.2.2.ss.slot k = if k < n then scrubbedSlot s.ss k else s.ss.slot k
  listed : ∀ j < n, keepsSlot s.ss j = true → ∀ i p, (s.ss.slot j).pages[i]? = some p →
    (acc.2.2.ss.page p).mark = .live j i
  unlisted : ∀ p, p ∉ acceptedBefore s.ss n → acc.2.2.ss.page p = s.ss.page p
  check : ∀ p, (acc.2.2.ss.page p).check = (s.ss.page p).check

theorem Scrubbed.state {s : State} {n : Nat} {acc : List Nat × List Nat × State}
    (h : Scrubbed s n acc) : acc.2.2.ps.state = s.ps.state := by rw [h.frame]

/-- The scrub has not begun. -/
theorem scrubbed_zero (s : State) : Scrubbed s 0 ([], [], s) where
  accepted := rfl
  emptied := rfl
  frame := by
    have h : ∀ e, linkedEmptied s.ss 0 e = false := by simp [linkedEmptied]
    simp [h, alarmedFlags]
  slot _ := rfl
  listed := by simp
  unlisted _ _ := rfl
  check _ := rfl

theorem linkedEmptied_succ (x : SaveStore) (n : Nat) (e : Appointment) :
    linkedEmptied x (n + 1) e =
      (linkedEmptied x n e || (e.link == some n && emptiesSlot x n)) := by
  unfold linkedEmptied
  cases e.link with
  | none => simp
  | some k =>
    simp only [Option.any_some, Option.some_beq_some]
    rcases Nat.lt_trichotomy k n with h | h | h
    · simp [h, show k < n + 1 by omega, show k ≠ n by omega]
    · simp [h]
    · simp [show ¬ k < n + 1 by omega, show ¬ k < n by omega, show k ≠ n by omega]

theorem alarmedFlags_succ (x : SaveStore) (n : Nat) (flags : BitVec 12) :
    alarmedFlags x (n + 1) flags =
      if alarmsSlot x n then alarmedFlags x n flags ||| BitVec.ofNat 12 (2 ^ 11)
      else alarmedFlags x n flags := by
  unfold alarmedFlags
  rw [List.range_succ, List.any_append, BitVec.or_assoc]
  cases (List.range n).any (alarmsSlot x) <;> cases h : alarmsSlot x n <;> simp [h]

/-- One more slot is scrubbed: it takes what the scrub leaves in it, the pages of a kept slot carry LIVE
at their positions, and no other slot or page changes. -/
theorem Scrubbed.succ {s t : State} {n : Nat} {acc : List Nat × List Nat × State}
    (h : Scrubbed s n acc)
    (frame : t = { acc.2.2 with
      ss := { acc.2.2.ss with owner := t.ss.owner, slots := t.ss.slots }
      cal := { acc.2.2.cal with appointments := acc.2.2.cal.appointments.filter fun e =>
        !(e.link == some n && emptiesSlot s.ss n) }
      nu := { acc.2.2.nu with
        pendingFlags :=
          if alarmsSlot s.ss n then acc.2.2.nu.pendingFlags ||| BitVec.ofNat 12 (2 ^ 11)
          else acc.2.2.nu.pendingFlags } })
    (slot : ∀ k, t.ss.slot k = if k = n then scrubbedSlot s.ss n else acc.2.2.ss.slot k)
    (listed : keepsSlot s.ss n = true → ∀ i p, (s.ss.slot n).pages[i]? = some p →
      (t.ss.page p).mark = .live n i)
    (unlisted : ∀ p, (keepsSlot s.ss n = true → p ∉ (s.ss.slot n).pages) →
      t.ss.page p = acc.2.2.ss.page p)
    (check : ∀ p, (t.ss.page p).check = (acc.2.2.ss.page p).check) :
    Scrubbed s (n + 1) (acceptedBefore s.ss (n + 1),
      (List.range (n + 1)).filter (emptiesSlot s.ss), t) where
  accepted := rfl
  emptied := rfl
  frame := by
    have flags : alarmedFlags s.ss (n + 1) s.nu.pendingFlags =
        if alarmsSlot s.ss n then acc.2.2.nu.pendingFlags ||| BitVec.ofNat 12 (2 ^ 11)
        else acc.2.2.nu.pendingFlags := by
      rw [alarmedFlags_succ, h.frame]
    have links : (s.cal.appointments.filter fun e => !linkedEmptied s.ss (n + 1) e) =
        acc.2.2.cal.appointments.filter fun e => !(e.link == some n && emptiesSlot s.ss n) := by
      rw [h.frame, List.filter_filter]
      refine List.filter_congr fun e _ => ?_
      rw [linkedEmptied_succ, Bool.not_or, Bool.and_comm]
    rw [flags, links]
    conv_lhs => rw [frame]
    rw [h.frame]
  slot k := by
    rw [slot, h.slot]
    split
    · next hk => rw [hk, if_pos (by omega)]
    · next hk => simp only [show k < n + 1 ↔ k < n by omega]
  listed j hj hk i p hp := by
    rcases Nat.lt_succ_iff_lt_or_eq.1 hj with hj | rfl
    · refine (congrArg PageEntry.mark (unlisted p fun hn => ?_)).trans (h.listed j hj hk i p hp)
      obtain ⟨-, -, -, hf⟩ := keepsSlot_iff.1 hn
      exact fun hm => (hf p hm).2 j hj hk (List.mem_of_getElem? hp)
    · exact listed hk i p hp
  unlisted p hp := by
    rw [acceptedBefore_succ, List.mem_append, not_or] at hp
    rw [unlisted p (fun hk => by simpa [hk] using hp.2), h.unlisted p hp.1]
  check p := by rw [check, h.check]

/-! ### One slot of the scrub -/

section
variable {s : State} {n : Nat} {acc : List Nat × List Nat × State}

/-- The marks of a slot that is not yet scrubbed agree as they did before the scrub. -/
theorem Scrubbed.marksAgree (h : Scrubbed s n acc) (hk : keepsSlot s.ss n = true) :
    acc.2.2.ss.marksAgree n (s.ss.slot n).pages = s.ss.marksAgree n (s.ss.slot n).pages := by
  obtain ⟨-, -, -, hf⟩ := keepsSlot_iff.1 hk
  have same : ∀ p ∈ (s.ss.slot n).pages, acc.2.2.ss.page p = s.ss.page p := by
    refine fun p hp => h.unlisted p fun hm => ?_
    obtain ⟨j, hj, hkj, hpj⟩ := mem_acceptedBefore.1 hm
    exact (hf p hp).2 j hj hkj hpj
  rw [Bool.eq_iff_iff, marksAgree_iff, marksAgree_iff]
  refine forall₂_congr fun i p => imp_congr_right fun hp => ?_
  rw [same p (List.mem_of_getElem? hp)]

theorem Scrubbed.slot_next (h : Scrubbed s n acc) : acc.2.2.ss.slot n = s.ss.slot n := by
  rw [h.slot, if_neg (lt_irrefl n)]

/-- The scrub's work on a slot, by what it makes of the slot (R26). -/
theorem scrubSlot_eq (h : Scrubbed s n acc) : scrubSlot acc n =
    (acceptedBefore s.ss (n + 1), (List.range (n + 1)).filter (emptiesSlot s.ss),
      if keepsSlot s.ss n then
        if s.ss.marksAgree n (s.ss.slot n).pages then acc.2.2
        else damageSlot n .scrubList (acc.2.2.withSs (acc.2.2.ss.markPairs
          ((positioned (s.ss.slot n).pages).map fun q => (q.2, .live n q.1))))
      else if emptiesSlot s.ss n then
        raiseNotice (.slotDamaged n .scrubEmptied)
          (slotEmptied n (acc.2.2.withSs (acc.2.2.ss.withSlot n emptySlot)))
      else acc.2.2) := by
  have hagree := fun hk => h.marksAgree hk
  obtain ⟨A, E, t⟩ := acc
  have hA : A = acceptedBefore s.ss n := h.accepted
  have hE : E = (List.range n).filter (emptiesSlot s.ss) := h.emptied
  have hn : t.ss.slot n = s.ss.slot n := h.slot_next
  subst hA hE
  simp only [scrubSlot, hn, acceptedBefore_succ, List.range_succ, List.filter_append]
  by_cases he : (s.ss.slot n).state = .empty
  · simp [he, keepsSlot, emptiesSlot]
  · by_cases hr : rebuildable (s.ss.slot n) (acceptedBefore s.ss n) = true
    · have hk : keepsSlot s.ss n = true := by simp [keepsSlot, he, hr]
      simp only [he, if_false, hr, if_true, hk, foldl_live_eq]
      rw [show t.ss.marksAgree n (s.ss.slot n).pages = _ from hagree hk]
      split <;> simp [emptiesSlot, hk]
    · have hk : keepsSlot s.ss n = false := by simp [keepsSlot, hr]
      simp [he, hr, hk, emptiesSlot]

/-- The scrub of one slot goes on from the scrub of the slots before it. -/
theorem Scrubbed.step (h : Scrubbed s n acc) (hn : n < 8) (hs : s.ps.state = .starting)
    (hempty : (s.ss.slot n).state = .empty → s.ss.slot n = emptySlot) :
    Scrubbed s (n + 1) (scrubSlot acc n) := by
  have ht : acc.2.2.ps.state = .starting := h.state.trans hs
  have hslot := h.slot_next
  rw [scrubSlot_eq h]
  split
  · next hk =>
    obtain ⟨hne, -, hnd, hf⟩ := keepsSlot_iff.1 hk
    have hnot : emptiesSlot s.ss n = false := by simp [emptiesSlot, hk]
    split
    · next ha =>
      have hal : alarmsSlot s.ss n = false := by simp [alarmsSlot, hk, ha]
      refine h.succ (by simp [hnot, hal]) (fun k => ?_) (fun _ => ?_) (fun _ _ => rfl) fun _ => rfl
      · split
        · next e => rw [e, hslot, scrubbedSlot, if_pos hk, if_pos ha]
        · rfl
      · rw [← h.marksAgree hk] at ha
        exact marksAgree_iff.1 ha
    · next ha =>
      have hal : alarmsSlot s.ss n = true := by simp [alarmsSlot, hne, ha]
      rw [damageSlot, raiseNotice_starting (by simpa using ht)]
      refine h.succ ?_ (fun k => ?_) (fun _ i p hp => ?_) (fun p hp => ?_) fun p => ?_
      · simp [hnot, hal, Notice.kind, NoticeKind.number, SaveStore.damage, SaveStore.withSlot]
      · show ((acc.2.2.ss.markPairs _).damage n).slot k = _
        split
        · next e =>
          rw [e, SaveStore.damage, SaveStore.slot_withSlot_same _ _ hn, SaveStore.markPairs_slot, hslot,
            scrubbedSlot, if_pos hk, if_neg ha]
        · next e => rw [SaveStore.damage, SaveStore.slot_withSlot_other _ _ e, SaveStore.markPairs_slot]
      · show ((acc.2.2.ss.markPairs _).page p).mark = _
        rw [SaveStore.page_markPairs_listed _ (m := .live n i) (hf p (List.mem_of_getElem? hp)).1]
        · simp only [List.map_map, List.mem_map, mem_positioned]
          exact ⟨(i, p), hp, rfl⟩
        · simp only [List.mem_map, mem_positioned]
          rintro _ ⟨⟨j, q⟩, hq, rfl⟩ rfl
          rw [(List.getElem?_inj (List.getElem?_eq_some_iff.1 hq).1 hnd).1 (hq.trans hp.symm)]
      · show (acc.2.2.ss.markPairs _).page p = _
        refine SaveStore.page_markPairs_unlisted _ ?_
        simp only [List.map_map, List.mem_map, mem_positioned, not_exists, not_and]
        rintro ⟨i, q⟩ hq rfl
        exact hp hk (List.mem_of_getElem? hq)
      · exact SaveStore.check_markPairs _ _ p
  · next hk =>
    have hleft : scrubbedSlot s.ss n = emptySlot := if_neg hk
    split
    · next he =>
      have hne : (s.ss.slot n).state ≠ .empty := by
        simp only [emptiesSlot, Bool.and_eq_true, bne_iff_ne] at he
        exact he.1
      have hal : alarmsSlot s.ss n = true := by simp [alarmsSlot, hne, hk]
      rw [raiseNotice_starting (by simpa [slotEmptied] using ht)]
      refine h.succ ?_ (fun k => ?_) (fun hk' => absurd hk' hk) (fun _ _ => rfl) fun _ => rfl
      · simp [he, hal, Notice.kind, NoticeKind.number, slotEmptied]
        exact ⟨rfl, rfl⟩
      · show (acc.2.2.ss.withSlot n emptySlot).slot k = _
        split
        · next e => rw [e, SaveStore.slot_withSlot_same _ _ hn, hleft]
        · next e => exact SaveStore.slot_withSlot_other _ _ e
    · next he =>
      have hem : (s.ss.slot n).state = .empty := by
        by_contra hne
        simp [emptiesSlot, hne, hk] at he
      have hal : alarmsSlot s.ss n = false := by simp [alarmsSlot, hem]
      refine h.succ (by simp [he, hal]) (fun k => ?_) (fun hk' => absurd hk' hk) (fun _ _ => rfl)
        fun _ => rfl
      split
      · next e => rw [e, hslot, hempty hem, hleft]
      · rfl

/-- The scrub of every slot. -/
theorem scrubbed_all (hs : s.ps.state = .starting)
    (hempty : ∀ k < 8, (s.ss.slot k).state = .empty → s.ss.slot k = emptySlot) :
    Scrubbed s 8 (slotNumbers.foldl scrubSlot ([], [], s)) := by
  have upTo : ∀ n ≤ 8, Scrubbed s n ((List.range n).foldl scrubSlot ([], [], s)) := by
    intro n
    induction n with
    | zero => exact fun _ => scrubbed_zero s
    | succ n ih =>
      intro hn
      rw [List.range_succ, List.foldl_append]
      exact (ih (by omega)).step (by omega) hs (hempty n (by omega))
  exact upTo 8 le_rfl

end

/-! ### The end of the scrub -/

/-- LIVE pages that no kept slot lists (R26; log 19). -/
def strayPages (x : SaveStore) : List Nat :=
  pageNumbers.filter fun p => (x.page p).mark.isLive && !(acceptedBefore x 8).contains p

/-- The slots that the scrub leaves DAMAGED or has emptied (R27). -/
def scrubDamaged (x : SaveStore) : List Nat :=
  slotNumbers.filter fun k => (scrubbedSlot x k).state == .damaged || emptiesSlot x k

/-- What the scrub's end makes of the part (R26, R27). -/
structure ScrubEnded (freed : Nat) (s u : State) : Prop where
  frame : u = { s with
    ss := { s.ss with owner := u.ss.owner, slots := u.ss.slots, scrub := none }
    cal := { s.cal with
      appointments := s.cal.appointments.filter fun e => !linkedEmptied s.ss 8 e }
    nu := { s.nu with pendingFlags := alarmedFlags s.ss 8 s.nu.pendingFlags }
    ps := { s.ps with
      freed := freed + (strayPages s.ss).length, damaged := scrubDamaged s.ss } }
  slot : ∀ k < 8, u.ss.slot k = scrubbedSlot s.ss k
  listed : ∀ j < 8, keepsSlot s.ss j = true → ∀ i p, (s.ss.slot j).pages[i]? = some p →
    (u.ss.page p).mark = .live j i
  unlisted : ∀ p < 128, p ∉ acceptedBefore s.ss 8 →
    (u.ss.page p).mark = if (s.ss.page p).mark.isLive then .free else (s.ss.page p).mark
  check : ∀ p, (u.ss.page p).check = (s.ss.page p).check

theorem mem_strayPages {x : SaveStore} {p : Nat} : p ∈ strayPages x ↔
    p < 128 ∧ (x.page p).mark.isLive = true ∧ p ∉ acceptedBefore x 8 := by
  simp [strayPages, mem_pageNumbers]

theorem State.framed {s t : State} {y : SaveStore} {c : Calendar} {n : Notices}
    (h : t = { s with ss := y, cal := c, nu := n }) (x : SaveStore) (p : Power) :
    (t.withSs x).withPs p = { s with ss := x, cal := c, nu := n, ps := p } := by
  subst h
  rfl

theorem scrubEnd_ended (freed : Nat) {s : State} (hs : s.ps.state = .starting)
    (hempty : ∀ k < 8, (s.ss.slot k).state = .empty → s.ss.slot k = emptySlot) :
    ScrubEnded freed s (scrubEnd freed s) := by
  have h := scrubbed_all hs hempty
  unfold scrubEnd
  generalize slotNumbers.foldl scrubSlot ([], [], s) = acc at h
  obtain ⟨A, E, t⟩ := acc
  obtain ⟨hA, hE, hframe, hslot, hlisted, hunlisted, hcheck⟩ := h
  simp only at hA hE hframe hslot hlisted hunlisted hcheck
  subst hA hE
  have listedMark : ∀ p ∈ acceptedBefore s.ss 8, ∃ j < 8, ∃ i, keepsSlot s.ss j = true ∧
      (s.ss.slot j).pages[i]? = some p := fun p hp => by
    obtain ⟨j, hj, hk, hm⟩ := mem_acceptedBefore.1 hp
    obtain ⟨i, hi⟩ := List.mem_iff_getElem?.1 hm
    exact ⟨j, hj, i, hk, hi⟩
  have stray : (pageNumbers.filter fun p =>
      (t.ss.page p).mark.isLive && !(acceptedBefore s.ss 8).contains p) = strayPages s.ss := by
    refine List.filter_congr fun p _ => ?_
    by_cases hp : p ∈ acceptedBefore s.ss 8
    · simp [hp]
    · rw [hunlisted p hp]
  have damaged : (slotNumbers.filter fun k => (t.ss.slot k).state == .damaged ||
      ((List.range 8).filter (emptiesSlot s.ss)).contains k) = scrubDamaged s.ss := by
    refine List.filter_congr fun k hk => ?_
    have hk : k < 8 := by simpa [slotNumbers] using hk
    rw [hslot, if_pos hk, List.contains_eq_mem]
    simp [hk]
  have slots (k : Nat) : ({ t.ss.markAll .free (strayPages s.ss) with scrub := none } : SaveStore).slot k
      = t.ss.slot k := SaveStore.markAll_slot _ _ _ _
  simp only [stray, slots, damaged]
  refine ⟨?_, fun k hk => ?_, fun j hj hk i p hp => ?_, fun p hp hn => ?_, fun p => ?_⟩
  · have hss : t.ss = _ := congrArg State.ss hframe
    have hps : t.ps = s.ps := (congrArg State.ps hframe).trans rfl
    refine (State.framed hframe _ _).trans ?_
    have hx : ({ t.ss.markAll .free (strayPages s.ss) with scrub := none } : SaveStore) = { s.ss with
        owner := (t.ss.markAll .free (strayPages s.ss)).owner, slots := t.ss.slots, scrub := none } := by
      rw [SaveStore.markAll_frame, congrArg SaveStore.ram hss, congrArg SaveStore.write hss,
        congrArg SaveStore.read hss]
    rw [hx, hps]
    rfl
  · exact (slots k).trans ((hslot k).trans (if_pos hk))
  · have hp8 : p ∈ acceptedBefore s.ss 8 :=
      mem_acceptedBefore.2 ⟨j, hj, hk, List.mem_of_getElem? hp⟩
    have hlt : p < 128 := ((keepsSlot_iff.1 hk).2.2.2 p (List.mem_of_getElem? hp)).1
    refine (congrArg PageEntry.mark (SaveStore.page_markAll _ _ _ hlt)).trans ?_
    rw [if_neg (by simp [mem_strayPages, hp8])]
    exact hlisted j hj hk i p hp
  · refine (congrArg PageEntry.mark (SaveStore.page_markAll _ _ _ hp)).trans ?_
    rw [hunlisted p hn]
    by_cases hl : (s.ss.page p).mark.isLive = true
    · rw [if_pos (mem_strayPages.2 ⟨hp, hl, hn⟩), if_pos hl]
    · rw [if_neg fun hm => hl (mem_strayPages.1 hm).2.1, if_neg hl]
  · exact (SaveStore.check_markAll _ _ _ p).trans (hcheck p)

section
variable {freed : Nat} {s u : State}

theorem scrubbedSlot_state {x : SaveStore} {k : Nat} :
    (scrubbedSlot x k).state ≠ .empty ↔ keepsSlot x k = true := by
  unfold scrubbedSlot
  split
  · next hk =>
    have hne := (keepsSlot_iff.1 hk).1
    split <;> simp [hk, hne]
  · next hk => simp [hk, emptySlot]

theorem scrubbedSlot_pages {x : SaveStore} {k : Nat} (hk : keepsSlot x k = true) :
    (scrubbedSlot x k).pages = (x.slot k).pages ∧ (scrubbedSlot x k).size = (x.slot k).size := by
  unfold scrubbedSlot
  rw [if_pos hk]
  split <;> exact ⟨rfl, rfl⟩

theorem scrubbedSlot_emptied {x : SaveStore} {k : Nat} :
    (scrubbedSlot x k).state = .empty ∧ (x.slot k).state ≠ .empty ↔ emptiesSlot x k = true := by
  have hkept := scrubbedSlot_state (x := x) (k := k)
  simp only [emptiesSlot, Bool.and_eq_true, bne_iff_ne, Bool.not_eq_true', ← Bool.not_eq_true]
  rw [← hkept, not_not, and_comm]

/-- A slot whose state the scrub leaves is left whole. -/
theorem scrubbedSlot_same {x : SaveStore} {k : Nat} (hempty : (x.slot k).state = .empty → x.slot k = emptySlot)
    (he : (scrubbedSlot x k).state = (x.slot k).state) : scrubbedSlot x k = x.slot k := by
  revert he
  unfold scrubbedSlot
  split
  · split
    · exact fun _ => rfl
    · exact fun he => congrArg (fun st => { x.slot k with state := st }) he
  · exact fun he => (hempty he.symm).symm

/-- A LIVE mark after the scrub names the place of its page in a kept slot's list. -/
theorem ScrubEnded.live (h : ScrubEnded freed s u) {p : Nat} (hp : p < 128) {k i : Nat}
    (hm : (u.ss.page p).mark = .live k i) :
    k < 8 ∧ keepsSlot s.ss k = true ∧ (s.ss.slot k).pages[i]? = some p := by
  by_cases ha : p ∈ acceptedBefore s.ss 8
  · obtain ⟨j, hj, hk, hmem⟩ := mem_acceptedBefore.1 ha
    obtain ⟨n, hn⟩ := List.mem_iff_getElem?.1 hmem
    have he := (h.listed j hj hk n p hn).symm.trans hm
    injection he with e1 e2
    subst e1 e2
    exact ⟨hj, hk, hn⟩
  · rw [h.unlisted p hp ha] at hm
    split at hm
    · cases hm
    · next hl => simp [hm, Mark.isLive] at hl

/-- After the scrub the slot directory and the owner table agree (R2, R4, R26). -/
theorem ScrubEnded.agrees (h : ScrubEnded freed s u) : StoreAgrees u.ss := by
  refine ⟨fun k hk he => ?_, fun k hk hne => ?_, fun p hp k pos => ⟨fun hm => ?_, ?_⟩⟩
  · rw [h.slot k hk] at he ⊢
    by_cases hkeep : keepsSlot s.ss k = true
    · exact absurd he (scrubbedSlot_state.2 hkeep)
    · rw [scrubbedSlot, if_neg hkeep]
  · rw [h.slot k hk] at hne ⊢
    have hkeep := scrubbedSlot_state.1 hne
    obtain ⟨hpages, hsize⟩ := scrubbedSlot_pages hkeep
    obtain ⟨-, hlen, -, hf⟩ := keepsSlot_iff.1 hkeep
    rw [hpages, hsize]
    exact ⟨hlen, fun p hp => (hf p hp).1⟩
  · obtain ⟨hk, hkeep, hpos⟩ := h.live hp hm
    exact ⟨hk, by rw [h.slot k hk, (scrubbedSlot_pages hkeep).1, hpos]⟩
  · rintro ⟨hk, hpos⟩
    rw [h.slot k hk] at hpos
    by_cases hkeep : keepsSlot s.ss k = true
    · rw [(scrubbedSlot_pages hkeep).1] at hpos
      exact h.listed k hk hkeep pos p hpos
    · simp [scrubbedSlot, hkeep, emptySlot] at hpos

/-- The scrub leaves no STAGED and no PINNED page where its first step had freed them. -/
theorem ScrubEnded.leftover (h : ScrubEnded freed s u)
    (hl : ∀ p < 128, (s.ss.page p).mark.leftover = false) :
    ∀ p < 128, (u.ss.page p).mark.leftover = false := by
  intro p hp
  by_cases ha : p ∈ acceptedBefore s.ss 8
  · obtain ⟨j, hj, hk, hmem⟩ := mem_acceptedBefore.1 ha
    obtain ⟨i, hi⟩ := List.mem_iff_getElem?.1 hmem
    rw [h.listed j hj hk i p hi]
    rfl
  · rw [h.unlisted p hp ha]
    split
    · rfl
    · exact hl p hp

/-- A page that the scrub frees is a stray one. -/
theorem ScrubEnded.freed_iff (h : ScrubEnded freed s u)
    (hl : ∀ p < 128, (s.ss.page p).mark.leftover = false) {p : Nat} (hp : p < 128) :
    ((u.ss.page p).mark = .free ∧ (s.ss.page p).mark ≠ .free) ↔
      (s.ss.page p).mark.isLive = true ∧ p ∉ acceptedBefore s.ss 8 := by
  by_cases ha : p ∈ acceptedBefore s.ss 8
  · obtain ⟨j, hj, hk, hmem⟩ := mem_acceptedBefore.1 ha
    obtain ⟨i, hi⟩ := List.mem_iff_getElem?.1 hmem
    simp [h.listed j hj hk i p hi, ha]
  · rw [h.unlisted p hp ha]
    have := hl p hp
    cases hm : (s.ss.page p).mark <;> simp_all [Mark.isLive, Mark.leftover]

end

/-! ### What the entry to ACTIVE leaves alone -/

theorem fireDue_ps (n : Nat) (s : State) : (fireDue n s).ps = s.ps := by
  induction n generalizing s with
  | zero => rfl
  | succ n ih =>
    unfold fireDue
    split
    · rfl
    · split
      · rw [ih, raiseNotice_ps, State.withCal_ps]
      · rfl

@[simp] theorem appointmentCheck_ps (s : State) : (appointmentCheck s).ps = s.ps := by
  unfold appointmentCheck
  split
  · exact fireDue_ps _ s
  · rfl

theorem Clocks.ss {s t : State} (h : Clocks s t) : t.ss = s.ss := (congrArg State.ss h).trans rfl

theorem Clocks.inbox {s t : State} (h : Clocks s t) : t.lif.inbox = s.lif.inbox :=
  (congrArg (fun u : State => u.lif.inbox) h).trans rfl

theorem appointmentCheck_ss (s : State) : (appointmentCheck s).ss = s.ss :=
  (appointmentCheck_clocks s).ss

theorem appointmentCheck_inbox (s : State) : (appointmentCheck s).lif.inbox = s.lif.inbox :=
  (appointmentCheck_clocks s).inbox

/-- The part after the Budget Unit's and the line's share of the entry to ACTIVE (R157, R202). -/
def greeted (s : State) : State := sendHello (budgetActive (s.withPs { s.ps with state := .active }))

theorem greeted_aside (s : State) : Aside (s.withPs { s.ps with state := .active }) (greeted s) :=
  (budgetActive_aside _).trans (sendHello_posts _).aside

theorem enterActive_eq (s : State) :
    enterActive s = appointmentCheck (raiseResume (calendarActive (greeted s))) := rfl

theorem enterActive_ss (s : State) : (enterActive s).ss = s.ss := by
  rw [enterActive_eq, appointmentCheck_ss, raiseResume, raiseNotice_ss,
    State.withPs_ss, calendarActive, State.withCal_ss, State.withPs_ss, (greeted_aside s).ss,
    State.withPs_ss]

theorem enterActive_inbox (s : State) : (enterActive s).lif.inbox = s.lif.inbox := by
  rw [enterActive_eq, appointmentCheck_inbox, raiseResume, raiseNotice_lif_inbox,
    State.withPs_lif, calendarActive, State.withCal_lif, State.withPs_lif, (greeted_aside s).inbox,
    State.withPs_lif]

theorem enterActive_ps (s : State) : (enterActive s).ps =
    { s.ps with state := .active, dayTurns := s.cal.dayTurns, record := none, lowSeen := false } := by
  rw [enterActive_eq, appointmentCheck_ps, raiseResume, raiseNotice_ps, State.withPs_ps, calendarActive,
    State.withCal_ps, State.withPs_ps, (greeted_aside s).ps, (greeted_aside s).cal]
  rfl

theorem exec_startScrubComplete : ∀ s, exec .startScrubComplete s = execStartScrubComplete s := by
  intros
  rfl

/-- Settles O41: the scrub's slots one after another (`Scrubbed.step`), then the freeing of what no slot
lists. -/
theorem scrubLeavesTheStoreInAgreement : Obligations.ScrubLeavesTheStoreInAgreement := by
  intro freed s hs hscrub hempty hleft
  have h := scrubEnd_ended freed hs hempty
  refine ⟨enterActive (scrubEnd freed s), keepsSlot s.ss, ?_⟩
  simp only [← marksAgree_eq_zipIdx]
  generalize hu : scrubEnd freed s = u at h
  have hps := enterActive_ps u
  have hss := enterActive_ss u
  have hfreed : u.ps.freed = freed + (strayPages s.ss).length :=
    (congrArg (fun v : State => v.ps.freed) h.frame).trans rfl
  have hdamaged : u.ps.damaged = scrubDamaged s.ss :=
    (congrArg (fun v : State => v.ps.damaged) h.frame).trans rfl
  have hstore : u.ss = { s.ss with owner := u.ss.owner, slots := u.ss.slots, scrub := none } :=
    (congrArg State.ss h.frame).trans rfl
  have hlink : (fun e : Appointment => !linkedEmptied s.ss 8 e) = fun e => !e.link.any fun k =>
      decide (k < 8) && (s.ss.slot k).state != .empty && !keepsSlot s.ss k := by
    simp only [linkedEmptied, emptiesSlot, Bool.and_assoc]
  refine ⟨fun k hk => keepsSlot_iff, ?_, trivial, hss, ?_, fun k hk => ?_, ?_, ?_, ?_, ?_, ?_, ?_, ?_,
    ?_, fun k hk he => ?_⟩
  · show exec .startScrubComplete s = _
    rw [exec_startScrubComplete, execStartScrubComplete, hscrub]
    simp only [hs, if_true, hu]
  · simp only [hps, hfreed, hdamaged, ← hlink]
    refine h.frame.trans ?_
    rw [← hstore]
    rfl
  · rw [hss, h.slot k hk, scrubbedSlot]
    refine ⟨fun hg ha => ?_, fun hg ha => ?_, fun hg => ?_⟩
    · rw [if_pos hg, if_pos ha]
    · rw [if_pos hg, if_neg (by simp [ha])]
    · rw [if_neg (by simp [hg])]
  · rw [hps]
  · rw [hss, hstore]
  · rw [hss]
    exact h.agrees
  · rw [hss]
    exact h.leftover hleft
  · rw [hss]
    exact fun p _ => h.check p
  · rw [hss, hps, hdamaged]
    refine List.filter_congr fun k hk => ?_
    have hk : k < 8 := List.mem_range.1 hk
    rw [h.slot k hk, Bool.eq_iff_iff, decide_eq_true_iff, scrubbedSlot_emptied]
    simp
  · rw [hss, hps, hfreed, strayPages, ← List.countP_eq_length_filter]
    refine congrArg (freed + ·) (List.countP_congr fun p hp => ?_)
    rw [decide_eq_true_iff, h.freed_iff hleft (List.mem_range.1 hp)]
    simp
  · rw [hss, hstore]
  · rw [hss, h.slot k hk] at he ⊢
    exact scrubbedSlot_same (hempty k hk) he

end Sys2Proof.Machine
end

section
/-! SUPPORT. The starts: RAIL_GOOD and RAIL_FAIL, and the settings read with the scrub's first steps (R25,
R165, R166, R172). -/

namespace Sys2Proof.Machine

/-! ### The coin cell in STARTING and KEEP (R176) -/

theorem cellAfter_fell (old : CellLevel) (mv : Nat) :
    (old == .ok && cellAfter old mv == .low) = (old == .ok && decide (mv < 2600)) := by
  cases old
  · by_cases h : mv < 2600
    · simp [cellAfter, Config.cellLowMv, h]
    · by_cases h' : 2700 ≤ mv <;> simp [cellAfter, Config.cellLowMv, Config.cellOkMv, h, h']
  · rfl

/-- In STARTING and KEEP a sample sets the level and battery-low-seen, and no notice follows (R176). -/
theorem sampleCell_unserved {s : State} (h : s.serving = false) (mv : Nat) :
    sampleCell mv s = s.withPs { s.ps with
      cell := if mv < 2600 then .low else if 2700 ≤ mv then .ok else s.ps.cell
      cellCount := 0
      lowSeen := s.ps.lowSeen || (s.ps.cell == .ok && decide (mv < 2600)) } := by
  unfold sampleCell
  simp only [h, cellAfter_fell, Bool.and_false, Bool.not_false, Bool.and_true]
  rfl

/-! ### Rail good and rail fail (R165, R166, R172) -/

/-- RAIL_GOOD after the core domain's and, on a cold start, the keep domain's start values. -/
def startValues (own : Nat) (s : State) : State :=
  let u := coreStart own (s.withPs s.ps.started)
  let u := if u.ps.startKind = .cold then coldStart u else u
  u.withGuard { u.guard with asserted := u.guard.pinLow }

theorem beginStart_eq (own mv : Nat) (s : State) :
    beginStart own mv s = askSettings (sampleCell mv (startValues own s)) := rfl

theorem startValues_cold (own : Nat) {s : State} (h : s.ps.keepIntact = false) :
    startValues own s = (coldStart (coreStart own (s.withPs s.ps.started))).withGuard
      { pinLow := s.guard.pinLow, asserted := s.guard.pinLow, timer := none } := by
  have hk : (coreStart own (s.withPs s.ps.started)).ps.startKind = .cold := by
    show (if s.ps.keepIntact then StartKind.warm else .cold) = .cold
    rw [h]
    rfl
  rw [startValues]
  simp only [hk, if_true]
  rfl

theorem startValues_warm (own : Nat) {s : State} (h : s.ps.keepIntact = true) :
    startValues own s = (coreStart own (s.withPs s.ps.started)).withGuard
      { pinLow := s.guard.pinLow, asserted := s.guard.pinLow, timer := none } := by
  have hk : (coreStart own (s.withPs s.ps.started)).ps.startKind = .warm := by
    show (if s.ps.keepIntact then StartKind.warm else .cold) = .warm
    rw [h]
    rfl
  rw [startValues]
  simp only [hk]
  rfl

theorem exec_railGood : ∀ sa1 sa0 mv s, exec (.railGood sa1 sa0 mv) s = execRailGood sa1 sa0 mv s := by
  intros
  rfl

theorem exec_railFail : ∀ mv s, exec (.railFail mv) s = execRailFail mv s := by
  intros
  rfl

theorem railGood_cold (sa1 sa0 : Bool) (mv : Nat) {s : State} (hr : s.ps.rail = .fail)
    (hk : s.ps.keepIntact = false) :
    exec (.railGood sa1 sa0 mv) s = .next { startedCore sa1 sa0 s with
      ss := storeStart
      cal := calendarStart s.cal.zone s.cal.hour
      ps := startedPower .cold mv s.ps } := by
  rw [exec_railGood, execRailGood, if_pos hr, beginStart_eq, startValues_cold _ hk,
    sampleCell_unserved (by rfl)]
  refine congrArg Host.Outcome.next ?_
  have hp : s.ps.started = { s.ps.started with startKind := .cold, keepIntact := s.ps.keepIntact } := by
    simp [Power.started, hk]
  rw [hp]
  rfl

theorem railGood_warm (sa1 sa0 : Bool) (mv : Nat) {s : State} (hr : s.ps.rail = .fail)
    (hk : s.ps.keepIntact = true) :
    exec (.railGood sa1 sa0 mv) s = .next { startedCore sa1 sa0 s with
      ss := { s.ss with write := none, read := none, scrub := none }
      ps := startedPower .warm mv s.ps } := by
  rw [exec_railGood, execRailGood, if_pos hr, beginStart_eq, startValues_warm _ hk,
    sampleCell_unserved (by rfl)]
  refine congrArg Host.Outcome.next ?_
  have hp : s.ps.started = { s.ps.started with startKind := .warm, keepIntact := s.ps.keepIntact } := by
    simp [Power.started, hk]
  rw [hp]
  rfl

/-- Settles O12, with a sample in STARTING and KEEP (`sampleCell_unserved`) and the start values by the
keep-intact mark. -/
theorem railEventsStartAndStopThePart : Obligations.RailEventsStartAndStopThePart := by
  refine ⟨fun sa1 sa0 mv s => railGood_cold sa1 sa0 mv, fun sa1 sa0 mv s => railGood_warm sa1 sa0 mv,
    fun mv s hr => ?_, fun sa1 sa0 mv s hr => ?_, fun mv s hr => ?_⟩
  · rw [exec_railFail, execRailFail, if_pos hr, railLost, sampleCell_unserved (by rfl)]
    rfl
  · rw [exec_railGood, execRailGood, if_neg (by simp [hr])]
  · rw [exec_railFail, execRailFail, if_neg (by simp [hr])]

/-! ### The first two steps of the scrub (R25) -/

/-- The scrub's second step damages the slot (R25). -/
def failsCheck (x : SaveStore) (k : Nat) : Bool := (x.slot k).state == .live && x.slotFails k

/-- What the scrub's second step leaves in the slot (R25). -/
def checkedSlot (x : SaveStore) (k : Nat) : Slot :=
  if failsCheck x k then { x.slot k with state := .damaged } else x.slot k

/-- The flags after the scrub's second step for the slots below `n` (R25, R195). -/
def checkedFlags (x : SaveStore) (n : Nat) (flags : BitVec 12) : BitVec 12 :=
  flags ||| if (List.range n).any (failsCheck x) then BitVec.ofNat 12 (2 ^ 11) else 0

theorem checkedFlags_succ (x : SaveStore) (n : Nat) (flags : BitVec 12) :
    checkedFlags x (n + 1) flags =
      if failsCheck x n then checkedFlags x n flags ||| BitVec.ofNat 12 (2 ^ 11)
      else checkedFlags x n flags := by
  unfold checkedFlags
  rw [List.range_succ, List.any_append, BitVec.or_assoc]
  cases (List.range n).any (failsCheck x) <;> cases h : failsCheck x n <;> simp [h]

/-- The part after the second step for the slots below `n`. -/
structure Checked (s : State) (n : Nat) (t : State) : Prop where
  frame : t = { s with
    ss := { s.ss with slots := t.ss.slots }
    nu := { s.nu with pendingFlags := checkedFlags s.ss n s.nu.pendingFlags } }
  slot : ∀ k, t.ss.slot k = if k < n then checkedSlot s.ss k else s.ss.slot k

theorem checked_zero (s : State) : Checked s 0 s := ⟨by simp [checkedFlags], fun _ => rfl⟩

theorem State.reframed {s t : State} {y : SaveStore} {n : Notices} (h : t = { s with ss := y, nu := n })
    (x : SaveStore) (m : Notices) : { t with ss := x, nu := m } = { s with ss := x, nu := m } := by
  subst h
  rfl

theorem SaveStore.damage_of_slots {x y : SaveStore} {l : Vector Slot 8} (h : x = { y with slots := l })
    (k : Nat) : x.damage k = { y with slots := (x.damage k).slots } := by
  subst h
  rfl

theorem Checked.step {s t : State} {n : Nat} (h : Checked s n t) (hn : n < 8)
    (hs : s.ps.state = .starting) : Checked s (n + 1) (scrubCheckSlot t n) := by
  have hss : t.ss = { s.ss with slots := t.ss.slots } := (congrArg State.ss h.frame).trans rfl
  have hstate : t.ps.state = .starting := ((congrArg (fun u : State => u.ps.state) h.frame).trans rfl).trans hs
  have hsame : t.ss.slot n = s.ss.slot n := (h.slot n).trans (if_neg (lt_irrefl n))
  have hfails : t.ss.slotFails n = s.ss.slotFails n := by
    rw [hss]
    rfl
  have hflags : t.nu.pendingFlags = checkedFlags s.ss n s.nu.pendingFlags :=
    (congrArg (fun u : State => u.nu.pendingFlags) h.frame).trans rfl
  have hnu : { t.nu with pendingFlags := t.nu.pendingFlags ||| BitVec.ofNat 12 (2 ^ 11) } =
      { s.nu with pendingFlags := t.nu.pendingFlags ||| BitVec.ofNat 12 (2 ^ 11) } := by
    have hmask : t.nu.mask = s.nu.mask := (congrArg (fun u : State => u.nu.mask) h.frame).trans rfl
    have hcounters : t.nu.counters = s.nu.counters :=
      (congrArg (fun u : State => u.nu.counters) h.frame).trans rfl
    simp only [hmask, hcounters]
  have hdamage : t.ss.damage n = { s.ss with slots := (t.ss.damage n).slots } := SaveStore.damage_of_slots hss n
  have hcheck (hf : failsCheck s.ss n = false) : checkedSlot s.ss n = s.ss.slot n := by
    simp [checkedSlot, hf]
  unfold scrubCheckSlot
  rw [hsame, hfails]
  by_cases hf : failsCheck s.ss n = true
  · rw [if_pos (by simpa [failsCheck] using hf), damageSlot,
      raiseNotice_starting (by simpa using hstate)]
    refine ⟨?_, fun k => ?_⟩
    · rw [checkedFlags_succ, if_pos hf, ← hflags]
      refine (State.reframed h.frame _ _).trans ?_
      show { s with
        ss := t.ss.damage n
        nu := { t.nu with pendingFlags := t.nu.pendingFlags ||| BitVec.ofNat 12 (2 ^ 11) } } = { s with
        ss := { s.ss with slots := (t.ss.damage n).slots }
        nu := { s.nu with pendingFlags := t.nu.pendingFlags ||| BitVec.ofNat 12 (2 ^ 11) } }
      rw [← hdamage, ← hnu]
    · show (t.ss.damage n).slot k = _
      rcases Nat.lt_trichotomy k n with hk | rfl | hk
      · rw [SaveStore.damage, SaveStore.slot_withSlot_other _ _ hk.ne, h.slot, if_pos hk,
          if_pos (by omega)]
      · rw [SaveStore.damage, SaveStore.slot_withSlot_same _ _ hn, if_pos (by omega), hsame,
          checkedSlot, if_pos hf]
      · rw [SaveStore.damage, SaveStore.slot_withSlot_other _ _ hk.ne', h.slot, if_neg (by omega),
          if_neg (by omega)]
  · rw [if_neg (by simpa [failsCheck] using hf)]
    refine ⟨?_, fun k => ?_⟩
    · rw [checkedFlags_succ, if_neg hf]
      exact h.frame
    · rcases Nat.lt_trichotomy k n with hk | rfl | hk
      · rw [h.slot, if_pos hk, if_pos (by omega)]
      · rw [hsame, if_pos (by omega), hcheck (by simpa using hf)]
      · rw [h.slot, if_neg (by omega), if_neg (by omega)]

theorem checked_all {s : State} (hs : s.ps.state = .starting) :
    Checked s 8 (slotNumbers.foldl scrubCheckSlot s) := by
  have upTo : ∀ n ≤ 8, Checked s n ((List.range n).foldl scrubCheckSlot s) := by
    intro n
    induction n with
    | zero => exact fun _ => checked_zero s
    | succ n ih =>
      intro hn
      rw [List.range_succ, List.foldl_append]
      exact (ih (by omega)).step (by omega) hs
  exact upTo 8 le_rfl

/-! ### The settings read (R25, R166, R201) -/

theorem beginInterval_starting {s : State} (hs : s.ps.state = .starting) :
    beginInterval s = s.withBtg { s.btg with
      interval := s.btg.period
      nextIndex := 1
      timer := tickLength s.btg.period s.settings.ticks 0
      timerHeld := s.btg.tracker == .locked && decide (s.settings.ticks ≤ 1)
      tickCounter := (s.btg.tickCounter + 1) % 4294967296 } := by
  simp only [beginInterval, issueTick, State.withBtg_ps, hs]
  rfl

/-- The part with the settings handed out and the beats begun (R69, R194, R201). -/
def settled (bytes : List Byte) (s : State) : State :=
  beatBegin (takeSettings (settingsOf s.lif.own bytes) (settingsValid bytes) (freePort s))

theorem settingsArrive_eq (bytes : List Byte) (s : State) : settingsArrive bytes s = grant
    (if (settled bytes s).ps.startKind = .cold then enterActive (finishCold (settled bytes s))
      else scrubBegin (settled bytes s)) := rfl

theorem settled_eq (bytes : List Byte) {s : State} (hs : s.ps.state = .starting) :
    settled bytes s = { s with
      settings := settingsOf s.lif.own bytes
      pfu := { s.pfu with port := none }
      btg := { beatStart (settingsOf s.lif.own bytes).period with
        nextIndex := 1
        timer := tickLength (settingsOf s.lif.own bytes).period (settingsOf s.lif.own bytes).ticks 0
        timerHeld := false
        tickCounter := 1 }
      bu := { s.bu with allowance := (settingsOf s.lif.own bytes).safeAllowance }
      nu := { s.nu with mask := (settingsOf s.lif.own bytes).noticeMask }
      ps := { s.ps with settingsValid := settingsValid bytes } } := by
  rw [settled, beatBegin, beginInterval_starting (by exact hs)]
  rfl

theorem exec_settingsReadComplete : ∀ bytes s,
    exec (.settingsReadComplete bytes) s = execSettingsReadComplete bytes s := by
  intros
  rfl

theorem exec_settingsReadComplete_taken {bytes : List Byte} {address n : Nat} {s : State}
    (hs : s.ps.state = .starting)
    (hp : s.pfu.port = some { job := .settings, address := address, bytes := n }) :
    exec (.settingsReadComplete bytes) s = .next (settingsArrive bytes s) := by
  rw [exec_settingsReadComplete, execSettingsReadComplete, hp]
  simp only [hs, and_self, if_true]

theorem exec_settingsReadComplete_other {bytes : List Byte} {s : State}
    (h : s.ps.state ≠ .starting ∨ ∀ t, s.pfu.port = some t → t.job ≠ .settings) :
    exec (.settingsReadComplete bytes) s = .next s := by
  rw [exec_settingsReadComplete, execSettingsReadComplete]
  split
  · rfl
  · next t ht => rw [if_neg fun hk => h.elim (fun h => h hk.2) fun h => h t ht hk.1]

/-- The pages that the scrub's first step frees (R25). -/
def leftoverPages (x : SaveStore) : List Nat := pageNumbers.filter fun p => (x.page p).mark.leftover

/-- The store after the scrub's first step (R25). -/
def SaveStore.cleared (x : SaveStore) : SaveStore :=
  { x.markAll .free (leftoverPages x) with scrub := some (leftoverPages x).length }

theorem scrubBegin_eq (s : State) :
    scrubBegin s = slotNumbers.foldl scrubCheckSlot (s.withSs s.ss.cleared) := rfl

theorem SaveStore.page_cleared (x : SaveStore) {p : Nat} (hp : p < 128) : x.cleared.page p =
    { x.page p with mark := if (x.page p).mark.leftover then .free else (x.page p).mark } := by
  refine (SaveStore.page_markAll _ _ _ hp).trans ?_
  simp only [leftoverPages, List.mem_filter, mem_pageNumbers, hp, true_and]
  split <;> rfl

theorem SaveStore.slotFails_cleared (x : SaveStore) (k : Nat) :
    x.cleared.slotFails k = x.slotFails k := by
  unfold SaveStore.slotFails
  rw [Bool.eq_iff_iff, List.any_eq_true, List.any_eq_true]
  refine exists_congr fun p => and_congr_right fun hp => ?_
  have hp : p < 128 := mem_pageNumbers.1 hp
  have hcheck : x.cleared.checkAgrees p = x.checkAgrees p := by
    rw [SaveStore.checkAgrees, SaveStore.checkAgrees, page_cleared _ hp, SaveStore.cleared,
      SaveStore.markAll_ram]
  rw [hcheck, page_cleared _ hp]
  cases (x.page p).mark <;> rfl

theorem SaveStore.cleared_frame (x : SaveStore) : x.cleared = { x with
    owner := x.cleared.owner
    scrub := some ((List.range 128).countP fun p => (x.page p).mark.leftover) } := by
  rw [List.countP_eq_length_filter]
  conv_lhs => rw [SaveStore.cleared, SaveStore.markAll_frame]
  rfl

theorem failsCheck_cleared (x : SaveStore) (k : Nat) : failsCheck x.cleared k = failsCheck x k := by
  rw [failsCheck, failsCheck, x.slotFails_cleared, x.cleared_frame]
  rfl

theorem checkedSlot_eq_iff (x : SaveStore) (k : Nat) :
    checkedSlot x k = x.slot k ↔ failsCheck x k = false := by
  unfold checkedSlot
  cases h : failsCheck x k
  · simp
  · have hl : (x.slot k).state = .live := by simp [failsCheck] at h; exact h.1
    simp only [if_true, Bool.true_eq_false, iff_false]
    intro he
    have := congrArg Slot.state he
    simp [hl] at this

/-- The warm start's scrub begins: the leftover marks are cleared and counted, the failing slots
DAMAGED (R25). -/
theorem scrubBegin_spec {s : State} (hs : s.ps.state = .starting) :
    ∃ (owner : Vector PageEntry 128) (slots : Vector Slot 8) (flags : BitVec 12),
      scrubBegin s = { s with
        ss := { s.ss with owner := owner, slots := slots, scrub := (some
          ((List.range 128).countP fun p => (s.ss.page p).mark.leftover)) }
        nu := { s.nu with pendingFlags := flags } } ∧
      (∀ p : Fin 128, owner[p] = { s.ss.owner[p] with
        mark := if s.ss.owner[p].mark.leftover then .free else s.ss.owner[p].mark }) ∧
      (∀ k : Fin 8, slots[k] =
        if s.ss.slots[k].state = .live ∧ s.ss.slotFails k.val then
          { s.ss.slots[k] with state := .damaged }
        else s.ss.slots[k]) ∧
      flags = s.nu.pendingFlags ||| (if slots = s.ss.slots then 0 else BitVec.ofNat 12 (2 ^ 11)) := by
  have h := checked_all (s := s.withSs s.ss.cleared) hs
  rw [← scrubBegin_eq] at h
  generalize scrubBegin s = t at h
  have hslot (k : Nat) (hk : k < 8) : t.ss.slot k = checkedSlot s.ss k := by
    rw [h.slot, if_pos hk, State.withSs_ss, checkedSlot, failsCheck_cleared, s.ss.cleared_frame]
    rfl
  refine ⟨s.ss.cleared.owner, t.ss.slots, checkedFlags s.ss.cleared 8 s.nu.pendingFlags, ?_,
    fun p => ?_, fun k => ?_, ?_⟩
  · refine h.frame.trans ?_
    rw [State.withSs_ss, s.ss.cleared_frame]
    rfl
  · rw [← SaveStore.page_fin, ← SaveStore.page_fin]
    exact s.ss.page_cleared p.isLt
  · rw [← SaveStore.slot_fin, ← SaveStore.slot_fin, hslot k k.isLt]
    simp only [checkedSlot, failsCheck, Bool.and_eq_true, beq_iff_eq]
  · have hsame : t.ss.slots = s.ss.slots ↔ (List.range 8).any (failsCheck s.ss) = false := by
      rw [List.any_eq_false]
      constructor
      · intro he k hk
        have hk : k < 8 := List.mem_range.1 hk
        have := hslot k hk
        rw [SaveStore.slot, he] at this
        simpa using (checkedSlot_eq_iff _ _).1 this.symm
      · intro he
        refine SaveStore.slots_ext fun k hk => ?_
        rw [hslot k hk, checkedSlot_eq_iff]
        simpa using he k (List.mem_range.2 hk)
    rw [checkedFlags, funext (failsCheck_cleared s.ss)]
    by_cases he : (List.range 8).any (failsCheck s.ss) = true
    · rw [if_pos he, if_neg fun hc => Bool.false_ne_true ((hsame.1 hc).symm.trans he)]
    · rw [if_neg he, if_pos (hsame.2 (Bool.not_eq_true _ ▸ he))]

/-- Settles O40, with the settings handed out (`settled_eq`) and the first two steps of the scrub
(`scrubBegin_spec`). -/
theorem settingsReadCompletes : Obligations.SettingsReadCompletes := by
  refine ⟨fun bytes s => exec_settingsReadComplete_other, fun bytes address n s hs hp => ?_⟩
  intro st u
  have hu : settled bytes s = u := settled_eq bytes hs
  have hstate : u.ps.state = .starting := hs
  rw [exec_settingsReadComplete_taken hs hp, settingsArrive_eq, hu]
  refine ⟨fun hk => ?_, fun hk => ?_⟩
  · rw [if_pos (show u.ps.startKind = .cold from hk)]
    rfl
  · rw [if_neg (show ¬ u.ps.startKind = .cold by rw [show u.ps.startKind = .warm from hk]; decide)]
    obtain ⟨owner, slots, flags, ht, hrest⟩ := scrubBegin_spec hstate
    exact ⟨owner, slots, flags, by rw [ht], hrest⟩

end Sys2Proof.Machine
end

section
/-! SUPPORT. The Save Store's laws under a step: a cold start with a scrub leaves them (R25, R166). -/

namespace Sys2Proof.Machine

/-! ### The empty store -/

theorem storeStart_slot (k : Nat) : storeStart.slot k = emptySlot := by
  by_cases hk : k < 8
  · rw [SaveStore.slot_fin storeStart ⟨k, hk⟩]
    simp [storeStart]
  · exact SaveStore.slot_beyond _ (by omega)

theorem storeStart_page (p : Nat) : storeStart.page p = freePage := by
  by_cases hp : p < 128
  · rw [SaveStore.page_fin storeStart ⟨p, hp⟩]
    simp [storeStart]
  · exact SaveStore.page_beyond _ (by omega)

theorem storeStart_agrees : StoreAgrees storeStart := by
  refine ⟨fun k _ _ => storeStart_slot k, fun k _ hne => ?_, fun p _ k pos => ?_⟩
  · exact absurd (by rw [storeStart_slot]; rfl) hne
  · rw [storeStart_page, storeStart_slot]
    simp [freePage, emptySlot]

/-! ### The start that a settings read ends -/

theorem settingsArrive_cold_ss {bytes : List Byte} {s : State} (hs : s.ps.state = .starting)
    (hk : s.ps.startKind = .cold) : (settingsArrive bytes s).ss = s.ss := by
  rw [settingsArrive_eq, settled_eq bytes hs, if_pos hk, (grant_aside _).ss, enterActive_ss]
  rfl

theorem settingsArrive_cold_active {bytes : List Byte} {s : State} (hs : s.ps.state = .starting)
    (hk : s.ps.startKind = .cold) : (settingsArrive bytes s).ps.state = .active := by
  rw [settingsArrive_eq, settled_eq bytes hs, if_pos hk, (grant_aside _).ps, enterActive_ps]

/-- A cold start in which a scrub is marked as running, and the settings read that ends it waits. -/
def scrubbingCold : State := { State.reset with
  ps := { powerReset with state := .starting, startKind := .cold }
  ss := { storeStart with scrub := some 0 }
  pfu := { fetchStart with port := some { job := .settings, address := 0, bytes := 64 } }
  pending := [.settingsReadComplete []] }

theorem scrubbingCold_sound : StoreSound scrubbingCold := by
  have hslot (k : Nat) : scrubbingCold.ss.slot k = emptySlot := storeStart_slot k
  have hpage (p : Nat) : scrubbingCold.ss.page p = freePage := storeStart_page p
  refine ⟨storeStart_agrees, fun k _ hne => ?_, fun h => ?_, fun w hw => ?_, fun r hr => ?_,
    fun _ _ p _ => ?_, fun h => absurd rfl h, fun e he => ?_⟩
  · exact absurd (by rw [hslot]; rfl) hne
  · exact absurd h (by decide)
  · cases hw
  · cases hr
  · rw [hpage]
    rfl
  · cases he

theorem step_of_pending {s : State} {c : Instr} {rest : List Instr} (h : s.pending = c :: rest) :
    step s = exec c { s with pending := rest } := by
  rw [step, h]

theorem step_scrubbingCold : step scrubbingCold =
    .next (settingsArrive [] { scrubbingCold with pending := [] }) := by
  rw [step_of_pending (c := .settingsReadComplete []) (rest := []) rfl]
  exact exec_settingsReadComplete_taken (address := 0) (n := 64) rfl rfl

/-- Refutes O8: nothing in the laws rules out a scrub during a cold start, and from there the settings
read enters ACTIVE with the scrub still running. -/
theorem not_everyStepKeepsTheStoreSound : ¬ Obligations.EveryStepKeepsTheStoreSound := by
  intro h
  obtain ⟨-, -, -, -, -, -, hscrub, -⟩ := h _ _ scrubbingCold_sound step_scrubbingCold
  have hactive := settingsArrive_cold_active (bytes := [])
    (s := { scrubbingCold with pending := [] }) rfl rfl
  have hss := settingsArrive_cold_ss (bytes := []) (s := { scrubbingCold with pending := [] }) rfl rfl
  have hnone := hscrub (by rw [hactive]; decide)
  rw [hss] at hnone
  cases hnone

end Sys2Proof.Machine
end

section
/-! SUPPORT. Admission, the inbox's hand-on, and the requests that one reply answers (R183, R185, R202). -/

namespace Sys2Proof.Machine

/-! ### A request command and its service -/

/-- A request command brings its request to admission (log 1). -/
theorem exec_request {c : Instr} {e : Entry} (h : requestOf c = some e) (s : State) :
    exec c s = .next (request e.ask e.request s) := by
  cases c <;> cases h
  all_goals rfl

/-- A heard request's command is the service of the request (R183, R185). -/
theorem exec_heard {c : Instr} {e : Entry} {s : State} (hc : requestOf c = some e)
    (h : Heard s e.ask e.request.kind) : exec c s = .next (serve e s) := by
  rw [exec_request hc, request_heard h]

/-- A request that the line takes reaches admission (R181, R184). -/
theorem request_taken {e : Entry} {s : State}
    (h : s.ps.state = .active ∨ (s.ps.state = .doze ∧ e.ask.priority = 0)) :
    request e.ask e.request s = enterRequest e s := if_pos h

theorem request_notTaken {e : Entry} {s : State}
    (h : s.ps.state = .starting ∨ s.ps.state = .keep ∨ (s.ps.state = .doze ∧ e.ask.priority ≠ 0)) :
    request e.ask e.request s = s := by
  refine if_neg ?_
  rcases h with h | h | ⟨h, hp⟩
  · simp [h]
  · simp [h]
  · simp [h, hp]

/-! ### Admission (R183) -/

theorem enterRequest_notClient {e : Entry} {s : State}
    (h : s.settings.clientMask.getLsbD e.ask.source = false) :
    enterRequest e s = refuseRequest e .notClient s := by
  simp [enterRequest, admission, h]

theorem enterRequest_dozing {e : Entry} {s : State}
    (hc : s.settings.clientMask.getLsbD e.ask.source = true) (hd : s.ps.state = .doze)
    (hk : e.request.kind.servedInDoze = false) : enterRequest e s = refuseRequest e .dozing s := by
  simp [enterRequest, admission, hc, hd, hk]

theorem enterRequest_joins {e : Entry} {s : State}
    (hc : s.settings.clientMask.getLsbD e.ask.source = true)
    (hd : s.ps.state = .active ∨ e.request.kind.servedInDoze = true) :
    enterRequest e s = if 4 ≤ s.lif.inbox.length then s
      else drainInbox (s.withLif { s.lif with inbox := s.lif.inbox ++ [e] }) := by
  have hj : admission s e.ask.source e.request.kind = .joins := by
    rcases hd with hd | hd <;> simp [admission, hc, hd]
  simp only [enterRequest, hj]
  rfl

/-! ### The hand-on of the inbox (R185) -/

theorem copying_iff (x : SaveStore) :
    x.copying = true ↔ ∃ w, x.write = some w ∧ w.condition = .copying := by
  unfold SaveStore.copying
  cases x.write with
  | none => simp
  | some w => simp

theorem canTake_eq_false {s : State} {e : Entry} :
    canTake s e = false ↔ e.request.kind.owner = .saveStore ∧ s.ss.copying = true := by
  simp [canTake]

theorem Stores.inbox {s t : State} (h : Stores s t) : t.lif.inbox = s.lif.inbox :=
  (congrArg (fun u : State => u.lif.inbox) h).trans rfl

theorem serveSaveClose_inbox (a : Ask) (count mode : Nat) (s : State) :
    (serveSaveClose a count mode s).lif.inbox = s.lif.inbox := by
  unfold serveSaveClose closeCommit
  simp only
  repeat' split
  all_goals exact (reply_aside _ _ _ _ _).inbox

/-- No service touches the inbox. -/
theorem serve_inbox (e : Entry) (s : State) : (serve e s).lif.inbox = s.lif.inbox := by
  by_cases ho : e.request.kind.owner ≠ .saveStore ∧ e.request.kind.owner ≠ .calendar
  · exact (serve_aside ho.1 ho.2 s).inbox
  · obtain ⟨a, r⟩ := e
    have answered (k : Kind) (c : Code) (d : ReplyData) {t : State} (h : t.lif.inbox = s.lif.inbox) :
        (reply a k c d t).lif.inbox = s.lif.inbox := (reply_aside a k c d t).inbox.trans h
    cases r
    case saveOpen =>
      simp only [serve, serveSaveOpen]
      split <;> exact answered _ _ _ rfl
    case saveData => exact (serveSaveData_stores _ _ _ s).inbox
    case saveClose => exact serveSaveClose_inbox _ _ _ s
    case saveRead =>
      simp only [serve, serveSaveRead]
      split <;> exact answered _ _ _ rfl
    case saveErase =>
      simp only [serve, serveSaveErase]
      repeat' split
      all_goals exact answered _ _ _ rfl
    case saveInfo =>
      simp only [serve, serveSaveInfo]
      split <;> exact answered _ _ _ rfl
    case clockSet =>
      simp only [serve, serveClockSet]
      split
      · exact answered _ _ _ (appointmentCheck_inbox _)
      · exact answered _ _ _ rfl
    case clockRead => exact answered _ _ _ rfl
    case clockAccept =>
      simp only [serve, serveClockAccept]
      split <;> exact answered _ _ _ rfl
    case clockTrim => exact answered _ _ _ rfl
    case appointSet =>
      simp only [serve, serveAppointSet]
      repeat' split
      all_goals exact answered _ _ _ rfl
    case appointClear =>
      simp only [serve, serveAppointClear]
      repeat' split
      all_goals exact answered _ _ _ rfl
    case appointList =>
      simp only [serve, serveAppointList]
      split <;> exact answered _ _ _ rfl
    case misfit k => exact (serveMisfit_aside a k s).inbox
    all_goals simp [Request.kind, Kind.owner] at ho

theorem drainInbox_nil {s : State} (h : s.lif.inbox = []) : drainInbox s = s := by
  simp [drainInbox, handOn, h]

/-- A head that its owner can take leaves the inbox and is served, and the hand-on goes on. -/
theorem drainInbox_serves {s : State} {e : Entry} {rest : List Entry} (h : s.lif.inbox = e :: rest)
    (ht : canTake s e = true) :
    drainInbox s = drainInbox (serve e (s.withLif { s.lif with inbox := rest })) := by
  have hn : (serve e (s.withLif { s.lif with inbox := rest })).lif.inbox = rest := serve_inbox _ _
  rw [drainInbox, drainInbox, h, hn, List.length_cons, handOn, h]
  simp only [ht, if_true]

/-- Settles O21, with admission case by case and the hand-on by the inbox's head. -/
theorem requestIsRefusedServedOrWaits : Obligations.RequestIsRefusedServedOrWaits := by
  refine ⟨fun c e s hc hp => ⟨fun hm => ?_, fun hm hd hk => ?_⟩,
    fun c e s hc => ⟨exec_heard hc, fun head rest ha hm hi ho hcopy => ?_,
      fun hp hm hi ho hcopy => ?_, fun hp => ?_⟩, ?_⟩
  · rw [exec_request hc, request_taken hp, enterRequest_notClient hm]
    rfl
  · rw [exec_request hc, request_taken hp, enterRequest_dozing hm hd hk]
    rfl
  · rw [exec_request hc, request_taken (.inl ha), enterRequest_joins hm (.inl ha), hi]
    refine ⟨fun hl => ?_, fun hl => ?_⟩
    · rw [if_neg (by simp; omega)]
      exact congrArg Host.Outcome.next (drainInbox_waits (e := head) (rest := rest ++ [e]) rfl
        (canTake_eq_false.2 ⟨ho, hcopy⟩))
    · rw [if_pos (by simp; omega)]
  · have hreach : s.ps.state = .active ∨ (s.ps.state = .doze ∧ e.ask.priority = 0) :=
      hp.imp_right fun h => ⟨h.1, h.2.1⟩
    have hserved : s.ps.state = .active ∨ e.request.kind.servedInDoze = true :=
      hp.imp_right fun h => h.2.2
    rw [exec_request hc, request_taken hreach, enterRequest_joins hm hserved, hi, if_neg (by simp)]
    exact congrArg Host.Outcome.next (drainInbox_waits (e := e) (rest := []) rfl
      (canTake_eq_false.2 ⟨ho, hcopy⟩))
  · rw [exec_request hc, request_notTaken hp]
  · intro s copying
    refine ⟨drainInbox_nil, fun head rest hi => ⟨fun h => ?_, fun h => ?_⟩⟩
    · exact drainInbox_waits hi (canTake_eq_false.2 ⟨h.1, (copying_iff _).2 h.2⟩)
    · refine drainInbox_serves hi (Bool.not_eq_false _ ▸ fun hf => ?_)
      obtain ⟨ho, hcopy⟩ := canTake_eq_false.1 hf
      exact h.elim (fun h => h ho) fun h => h ((copying_iff _).1 hcopy)

end Sys2Proof.Machine
end

section
/-! SUPPORT. The Save Store's and the Notice Unit's requests, each as its rule spells it (R6, R8, R13, R19,
R23, R196 to R199). -/

namespace Sys2Proof.Machine

/-! ### Counters (R198, R199) -/

theorem getAt_clearGroup (x : Notices) {g i n : Nat} (hi : i < 16) :
    getAt ((List.range n).foldl (fun v j => setAt v (8 * g + j) zeroCounter) x.counters) i zeroCounter =
      if 8 * g ≤ i ∧ i < 8 * g + n then zeroCounter else getAt x.counters i zeroCounter := by
  induction n with
  | zero => rw [if_neg (by omega)]; rfl
  | succ n ih =>
    rw [List.range_succ, List.foldl_append, List.foldl_cons, List.foldl_nil]
    by_cases h : i = 8 * g + n
    · subst h
      rw [getAt_setAt_same _ _ _ hi, if_pos (by omega)]
    · rw [getAt_setAt_other _ _ _ h, ih]
      refine if_congr ?_ rfl rfl
      omega

/-- STATS_READ reads and clears the counters of its group (R198, R199). -/
theorem clearGroup_spec (x : Notices) (g : Nat) (i : Fin 16) :
    (i.val / 8 = g → (x.group g)[i.val % 8]? = some x.counters[i] ∧
      (x.clearGroup g).counters[i] = zeroCounter) ∧
    (i.val / 8 ≠ g → (x.clearGroup g).counters[i] = x.counters[i]) := by
  have hcleared : (x.clearGroup g).counters[i] = getAt (x.clearGroup g).counters i.val zeroCounter :=
    (getAt_of_lt _ _ i.isLt).symm
  have hold : x.counters[i] = getAt x.counters i.val zeroCounter := (getAt_of_lt _ _ i.isLt).symm
  rw [hcleared, hold, Notices.clearGroup, getAt_clearGroup x i.isLt]
  refine ⟨fun h => ⟨?_, if_pos (by omega)⟩, fun h => if_neg (by omega)⟩
  have hi : 8 * g + i.val % 8 = i.val := by omega
  simp [Notices.group, Nat.mod_lt, hi]

section
variable {s : State} {a : Ask}

theorem exec_saveInfo (h : Heard s a .saveInfo) (slot : Nat) :
    exec (.saveInfo a slot) s = .next (serveSaveInfo a slot s) := exec_heard (e := ⟨a, .saveInfo slot⟩) rfl h

theorem exec_appointList (h : Heard s a .appointList) (start : Nat) :
    exec (.appointList a start) s = .next (serveAppointList a start s) :=
  exec_heard (e := ⟨a, .appointList start⟩) rfl h

theorem exec_noticeEnable (h : Heard s a .noticeEnable) (mask : Nat) :
    exec (.noticeEnable a mask) s = .next (serveNoticeEnable a mask s) :=
  exec_heard (e := ⟨a, .noticeEnable mask⟩) rfl h

theorem exec_statsRead (h : Heard s a .statsRead) (group : Nat) :
    exec (.statsRead a group) s = .next (serveStatsRead a group s) :=
  exec_heard (e := ⟨a, .statsRead group⟩) rfl h

theorem exec_saveOpen (h : Heard s a .saveOpen) (slot : Nat) (form : OpenForm) :
    exec (.saveOpen a slot form) s = .next (serveSaveOpen a slot form s) :=
  exec_heard (e := ⟨a, .saveOpen slot form⟩) rfl h

theorem exec_saveClose (h : Heard s a .saveClose) (count mode : Nat) :
    exec (.saveClose a count mode) s = .next (serveSaveClose a count mode s) :=
  exec_heard (e := ⟨a, .saveClose count mode⟩) rfl h

theorem exec_saveRead (h : Heard s a .saveRead) (slot offset length : Nat) :
    exec (.saveRead a slot offset length) s = .next (serveSaveRead a slot offset length s) :=
  exec_heard (e := ⟨a, .saveRead slot offset length⟩) rfl h

theorem exec_saveErase (h : Heard s a .saveErase) (slot : Nat) :
    exec (.saveErase a slot) s = .next (serveSaveErase a slot s) :=
  exec_heard (e := ⟨a, .saveErase slot⟩) rfl h

theorem exec_saveData {source priority : Nat} (h : Heard s ⟨source, priority, 0⟩ .saveData)
    (toggle : Nat) (data : List Byte) : exec (.saveData source priority toggle data) s =
      .next (serveSaveData source toggle data s) :=
  exec_heard (e := ⟨⟨source, priority, 0⟩, .saveData toggle data⟩) rfl h

end

/-- Settles O22, request by request. -/
theorem readingAndNoticeRequestsAct : Obligations.ReadingAndNoticeRequestsAct := by
  refine ⟨fun a s => ⟨fun h => exec_heard (e := ⟨a, .ident⟩) rfl h,
    fun h => exec_heard (e := ⟨a, .clockRead⟩) rfl h, fun slot h hs => ?_, fun slot h hs => ?_,
    fun start h hs => ?_, fun start h hs => ?_⟩, fun a s => ⟨fun mask h hm => ?_, fun mask h hm => ?_,
    fun h => exec_heard (e := ⟨a, .noticeRead⟩) rfl h, fun group h hg => ?_, fun group h hg => ?_⟩⟩
  · rw [exec_saveInfo h, serveSaveInfo, if_neg (by omega)]
    rfl
  · rw [exec_saveInfo h, serveSaveInfo, if_pos hs]
  · rw [exec_appointList h, serveAppointList, if_neg (by omega)]
  · rw [exec_appointList h, serveAppointList, if_pos hs]
  · rw [exec_noticeEnable h, serveNoticeEnable, if_neg (by omega)]
    rfl
  · rw [exec_noticeEnable h, serveNoticeEnable, if_pos hm]
  · refine ⟨s.nu.group group, (s.nu.clearGroup group).counters, ?_, ?_, clearGroup_spec s.nu group⟩
    · rw [exec_statsRead h, serveStatsRead, if_neg (by omega)]
      rfl
    · simp [Notices.group]
  · rw [exec_statsRead h, serveStatsRead, if_pos hg]

/-! ### SAVE_OPEN (R6, R7) -/

theorem openRefusal_replace (s : State) (slot size : Nat) : openRefusal s slot (.replace size) =
    if 8 ≤ slot ∨ size = 0 ∨ 8192 < size then some .badArg
    else if s.ss.write ≠ none then some .busy
    else if s.guard.asserted = true then some .guarded
    else if s.ss.freeCount < (size + 255) / 256 then some .noSpace
    else none := by
  have harg : (¬ openArgsOk slot (.replace size) = true) = (8 ≤ slot ∨ size = 0 ∨ 8192 < size) := by
    simp only [openArgsOk, decide_eq_true_eq]
    simp only [Config.maxSlotBytes]
    exact propext (by omega)
  simp only [openRefusal, harg, patchRefusal, Option.isSome_iff_ne_none]
  rfl

theorem openRefusal_patch (s : State) (slot offset length : Nat) :
    openRefusal s slot (.patch offset length) =
      if 8 ≤ slot ∨ length = 0 ∨ 8192 < offset + length then some .badArg
      else if s.ss.write ≠ none then some .busy
      else if s.guard.asserted = true then some .guarded
      else if (s.ss.slot slot).state = .empty then some .empty
      else if (s.ss.slot slot).state = .damaged then some .damaged
      else if (s.ss.slot slot).size < offset then some .badArg
      else if s.ss.freeCount < (offset + length + 255) / 256 - offset / 256 then some .noSpace
      else none := by
  have harg : (¬ openArgsOk slot (.patch offset length) = true) =
      (8 ≤ slot ∨ length = 0 ∨ 8192 < offset + length) := by
    simp only [openArgsOk, decide_eq_true_eq]
    simp only [Config.maxSlotBytes]
    exact propext (by omega)
  simp only [openRefusal, harg, patchRefusal, Option.isSome_iff_ne_none]
  cases (s.ss.slot slot).state
  case live =>
    by_cases ho : (s.ss.slot slot).size < offset
    · simp only [ho, if_true]
      rfl
    · simp only [ho, if_false]
      rfl
  all_goals rfl

/-- What SAVE_OPEN makes of its checks' outcome (R6, R7). -/
def openAnswer (a : Ask) (slot : Nat) (form : OpenForm) (s : State) : Option Code → State
  | some c => reply a .saveOpen c .none s
  | none => reply a .saveOpen .done (.opened (neededPages form) s.cal.running)
      (s.withWrite (some (openedStream a.source s.now slot form)))

theorem serveSaveOpen_eq (a : Ask) (slot : Nat) (form : OpenForm) (s : State) :
    serveSaveOpen a slot form s = openAnswer a slot form s (openRefusal s slot form) := by
  unfold serveSaveOpen
  cases openRefusal s slot form <;> rfl

/-- Settles O30, by the order of the checks. -/
theorem saveOpenChecksInOrderAndOpens : Obligations.SaveOpenChecksInOrderAndOpens := by
  intro a slot s h free no done
  refine ⟨fun size => ?_, fun offset length => ?_, fun mode => ?_⟩
  · rw [exec_saveOpen h, serveSaveOpen_eq, openRefusal_replace]
    simp only [apply_ite (openAnswer a slot _ s)]
    rfl
  · rw [exec_saveOpen h, serveSaveOpen_eq, openRefusal_patch]
    simp only [apply_ite (openAnswer a slot _ s)]
    rfl
  · rw [exec_saveOpen h, serveSaveOpen_eq]
    rfl

/-! ### SAVE_DATA (R8, R9) -/

section
variable {s : State} {w : WriteStream} {source : Nat} (toggle : Nat) (data : List Byte)

theorem serveSaveData_foreign (hw : s.ss.write = some w) (ho : source ≠ w.owner) :
    serveSaveData source toggle data s = s := by
  rw [serveSaveData, hw]
  simp only [ho, ne_eq, not_false_eq_true, if_true]

theorem serveSaveData_broken (hw : s.ss.write = some w) (ho : source = w.owner)
    (hc : w.condition = .broken) : serveSaveData source toggle data s =
      s.withWrite (some { w with lastActivity := s.now }) := by
  rw [serveSaveData, hw]
  simp only [ho, ne_eq, not_true_eq_false, if_false]
  split <;> rename_i h <;> rw [hc] at h <;> cases h

theorem serveSaveData_opened (hw : s.ss.write = some w) (ho : source = w.owner)
    (hc : w.condition = .opened) : serveSaveData source toggle data s =
      if data.length = 0 ∨ 30 < data.length then s.withWrite (some { w with lastActivity := s.now })
      else if toggle ≠ w.toggle then
        count .duplicatePages (s.withWrite (some { w with lastActivity := s.now }))
      else if w.total < w.received + data.length then
        breakStream { w with lastActivity := s.now } .overlong
          (s.withWrite (some { w with lastActivity := s.now }))
      else feed data (s.withWrite (some { w with
        lastActivity := s.now, postBytes := data.length })) := by
  rw [serveSaveData, hw]
  simp only [ho, ne_eq, not_true_eq_false, if_false]
  split <;> rename_i h <;> rw [hc] at h <;> cases h

end

theorem SaveStore.markAll_rewritten (x : SaveStore) (w v : Option WriteStream) (m : Mark) (l : List Nat) :
    ({ ({ x with write := w } : SaveStore).markAll m l with write := v } : SaveStore) =
      { x.markAll m l with write := v } := by
  induction l generalizing x with
  | nil => rfl
  | cons p rest ih => exact ih (x.withMark p m)

/-- A stream breaks as it breaks without the refreshed last activity (R9). -/
theorem breakStream_refreshed (w : WriteStream) (v : Option WriteStream) (cause : LostCause) (s : State) :
    breakStream w cause (s.withWrite v) =
      raiseTo w.owner (.streamLost w.slot cause w.received) { s with
        ss := { s.ss.markAll .free (w.staged.map Prod.snd) with write := some { w with
          staged := [], condition := .broken, held := [], postBytes := 0 } } } :=
  congrArg (raiseTo w.owner (.streamLost w.slot cause w.received))
    (congrArg s.withSs (SaveStore.markAll_rewritten s.ss v _ .free (w.staged.map Prod.snd)))

/-- Settles O31, by the stream's owner and condition and the post's length and toggle. -/
theorem saveDataIsTakenByTheRules : Obligations.SaveDataIsTakenByTheRules := by
  intro source priority toggle data s h
  have idle : s.ss.copying = false := h.2.2.2 rfl
  rw [exec_saveData h toggle data]
  refine ⟨fun hw => by rw [serveSaveData, hw], fun w hw => ?_⟩
  intro fresh fits
  have hfits : ¬ (data.length = 0 ∨ 30 < data.length) ↔ fits := by
    show _ ↔ 1 ≤ data.length ∧ data.length ≤ 30
    omega
  refine ⟨fun ho => ?_, fun ho hc => ?_, fun ho hf hc ht => ?_, fun ho hf hc ht hl => ?_,
    fun ho hf hc ht hl => ?_⟩
  · rw [serveSaveData_foreign _ _ hw ho]
  · cases hcond : w.condition
    case opened =>
      have hn : data.length = 0 ∨ 30 < data.length :=
        by_contra fun hn => (hc.resolve_right (by simp [hcond])) (hfits.1 hn)
      rw [serveSaveData_opened _ _ hw ho hcond, if_pos hn]
      rfl
    case copying => exact absurd ((copying_iff s.ss).2 ⟨w, hw, hcond⟩) (by simp [idle])
    case broken =>
      rw [serveSaveData_broken _ _ hw ho hcond]
      rfl
  · rw [serveSaveData_opened _ _ hw ho hc, if_neg (hfits.2 hf), if_pos ht]
    rfl
  · rw [serveSaveData_opened _ _ hw ho hc, if_neg (hfits.2 hf), if_neg (by simp [ht]), if_pos hl]
    exact congrArg Host.Outcome.next (breakStream_refreshed _ _ _ _)
  · rw [serveSaveData_opened _ _ hw ho hc, if_neg (hfits.2 hf), if_neg (by simp [ht]),
      if_neg (by omega)]
    rfl

/-! ### SAVE_CLOSE (R13) -/

/-- Settles O33, by the order of the checks. -/
theorem saveCloseChecksInOrder : Obligations.SaveCloseChecksInOrder := by
  intro a count mode s h run
  have hrun : run = .next (serveSaveClose a count mode s) := exec_saveClose h count mode
  refine ⟨fun hm => ?_, fun hm hw => ?_, fun w hm hw => ?_⟩
  · rw [hrun, serveSaveClose, if_pos hm]
  · simp only [hrun, serveSaveClose, if_neg (show ¬ 2 ≤ mode by omega), hw]
  · intro ended
    simp only [hrun, serveSaveClose, if_neg (show ¬ 2 ≤ mode by omega), hw]
    rfl

/-! ### SAVE_READ (R19) -/

/-- What SAVE_READ makes of its checks' outcome (R19). -/
def readAnswer (a : Ask) (slot offset length : Nat) (s : State) : Option Code → State
  | some c => reply a .saveRead c .none s
  | none =>
    let n := min length ((s.ss.slot slot).size - offset)
    reply a .saveRead .done (.reading n) (s.withRead (some {
      slot := slot, reader := a.source, snapshot := (s.ss.slot slot).pages, next := offset
      left := n, toggle := 0, verified := [], damaged := false }))

theorem serveSaveRead_eq (a : Ask) (slot offset length : Nat) (s : State) :
    serveSaveRead a slot offset length s =
      readAnswer a slot offset length s (readRefusal s slot offset length) := by
  unfold serveSaveRead
  cases readRefusal s slot offset length <;> rfl

theorem readRefusal_eq (s : State) (slot offset length : Nat) : readRefusal s slot offset length =
    if 8 ≤ slot ∨ length = 0 then some .badArg
    else if s.ss.read ≠ none then some .busy
    else if (s.ss.slot slot).state = .empty then some .empty
    else if (s.ss.slot slot).state = .damaged then some .damaged
    else if (s.ss.slot slot).size ≤ offset then some .badArg
    else none := by
  simp only [readRefusal, Option.isSome_iff_ne_none]
  cases (s.ss.slot slot).state <;> rfl

/-- Settles O35, by the order of the checks. -/
theorem saveReadChecksInOrderAndOpens : Obligations.SaveReadChecksInOrderAndOpens := by
  intro a slot offset length s h no size
  rw [exec_saveRead h, serveSaveRead_eq, readRefusal_eq]
  simp only [apply_ite (readAnswer a slot offset length s)]
  rfl

/-! ### SAVE_ERASE (R23) -/

theorem writing_iff (x : SaveStore) (slot : Nat) :
    x.writing slot = true ↔ ∃ w, x.write = some w ∧ w.slot = slot := by
  unfold SaveStore.writing
  cases x.write <;> simp

/-- The store after a slot is erased (R23). -/
def SaveStore.erased (x : SaveStore) (slot : Nat) : SaveStore :=
  (x.release (x.slot slot).pages).withSlot slot emptySlot

theorem SaveStore.erased_frame (x : SaveStore) (slot : Nat) : x.erased slot =
    { x with owner := (x.erased slot).owner, slots := (x.erased slot).slots } := by
  obtain ⟨o, ho⟩ : ∃ o, x.release (x.slot slot).pages = { x with owner := o } := ⟨_, release_frame _ _⟩
  rw [erased, ho]
  rfl

theorem SaveStore.slot_erased (x : SaveStore) {slot : Nat} (hs : slot < 8) (k : Nat) :
    (x.erased slot).slot k = if k = slot then emptySlot else x.slot k := by
  split
  · next h => rw [h, erased, slot_withSlot_same _ _ hs]
  · next h => rw [erased, slot_withSlot_other _ _ h, release_slot]

/-- Settles O36, by the order of the checks and with the marks and slots after the release. -/
theorem saveEraseEmptiesTheSlot : Obligations.SaveEraseEmptiesTheSlot := by
  intro a slot s h run busy
  have hrun : run = .next (serveSaveErase a slot s) := exec_saveErase h slot
  rw [hrun, serveSaveErase, show busy = (s.ss.writing slot = true) from propext (writing_iff _ _).symm]
  refine ⟨fun hs => ?_, fun hs hb => ?_, fun hs hb hg => ?_, fun hs hb hg he => ?_,
    fun hs hb hg he => ?_⟩
  · rw [if_pos hs]
  · rw [if_neg (by omega), if_pos hb]
  · rw [if_neg (by omega), if_neg hb, if_pos hg]
  · rw [if_neg (by omega), if_neg hb, if_neg (by simp [hg]), if_pos he]
  · rw [if_neg (by omega), if_neg hb, if_neg (by simp [hg]), if_neg he]
    refine ⟨(s.ss.erased slot).owner, (s.ss.erased slot).slots, ?_, fun k => ?_, fun p => ?_⟩
    · rw [← SaveStore.erased_frame]
      rfl
    · rw [← SaveStore.slot_fin, ← SaveStore.slot_fin]
      exact SaveStore.slot_erased _ hs k
    · rw [← SaveStore.page_fin, ← SaveStore.page_fin]
      exact SaveStore.page_release _ _ p.isLt

/-! ### STREAM_IDLE_TIMEOUT (R17) -/

theorem exec_streamIdleTimeout : ∀ s, exec .streamIdleTimeout s = .next (idleExpiry s) := by
  intros
  rfl

section
variable {s : State} {w : WriteStream}

theorem idleExpiry_opened (hw : s.ss.write = some w) (hc : w.condition = .opened) :
    idleExpiry s = raiseTo w.owner (.streamLost w.slot .timeout w.received)
      (abandonStream w (reach (w.lastActivity + idleCounts s.settings) s)) := by
  rw [idleExpiry, hw]
  dsimp only
  split <;> rename_i h <;> rw [hc] at h <;> cases h

theorem idleExpiry_broken (hw : s.ss.write = some w) (hc : w.condition = .broken) :
    idleExpiry s = (reach (w.lastActivity + idleCounts s.settings) s).withWrite none := by
  rw [idleExpiry, hw]
  dsimp only
  split <;> rename_i h <;> rw [hc] at h <;> cases h

theorem idleExpiry_copying (hw : s.ss.write = some w) (hc : w.condition = .copying) :
    idleExpiry s = s := by
  rw [idleExpiry, hw]
  dsimp only
  split <;> rename_i h <;> rw [hc] at h <;> cases h

end

theorem withWrite_eq (v : Option WriteStream) (t : State) :
    t.withWrite v = { t with ss := { t.ss with write := v } } := rfl

theorem abandonStream_eq (w : WriteStream) (t : State) : abandonStream w t =
    { t with ss := { t.ss.markAll .free (w.staged.map Prod.snd) with write := none } } := rfl

theorem idleCounts_eq (st : Settings) : idleCounts st = (st.idleUnits * 1048576 + 9) / 10 := by
  rw [idleCounts, ceilDiv, Nat.add_sub_assoc (by decide)]

/-- Settles O38, by the stream's condition. -/
theorem idleTimeoutEndsTheStream : Obligations.IdleTimeoutEndsTheStream := by
  intro s
  rw [exec_streamIdleTimeout]
  refine ⟨fun hw => by rw [idleExpiry, hw], fun w hw => ?_⟩
  intro due
  have hss : (reach due s).ss = s.ss := (reach_aside due s).ss
  have hdue : w.lastActivity + idleCounts s.settings = due := by rw [idleCounts_eq]
  clear_value due
  refine ⟨fun hc => ?_, fun hc => ?_, fun hc => ?_⟩
  · refine congrArg Host.Outcome.next ((idleExpiry_opened hw hc).trans ?_)
    rw [hdue, abandonStream_eq, hss]
  · refine congrArg Host.Outcome.next ((idleExpiry_broken hw hc).trans ?_)
    rw [hdue, withWrite_eq, hss]
  · rw [idleExpiry_copying hw hc]

end Sys2Proof.Machine
end

section
/-! SUPPORT. READ_DATA: its hand-over and the verification of its pages (R20, R21, R22). -/

namespace Sys2Proof.Machine

/-! ### What the next READ_DATA needs (R20) -/

theorem mem_positions {r : ReadStream} {pos : Nat} :
    pos ∈ r.positions ↔ r.next / 256 ≤ pos ∧ pos ≤ (r.next + r.size - 1) / 256 := by
  simp only [ReadStream.positions, List.mem_map, List.mem_range]
  constructor
  · rintro ⟨i, hi, rfl⟩
    omega
  · rintro ⟨h1, h2⟩
    exact ⟨pos - r.next / 256, by omega, by omega⟩

/-- Every page that the next READ_DATA needs is verified (R20). -/
theorem unverified_eq_none {r : ReadStream} : r.unverified = none ↔
    ∀ pos, r.next / 256 ≤ pos → pos ≤ (r.next + min 30 r.left - 1) / 256 →
      r.snapshot.getD pos 0 ∈ r.verified := by
  rw [ReadStream.unverified, List.find?_eq_none]
  simp only [mem_positions, Bool.not_eq_true', List.contains_eq_mem, Bool.not_eq_false,
    decide_eq_true_eq, and_imp]
  rfl

theorem positions_eq (r : ReadStream) : r.positions =
    List.range' (r.next / 256) ((r.next + r.size - 1) / 256 + 1 - r.next / 256) := by
  rw [ReadStream.positions, List.range'_eq_map_range]

/-- The first page that the next READ_DATA needs and that is not yet verified (R20). -/
theorem unverified_eq_some {r : ReadStream} {pos : Nat} (hlo : r.next / 256 ≤ pos)
    (hhi : pos ≤ (r.next + min 30 r.left - 1) / 256) (hnot : r.snapshot.getD pos 0 ∉ r.verified)
    (hfirst : ∀ j, r.next / 256 ≤ j → j < pos → r.snapshot.getD j 0 ∈ r.verified) :
    r.unverified = some pos := by
  rw [ReadStream.unverified, positions_eq, List.find?_range'_eq_some, ← positions_eq, mem_positions]
  refine ⟨by simpa [ReadStream.pageAt] using hnot, ⟨hlo, hhi⟩, fun j hj hlt => ?_⟩
  simpa [ReadStream.pageAt] using hfirst j hj hlt

/-! ### READ_DATA_HANDOVER and READ_PAGE_VERIFY_COMPLETE -/

theorem exec_readDataHandover : ∀ s, exec .readDataHandover s = .next (readHandover s) := by
  intros
  rfl

theorem exec_readPageVerifyComplete : ∀ s, exec .readPageVerifyComplete s = .next (readVerify s) := by
  intros
  rfl

section
variable {s : State} {r : ReadStream}

theorem readHandover_held (h : s.ss.read = none ∨ 5 < s.lif.queue.length) : readHandover s = s := by
  unfold readHandover
  split
  · rfl
  · next r hr =>
    rw [if_pos]
    have := h.resolve_left (by simp [hr])
    simp only [Config.queuePlaces, Config.readDataPlaces]
    omega

/-- READ_DATA with three places of the queue free (R20, R21, R187). -/
theorem readHandover_free (hr : s.ss.read = some r) (hq : s.lif.queue.length ≤ 5) : readHandover s =
    if r.damaged = true then
      handPost (s.post 3 r.reader (.readData r.toggle true true [])) (s.withSs s.ss.endRead)
    else if r.unverified.isSome = true then s
    else handPost
      (s.post 3 r.reader (.readData r.toggle (decide (r.left ≤ r.size)) false (readBytes s.ss.ram r)))
      (if decide (r.left ≤ r.size) = true then s.withSs s.ss.endRead else s.withRead (some { r with
        next := r.next + r.size, left := r.left - r.size, toggle := 1 - r.toggle })) := by
  have hfree : ¬ Config.queuePlaces < s.lif.queue.length + Config.readDataPlaces := by
    simp only [Config.queuePlaces, Config.readDataPlaces]
    omega
  unfold readHandover
  rw [hr]
  dsimp only
  rw [if_neg hfree]

/-- The next READ_DATA of a whole stream with its pages verified (R20). -/
theorem readHandover_ready (hr : s.ss.read = some r) (hq : s.lif.queue.length ≤ 5)
    (hd : r.damaged = false) (hu : r.unverified = none) : readHandover s = handPost
      (s.post 3 r.reader (.readData r.toggle (decide (r.left ≤ r.size)) false (readBytes s.ss.ram r)))
      (if decide (r.left ≤ r.size) = true then s.withSs s.ss.endRead else s.withRead (some { r with
        next := r.next + r.size, left := r.left - r.size, toggle := 1 - r.toggle })) := by
  rw [readHandover_free hr hq, if_neg (by simp [hd]), if_neg (by simp [hu])]

theorem readVerify_none (hr : s.ss.read = none) : readVerify s = s := by rw [readVerify, hr]

theorem readVerify_verified (hr : s.ss.read = some r) (hu : r.unverified = none) :
    readVerify s = s := by
  rw [readVerify, hr]
  simp only [hu]

theorem readVerify_damaged (hr : s.ss.read = some r) (hd : r.damaged = true) : readVerify s = s := by
  rw [readVerify, hr]
  dsimp only
  split
  · rfl
  · rw [if_pos hd]

theorem readVerify_examines {pos : Nat} (hr : s.ss.read = some r) (hd : r.damaged = false)
    (hu : r.unverified = some pos) : readVerify s =
      if s.ss.checkAgrees (r.pageAt pos) = true then
        s.withRead (some { r with verified := r.verified ++ [r.pageAt pos] })
      else if (s.ss.page (r.pageAt pos)).mark = .live r.slot pos then
        damageSlot r.slot .readCheck (s.withRead (some { r with damaged := true }))
      else s.withRead (some { r with damaged := true }) := by
  rw [readVerify, hr]
  simp only [hu]
  rw [if_neg (by simp [hd])]

end

/-- Settles O37, with the pages that the next READ_DATA needs (`unverified_eq_none`,
`unverified_eq_some`). -/
theorem readDataIsVerifiedAndHandedFromTheSnapshot :
    Obligations.ReadDataIsVerifiedAndHandedFromTheSnapshot := by
  refine ⟨fun s => ⟨fun h => ?_, ⟨rfl, s.ss.endRead_frame, fun p => ?_⟩, fun r hr hq => ?_⟩,
    fun r pos s hr hd hlo hhi hnot hfirst => ?_, fun s => ⟨fun hr => ?_, fun r hr =>
      ⟨fun hd => ?_, fun hu => ?_⟩⟩⟩
  · rw [exec_readDataHandover, readHandover_held h]
  · rw [← SaveStore.page_fin, ← SaveStore.page_fin]
    exact s.ss.page_endRead p.isLt
  · intro n ready data post
    rw [exec_readDataHandover]
    have hdata : readBytes s.ss.ram r = data := rfl
    have hready : r.unverified = none ↔ ready := unverified_eq_none
    refine ⟨fun hd => ?_, fun hd hn => ?_, fun hd hy hl => ?_, fun hd hy hl => ?_⟩
    · rw [readHandover_free hr hq, if_pos hd]
      rfl
    · rw [readHandover_free hr hq, if_neg (by simp [hd]), if_pos]
      exact Option.isSome_iff_ne_none.2 fun hu => hn (hready.1 hu)
    · have hsize : r.size = 30 := by simp only [ReadStream.size]; omega
      rw [readHandover_ready hr hq hd (hready.2 hy), if_neg (by simp [hsize]; omega), hsize,
        decide_eq_false (by omega), hdata]
      rfl
    · have hsize : r.size = r.left := by simp only [ReadStream.size]; omega
      rw [readHandover_ready hr hq hd (hready.2 hy), if_pos (by simp [hsize]), hsize,
        decide_eq_true le_rfl, hdata]
      rfl
  · intro p bad
    rw [exec_readPageVerifyComplete, readVerify_examines hr hd (unverified_eq_some hlo hhi hnot hfirst),
      show r.pageAt pos = p from rfl]
    have hagrees : s.ss.checkAgrees p = true ↔ (s.ss.page p).check = crcBytes (pageContent s.ss.ram p) :=
      beq_iff_eq
    refine ⟨fun hc => ?_, fun hc hm => ?_, fun hc hm => ?_⟩
    · rw [if_pos (hagrees.2 hc)]
      rfl
    · rw [if_neg (fun h => hc (hagrees.1 h)), if_pos hm]
      rfl
    · rw [if_neg (fun h => hc (hagrees.1 h)), if_neg hm]
      rfl
  · rw [exec_readPageVerifyComplete, readVerify_none hr]
  · rw [exec_readPageVerifyComplete, readVerify_damaged hr hd]
  · rw [exec_readPageVerifyComplete, readVerify_verified hr (unverified_eq_none.2 hu)]

end Sys2Proof.Machine
end

section
/-! SUPPORT. The bytes of a SAVE_DATA post: where they land, the pages they are given and the page copy
(R1, R2, R8, R10 to R12). -/

namespace Sys2Proof.Machine

/-! ### One byte into a page -/

section
variable (x : SaveStore) (patch : Bool) (p at_ : Nat) (b : Byte)

theorem SaveStore.putByte_frame : x.putByte patch p at_ b =
    { x with ram := (x.putByte patch p at_ b).ram, owner := (x.putByte patch p at_ b).owner } := by
  unfold putByte
  dsimp only
  split <;> rfl

@[simp] theorem SaveStore.mark_putByte (q : Nat) :
    ((x.putByte patch p at_ b).page q).mark = (x.page q).mark := by
  unfold putByte
  dsimp only
  split
  · exact mark_makeCheck _ p q
  · rfl

@[simp] theorem SaveStore.putByte_write : (x.putByte patch p at_ b).write = x.write := by
  rw [putByte_frame]

@[simp] theorem SaveStore.putByte_slot (k : Nat) : (x.putByte patch p at_ b).slot k = x.slot k := by
  rw [putByte_frame]
  rfl

/-- The 256th byte of a REPLACE page makes its check; no other byte makes one (R1, R10). -/
theorem SaveStore.check_putByte {q : Nat} (hq : q < 128) :
    ((x.putByte patch p at_ b).page q).check =
      if patch = false ∧ at_ % 256 = 255 ∧ q = p then
        crcBytes (pageContent (x.putByte patch p at_ b).ram q)
      else (x.page q).check := by
  rw [putByte_ram]
  unfold putByte
  dsimp only
  by_cases h : (!patch && at_ % 256 == 255) = true
  · rw [if_pos h]
    simp only [Bool.and_eq_true, Bool.not_eq_true', beq_iff_eq] at h
    by_cases hqp : q = p
    · subst hqp
      rw [if_pos ⟨h.1, h.2, rfl⟩, page_makeCheck_same _ hq]
      dsimp only [pageCrc, pageBase]
    · rw [if_neg fun hc => hqp hc.2.2, page_makeCheck_other _ hqp]
      rfl
  · rw [if_neg h, if_neg fun hc => h (by simp [hc.1, hc.2.1])]
    rfl

end

/-! ### Where a post's bytes land -/

/-- Byte `i` of a post that begins at slot byte `base` lands at the address: in the page staged for its
position, at its place there (R10). -/
def WriteStream.lands (w : WriteStream) (base i p a : Nat) : Prop :=
  w.pageAt ((base + i) / 256) = some p ∧ a = 256 * p + (base + i) % 256

theorem WriteStream.lands_succ {w : WriteStream} {base i p a : Nat} :
    w.lands base (i + 1) p a ↔ w.lands (base + 1) i p a := by
  rw [lands, lands, show base + (i + 1) = base + 1 + i by omega]

/-- The store after a post's bytes: each has landed, the blanked pages of a PATCH hold 0xFF elsewhere, and
a check is made where byte 255 of a REPLACE page was written (R1, R10, R11). -/
structure Landed (w : WriteStream) (base : Nat) (data : List Byte) (blanked : List Nat)
    (x y : SaveStore) : Prop where
  bytes : ∀ i < data.length, ∃ p a, w.lands base i p a ∧ some (Memory.read y.ram a) = data[i]?
  others : ∀ a, (∀ i < data.length, ∀ p, ¬ w.lands base i p a) → Memory.read y.ram a =
    if w.patch = true ∧ a / 256 ∈ blanked then 0xFF else Memory.read x.ram a
  made : ∀ q < 128, w.patch = false → (∃ i < data.length, w.lands base i q (256 * q + 255)) →
    (y.page q).check = crcBytes (pageContent y.ram q)
  kept : ∀ q < 128, w.patch = true ∨ (∀ i < data.length, ¬ w.lands base i q (256 * q + 255)) →
    (y.page q).check = (x.page q).check

theorem Landed.nil (w : WriteStream) (base : Nat) (x : SaveStore) : Landed w base [] [] x x where
  bytes i hi := absurd hi (by simp)
  others a _ := by simp
  made q _ _ h := by simp at h
  kept q _ _ := rfl

theorem pageContent_congr {m m' : List Host.Cell} {p : Nat}
    (h : ∀ a, a / 256 = p → Memory.read m a = Memory.read m' a) : pageContent m p = pageContent m' p := by
  unfold pageContent Memory.readRun
  refine List.map_congr_left fun i hi => h _ ?_
  have := List.mem_range.1 hi
  simp only [pageBase]
  omega

/-- A first byte lands before the others: no later byte of the post reaches its place. -/
theorem Landed.cons {w : WriteStream} {base p : Nat} {b : Byte} {rest : List Byte}
    {new blanked : List Nat} {x x₁ y : SaveStore} (h : Landed w (base + 1) rest blanked x₁ y)
    (hp : w.pageAt (base / 256) = some p)
    (hread : ∀ a, Memory.read x₁.ram a = if a = 256 * p + base % 256 then b
      else if w.patch = true ∧ a / 256 ∈ new then 0xFF else Memory.read x.ram a)
    (hcheck : ∀ q < 128, (x₁.page q).check = if w.patch = false ∧ base % 256 = 255 ∧ q = p then
      crcBytes (pageContent x₁.ram q) else (x.page q).check)
    (hnew : p ∉ blanked) (hlen : rest.length < 255)
    (hsep : w.patch = false → base % 256 = 255 → ∀ j < rest.length,
      w.pageAt ((base + 1 + j) / 256) ≠ some p) :
    Landed w base (b :: rest) (new ++ blanked) x y where
  bytes i hi := by
    cases i with
    | zero =>
      refine ⟨p, _, ⟨hp, rfl⟩, ?_⟩
      rw [h.others _ fun j hj q hq => ?_, if_neg, hread, if_pos (by rw [Nat.add_zero])]
      · rfl
      · rintro ⟨-, hm⟩
        rw [show (256 * p + (base + 0) % 256) / 256 = p by omega] at hm
        exact hnew hm
      · have := hq.2
        omega
    | succ i =>
      obtain ⟨q, a, hl, hb⟩ := h.bytes i (by simpa using hi)
      exact ⟨q, a, WriteStream.lands_succ.2 hl, by simpa using hb⟩
  others a ha := by
    have h0 : a ≠ 256 * p + base % 256 := fun he => ha 0 (by simp) p ⟨hp, by simpa using he⟩
    rw [h.others a fun i hi q hq => ha (i + 1) (by simpa using hi) q (WriteStream.lands_succ.2 hq),
      hread, if_neg h0]
    by_cases hb : a / 256 ∈ blanked <;> by_cases hn : a / 256 ∈ new <;> by_cases hw : w.patch = true <;>
      simp [hb, hn, hw]
  made q hq hw hl := by
    by_cases hlater : ∃ i < rest.length, w.lands (base + 1) i q (256 * q + 255)
    · exact h.made q hq hw hlater
    · have hnone : ∀ i < rest.length, ¬ w.lands (base + 1) i q (256 * q + 255) :=
        fun i hi hl => hlater ⟨i, hi, hl⟩
      obtain ⟨i, hi, hl⟩ := hl
      cases i with
      | succ i => exact absurd (WriteStream.lands_succ.1 hl) (hnone i (by simpa using hi))
      | zero =>
        obtain ⟨hpage, hplace⟩ := hl
        have hpq : p = q := Option.some.inj (hp.symm.trans hpage)
        subst hpq
        have h255 : base % 256 = 255 := by simp at hplace; omega
        rw [h.kept p hq (.inr hnone), hcheck p hq, if_pos ⟨hw, h255, rfl⟩]
        refine congrArg crcBytes (pageContent_congr fun a ha => ?_).symm
        rw [h.others a fun j hj r hr => ?_, if_neg (by simp [hw])]
        have hrp : r = p := by
          have := hr.2
          omega
        exact hsep hw h255 j hj (hrp ▸ hr.1)
  kept q hq hl := by
    rw [h.kept q hq (hl.imp_right fun hl i hi hc =>
      hl (i + 1) (by simpa using hi) (WriteStream.lands_succ.2 hc)), hcheck q hq, if_neg]
    rintro ⟨hw, h255, rfl⟩
    exact hl.elim (fun h => by simp [hw] at h) fun hl => hl 0 (by simp) ⟨hp, by simp [h255]⟩

/-! ### The pages that a post is given (R2, R10) -/

/-- The positions that `n` bytes from slot byte `base` upward reach. -/
def reached (base n : Nat) : List Nat :=
  List.range' (base / 256) (if n = 0 then 0 else (base + n - 1) / 256 + 1 - base / 256)

theorem mem_reached {base n pos : Nat} : pos ∈ reached base n ↔
    n ≠ 0 ∧ base / 256 ≤ pos ∧ pos ≤ (base + n - 1) / 256 := by
  unfold reached
  rw [List.mem_range'_1]
  split <;> omega

/-- The positions after the first byte's are those of the later bytes, which may begin at the same one. -/
theorem reached_succ (base n : Nat) : ∃ later : List Nat, (∀ pos ∈ later, base / 256 < pos) ∧
    reached base (n + 1) = base / 256 :: later ∧
    (reached (base + 1) n = later ∨ reached (base + 1) n = base / 256 :: later) := by
  refine ⟨List.range' (base / 256 + 1) ((base + n) / 256 - base / 256), fun pos hp => ?_, ?_, ?_⟩
  · rw [List.mem_range'_1] at hp
    omega
  · rw [reached, if_neg (by omega),
      show (base + (n + 1) - 1) / 256 + 1 - base / 256 = (base + n) / 256 - base / 256 + 1 by omega,
      List.range'_succ]
  · unfold reached
    by_cases hn : n = 0
    · subst hn
      left
      simp
    · rw [if_neg hn, show base + 1 + n - 1 = base + n by omega]
      by_cases hd : (base + 1) / 256 = base / 256
      · right
        rw [hd, show (base + n) / 256 + 1 - base / 256 = (base + n) / 256 - base / 256 + 1 by omega,
          List.range'_succ]
      · left
        rw [show (base + 1) / 256 = base / 256 + 1 by omega, Nat.add_sub_add_right]

/-- The positions that a post reaches and for which the stream has no page (R10). -/
def WriteStream.lacking (w : WriteStream) (base n : Nat) : List Nat :=
  (reached base n).filter fun pos => (w.pageAt pos).isNone

/-- The FREE pages in order (R2). -/
def SaveStore.freePages (x : SaveStore) : List Nat :=
  (List.range 128).filter fun p => (x.page p).mark == .free

/-- The stream with more staged pages. -/
def WriteStream.withStaged (w : WriteStream) (l : List (Nat × Nat)) : WriteStream :=
  { w with staged := w.staged ++ l }

theorem WriteStream.withStaged_nil (w : WriteStream) : w.withStaged [] = w := by
  simp [withStaged]

theorem WriteStream.withStaged_cons (w : WriteStream) (q : Nat × Nat) (l : List (Nat × Nat)) :
    (w.withStaged [q]).withStaged l = w.withStaged (q :: l) := by
  simp [withStaged]

theorem WriteStream.pageAt_withStaged (w : WriteStream) (l : List (Nat × Nat)) (pos : Nat) :
    (w.withStaged l).pageAt pos =
      (w.pageAt pos).or ((l.find? fun x => x.1 == pos).map Prod.snd) := by
  simp only [pageAt, withStaged, List.find?_append, Option.map_or]

theorem WriteStream.mem_of_pageAt {w : WriteStream} {pos p : Nat} (h : w.pageAt pos = some p) :
    (pos, p) ∈ w.staged := by
  rw [pageAt, Option.map_eq_some_iff] at h
  obtain ⟨⟨i, q⟩, hq, rfl⟩ := h
  have hi := List.find?_some hq
  simp only [beq_iff_eq] at hi
  exact hi ▸ List.mem_of_find?_eq_some hq

theorem WriteStream.lacking_placed {w : WriteStream} {base n p : Nat}
    (h : w.pageAt (base / 256) = some p) : w.lacking base (n + 1) = w.lacking (base + 1) n := by
  obtain ⟨later, -, he, hl⟩ := reached_succ base n
  rcases hl with hl | hl <;> simp [lacking, he, hl, h]

theorem WriteStream.lacking_given {w : WriteStream} {base n : Nat} (p : Nat)
    (h : w.pageAt (base / 256) = none) : w.lacking base (n + 1) =
      base / 256 :: (w.withStaged [(base / 256, p)]).lacking (base + 1) n := by
  obtain ⟨later, hlt, he, hl⟩ := reached_succ base n
  have hlater : later.filter (fun pos => ((w.withStaged [(base / 256, p)]).pageAt pos).isNone) =
      later.filter fun pos => (w.pageAt pos).isNone := by
    refine List.filter_congr fun pos hp => ?_
    have hne : ¬ base / 256 = pos := by
      have := hlt pos hp
      omega
    simp [pageAt_withStaged, hne]
  have hfirst : (w.withStaged [(base / 256, p)]).pageAt (base / 256) = some p := by
    simp [pageAt_withStaged, h]
  rcases hl with hl | hl <;> simp [lacking, he, hl, h, hlater, hfirst]

theorem SaveStore.mem_freePages {x : SaveStore} {p : Nat} :
    p ∈ x.freePages ↔ p < 128 ∧ (x.page p).mark = .free := by
  simp [freePages]

theorem SaveStore.freePages_nodup (x : SaveStore) : x.freePages.Nodup :=
  List.Nodup.filter _ List.nodup_range

theorem SaveStore.lowestFree_eq (x : SaveStore) : x.lowestFree = x.freePages.head? := by
  rw [freePages, List.head?_filter]
  rfl

theorem SaveStore.freePages_congr {x y : SaveStore}
    (h : ∀ p < 128, (x.page p).mark = (y.page p).mark) : x.freePages = y.freePages :=
  List.filter_congr fun p hp => by rw [h p (List.mem_range.1 hp)]

/-- When the lowest FREE page is taken the others stay FREE. -/
theorem SaveStore.freePages_taken {x y : SaveStore} {p : Nat} {l : List Nat} {m : Mark}
    (hf : x.freePages = p :: l) (hm : m ≠ .free)
    (hy : ∀ q < 128, (y.page q).mark = if q = p then m else (x.page q).mark) : y.freePages = l := by
  have hnodup := x.freePages_nodup
  rw [hf, List.nodup_cons] at hnodup
  have hrest : y.freePages = x.freePages.filter (· ≠ p) := by
    rw [freePages, freePages, List.filter_filter]
    refine List.filter_congr fun q hq => ?_
    rw [hy q (List.mem_range.1 hq)]
    by_cases hqp : q = p <;> simp [hqp, hm]
  rw [hrest, hf, List.filter_cons_of_neg (by simp), List.filter_eq_self]
  intro q hq
  simpa using fun he : q = p => hnodup.1 (he ▸ hq)

/-! ### One byte of a post (R10 to R12) -/

/-- A FREE page is STAGED for a position: in PATCH filled with 0xFF (R10, R11). -/
def SaveStore.given (x : SaveStore) (w : WriteStream) (pos p : Nat) : SaveStore :=
  let y := { x.withMark p (.staged pos) with write := some (w.withStaged [(pos, p)]) }
  if w.patch then y.poke (pageBase p) (List.replicate 256 0xFF) else y

section
variable {s : State} {w : WriteStream} {b : Byte} {rest : List Byte} {p : Nat}

theorem feed_placed (hw : s.ss.write = some w)
    (hp : w.pageAt (w.place (rest.length + 1) / 256) = some p) : feed (b :: rest) s =
      feed rest (s.withSs (s.ss.putByte w.patch p (w.place (rest.length + 1)) b)) := by
  rw [feed, hw]
  dsimp only
  rw [hp]

theorem feed_given (hw : s.ss.write = some w)
    (hn : w.pageAt (w.place (rest.length + 1) / 256) = none) (hf : s.ss.lowestFree = some p)
    (hc : w.patch = true → (s.ss.slot w.slot).pages.length ≤ w.place (rest.length + 1) / 256) :
    feed (b :: rest) s = feed rest (s.withSs ((s.ss.given w (w.place (rest.length + 1) / 256) p).putByte
      w.patch p (w.place (rest.length + 1)) b)) := by
  rw [feed, hw]
  dsimp only
  rw [hn, hf]
  dsimp only
  by_cases hpatch : w.patch = true
  · rw [if_neg (by simp [hpatch]), SaveStore.given]
    dsimp only
    rw [if_pos hpatch]
    exact if_neg (Nat.not_lt.2 (hc hpatch))
  · rw [if_pos hpatch, SaveStore.given]
    dsimp only
    rw [if_neg hpatch]
    rfl

/-- The first byte whose position has a LIVE page of the slot and no staged one holds the post (R11). -/
theorem feed_copies (hw : s.ss.write = some w)
    (hn : w.pageAt (w.place (rest.length + 1) / 256) = none) (hf : s.ss.lowestFree = some p)
    (hpatch : w.patch = true)
    (hc : w.place (rest.length + 1) / 256 < (s.ss.slot w.slot).pages.length) :
    feed (b :: rest) s = s.withSs { s.ss.withMark p (.staged (w.place (rest.length + 1) / 256)) with
      write := some { w with
        staged := w.staged ++ [(w.place (rest.length + 1) / 256, p)]
        condition := .copying
        held := b :: rest } } := by
  rw [feed, hw]
  dsimp only
  rw [hn, hf]
  dsimp only
  rw [if_neg (by simp [hpatch])]
  exact if_pos hc

end

theorem WriteStream.place_succ {w : WriteStream} {n : Nat} (h : n + 1 ≤ w.postBytes) :
    w.place n = w.place (n + 1) + 1 := by
  simp only [place]
  omega

section
variable (x : SaveStore) (w : WriteStream) (pos p : Nat)

theorem SaveStore.given_frame : x.given w pos p = { x with
    ram := (x.given w pos p).ram
    owner := (x.withMark p (.staged pos)).owner
    write := some (w.withStaged [(pos, p)]) } := by
  unfold given
  generalize List.replicate 256 (0xFF : Byte) = blank
  dsimp only
  split <;> rfl

@[simp] theorem SaveStore.page_given (q : Nat) :
    (x.given w pos p).page q = (x.withMark p (.staged pos)).page q := by
  rw [given_frame]
  rfl

theorem SaveStore.given_ram : (x.given w pos p).ram =
    if w.patch then Memory.writeRun x.ram (pageBase p) (List.replicate 256 0xFF) else x.ram := by
  unfold given
  generalize List.replicate 256 (0xFF : Byte) = blank
  dsimp only
  split <;> rfl

theorem SaveStore.given_ram_wf (h : Memory.wf x.ram = true) : Memory.wf (x.given w pos p).ram = true := by
  rw [given_ram]
  split
  · exact Memory.writeRun_wf h _ _
  · exact h

theorem SaveStore.read_given (h : Memory.wf x.ram = true) (a : Nat) :
    Memory.read (x.given w pos p).ram a =
      if w.patch = true ∧ a / 256 ∈ [p] then 0xFF else Memory.read x.ram a := by
  rw [given_ram]
  by_cases hw : w.patch = true
  · rw [if_pos hw]
    by_cases ha : a / 256 = p
    · rw [if_pos ⟨hw, by rw [ha, List.mem_singleton]⟩,
        show a = pageBase p + a % 256 by rw [pageBase]; omega,
        Memory.read_writeRun_inside h (by rw [List.length_replicate]; omega), List.getElem_replicate]
    · rw [if_neg fun hc => ha (List.mem_singleton.1 hc.2), Memory.read_writeRun_outside h]
      rw [List.length_replicate, pageBase]
      omega
  · rw [if_neg hw, if_neg fun hc => hw hc.1]

end

/-! ### A whole post (R8, R10, R11) -/

/-- The pages of the stream carry STAGED at their positions (R2). -/
def StagedMarked (w : WriteStream) (x : SaveStore) : Prop :=
  ∀ q ∈ w.staged, (x.page q.2).mark = .staged q.1

theorem StagedMarked.lt {w : WriteStream} {x : SaveStore} (h : StagedMarked w x) {q : Nat × Nat}
    (hq : q ∈ w.staged) : q.2 < 128 := by
  by_contra hn
  have hm := h q hq
  rw [x.page_beyond (by omega)] at hm
  cases hm

/-- Each page of the stream stands at one position. -/
theorem StagedMarked.inj {w : WriteStream} {x : SaveStore} (h : StagedMarked w x) {pos pos' p : Nat}
    (hp : w.pageAt pos = some p) (hp' : w.pageAt pos' = some p) : pos = pos' := by
  have h1 := h _ (WriteStream.mem_of_pageAt hp)
  have h2 := h _ (WriteStream.mem_of_pageAt hp')
  exact Mark.staged.inj (h1.symm.trans h2)

/-- The pages that a post of `n` more bytes is given, with their positions (R2, R10). -/
def freshPages (x : SaveStore) (w : WriteStream) (n : Nat) : List (Nat × Nat) :=
  (w.lacking (w.place n) n).zip x.freePages

/-- The stream after its post (R8). -/
def WriteStream.fed (w : WriteStream) : WriteStream :=
  { w with
    received := w.received + w.postBytes, toggle := 1 - w.toggle, condition := .opened
    held := [], postBytes := 0 }

/-- What a post makes of the store: the bytes have landed, the pages it was given are STAGED, and no
other mark, slot or stream changes (R8, R10, R11). -/
structure PostLanded (w : WriteStream) (data : List Byte) (x y : SaveStore) : Prop where
  frame : y = { x with
    ram := y.ram
    owner := y.owner
    write := some (w.withStaged (freshPages x w data.length)).fed }
  landed : Landed (w.withStaged (freshPages x w data.length)) (w.place data.length) data
    ((freshPages x w data.length).map Prod.snd) x y
  given : ∀ q ∈ freshPages x w data.length, (y.page q.2).mark = .staged q.1
  others : ∀ p, p ∉ (freshPages x w data.length).map Prod.snd → (y.page p).mark = (x.page p).mark

theorem mem_freshPages_snd {x : SaveStore} {w : WriteStream} {n p : Nat}
    (h : p ∈ (freshPages x w n).map Prod.snd) : p < 128 ∧ (x.page p).mark = .free := by
  obtain ⟨q, hq, rfl⟩ := List.mem_map.1 h
  exact SaveStore.mem_freePages.1 (List.of_mem_zip hq).2

theorem PostLanded.marked {w : WriteStream} {data : List Byte} {x y : SaveStore}
    (h : PostLanded w data x y) (hm : StagedMarked w x) :
    StagedMarked (w.withStaged (freshPages x w data.length)) y := by
  intro q hq
  rcases List.mem_append.1 hq with hq | hq
  · rw [h.others _ fun hc => ?_, hm q hq]
    have := (mem_freshPages_snd hc).2
    rw [hm q hq] at this
    cases this
  · exact h.given q hq

theorem WriteStream.withStaged_append (w : WriteStream) (l l' : List (Nat × Nat)) :
    (w.withStaged l).withStaged l' = w.withStaged (l ++ l') := by
  simp [withStaged]

theorem WriteStream.pageAt_withStaged_some {w : WriteStream} {pos p : Nat} (h : w.pageAt pos = some p)
    (l : List (Nat × Nat)) : (w.withStaged l).pageAt pos = some p := by
  rw [pageAt_withStaged, h, Option.some_or]

/-- A first byte before the rest of the post: `new` is the page that it is given, if any. -/
theorem PostLanded.cons {w : WriteStream} {b : Byte} {rest : List Byte} {new : List (Nat × Nat)}
    {p : Nat} {x x₁ y : SaveStore} (h : PostLanded (w.withStaged new) rest x₁ y)
    (hfresh : freshPages x w (rest.length + 1) = new ++ freshPages x₁ (w.withStaged new) rest.length)
    (hframe : x₁ = { x with ram := x₁.ram, owner := x₁.owner, write := x₁.write })
    (hp : (w.withStaged new).pageAt (w.place (rest.length + 1) / 256) = some p)
    (hread : ∀ a, Memory.read x₁.ram a =
      if a = 256 * p + w.place (rest.length + 1) % 256 then b
      else if w.patch = true ∧ a / 256 ∈ new.map Prod.snd then 0xFF else Memory.read x.ram a)
    (hcheck : ∀ q < 128, (x₁.page q).check =
      if w.patch = false ∧ w.place (rest.length + 1) % 256 = 255 ∧ q = p then
        crcBytes (pageContent x₁.ram q) else (x.page q).check)
    (hothers : ∀ q, q ∉ new.map Prod.snd → (x₁.page q).mark = (x.page q).mark)
    (hm : StagedMarked (w.withStaged new) x₁) (hpost : rest.length + 1 ≤ w.postBytes)
    (hlen : rest.length < 255) : PostLanded w (b :: rest) x y := by
  have hplace : (w.withStaged new).place rest.length = w.place (rest.length + 1) + 1 :=
    WriteStream.place_succ hpost
  have hkept {q : Nat × Nat} (hq : q ∈ (w.withStaged new).staged) :
      q.2 ∉ (freshPages x₁ (w.withStaged new) rest.length).map Prod.snd := fun hc => by
    have := (mem_freshPages_snd hc).2
    rw [hm q hq] at this
    cases this
  have hmem : (w.place (rest.length + 1) / 256, p) ∈ (w.withStaged new).staged :=
    WriteStream.mem_of_pageAt hp
  constructor
  · rw [List.length_cons, hfresh, ← WriteStream.withStaged_append]
    refine h.frame.trans ?_
    rw [hframe]
  · have hl := h.landed
    have hmarked := h.marked hm
    rw [hplace] at hl
    rw [List.length_cons, hfresh, List.map_append, ← WriteStream.withStaged_append]
    refine hl.cons (WriteStream.pageAt_withStaged_some hp _) hread hcheck (hkept hmem) hlen ?_
    intro _ h255 j _ hj
    have := hmarked.inj (WriteStream.pageAt_withStaged_some hp _) hj
    omega
  · intro q hq
    rw [List.length_cons, hfresh] at hq
    rcases List.mem_append.1 hq with hq | hq
    · have hq' : q ∈ (w.withStaged new).staged := List.mem_append_right _ hq
      rw [h.others _ (hkept hq'), hm q hq']
    · exact h.given q hq
  · intro q hq
    rw [List.length_cons, hfresh, List.map_append, List.mem_append, not_or] at hq
    rw [h.others _ hq.2, hothers _ hq.1]

theorem postLanded_nil {w : WriteStream} (x : SaveStore) :
    PostLanded w [] x { x with write := some w.fed } := by
  have hnone : freshPages x w 0 = [] := by simp [freshPages, WriteStream.lacking, reached]
  constructor
  · simp only [List.length_nil, hnone, WriteStream.withStaged_nil]
  · simp only [List.length_nil, hnone, WriteStream.withStaged_nil, List.map_nil]
    exact ⟨fun i hi => absurd hi (by simp), fun a _ => by simp, fun q _ _ h => by simp at h,
      fun q _ _ => rfl⟩
  · simp [hnone]
  · exact fun _ _ => rfl

/-- A post whose bytes meet no LIVE page of a PATCH lands whole (R8, R10, R11). -/
theorem feed_postLanded (data : List Byte) {w : WriteStream} {s : State} (hw : s.ss.write = some w)
    (hwf : Memory.wf s.ss.ram = true) (hm : StagedMarked w s.ss) (hpost : data.length ≤ w.postBytes)
    (hlen : data.length ≤ 255)
    (hcopy : w.patch = true → ∀ pos ∈ reached (w.place data.length) data.length,
      (w.pageAt pos).isSome = true ∨ (s.ss.slot w.slot).pages.length ≤ pos)
    (henough : (w.lacking (w.place data.length) data.length).length ≤ s.ss.freePages.length) :
    ∃ y, feed data s = s.withSs y ∧ PostLanded w data s.ss y := by
  induction data generalizing w s with
  | nil =>
    refine ⟨_, ?_, postLanded_nil s.ss⟩
    rw [feed, hw]
    rfl
  | cons b rest ih =>
    simp only [List.length_cons] at hpost hlen hcopy henough
    have hplace : w.place rest.length = w.place (rest.length + 1) + 1 := WriteStream.place_succ hpost
    have hsub : ∀ pos ∈ reached (w.place rest.length) rest.length,
        pos ∈ reached (w.place (rest.length + 1)) (rest.length + 1) := fun pos hp => by
      rw [hplace, mem_reached] at hp
      rw [mem_reached]
      omega
    cases hp : w.pageAt (w.place (rest.length + 1) / 256) with
    | some p =>
      have hlack : w.lacking (w.place (rest.length + 1)) (rest.length + 1) =
          w.lacking (w.place rest.length) rest.length := by
        rw [hplace]
        exact WriteStream.lacking_placed hp
      obtain ⟨x₁, hx₁⟩ : ∃ x₁, x₁ = s.ss.putByte w.patch p (w.place (rest.length + 1)) b := ⟨_, rfl⟩
      have hmark (q : Nat) : (x₁.page q).mark = (s.ss.page q).mark := by rw [hx₁, SaveStore.mark_putByte]
      have hfree : x₁.freePages = s.ss.freePages := SaveStore.freePages_congr fun q _ => hmark q
      have hm₁ : StagedMarked w x₁ := fun q hq => (hmark _).trans (hm q hq)
      obtain ⟨y, hy, hland⟩ := ih (w := w) (s := s.withSs x₁) (by rw [hx₁]; simpa using hw)
        (by rw [hx₁]; exact putByte_keepsRam _ _ _ _ _ hwf) hm₁ (by omega) (by omega)
        (fun hpatch pos hpos => by rw [hx₁]; simpa using hcopy hpatch pos (hsub pos hpos))
        (by rw [← hlack]; simpa [hfree] using henough)
      refine ⟨y, by rw [feed_placed hw hp, ← hx₁, hy]; rfl, ?_⟩
      refine PostLanded.cons (new := []) (p := p) (x₁ := x₁) (by rwa [w.withStaged_nil]) ?_ ?_
        (by rwa [w.withStaged_nil]) ?_ ?_ (fun q _ => hmark q) (by rwa [w.withStaged_nil]) hpost
        (by omega)
      · rw [w.withStaged_nil, List.nil_append, freshPages, freshPages, hlack, hfree]
      · rw [hx₁, SaveStore.putByte_write]
        exact SaveStore.putByte_frame _ _ _ _ _
      · intro a
        rw [hx₁, SaveStore.putByte_ram, Memory.read_write hwf]
        simp
      · intro q hq
        rw [hx₁]
        exact SaveStore.check_putByte _ _ _ _ _ hq
    | none =>
      obtain ⟨pos, hpos⟩ : ∃ pos, pos = w.place (rest.length + 1) / 256 := ⟨_, rfl⟩
      rw [← hpos] at hp
      have hlack (p : Nat) : w.lacking (w.place (rest.length + 1)) (rest.length + 1) =
          pos :: (w.withStaged [(pos, p)]).lacking (w.place rest.length) rest.length := by
        rw [hplace, hpos]
        exact WriteStream.lacking_given p (hpos ▸ hp)
      obtain ⟨p, others, hfree⟩ : ∃ p l, s.ss.freePages = p :: l :=
        List.exists_cons_of_length_pos (by rw [hlack 0, List.length_cons] at henough; omega)
      obtain ⟨hlt, hpfree⟩ := SaveStore.mem_freePages.1 (hfree ▸ List.mem_cons_self : p ∈ s.ss.freePages)
      have hlong : w.patch = true → (s.ss.slot w.slot).pages.length ≤ pos := fun hpatch =>
        (hcopy hpatch pos (by rw [mem_reached, hpos]; omega)).resolve_left (by simp [hp])
      obtain ⟨x₁, hx₁⟩ : ∃ x₁, x₁ =
          (s.ss.given w pos p).putByte w.patch p (w.place (rest.length + 1)) b := ⟨_, rfl⟩
      have hmark {q : Nat} : (x₁.page q).mark =
          if q = p then .staged pos else (s.ss.page q).mark := by
        rw [hx₁, SaveStore.mark_putByte, SaveStore.page_given]
        split
        · next hq => rw [hq, SaveStore.page_withMark_same _ _ hlt]
        · next hq => rw [SaveStore.page_withMark_other _ _ hq]
      have hfree₁ : x₁.freePages = others := SaveStore.freePages_taken hfree (by simp) fun q _ => hmark
      have hm₁ : StagedMarked (w.withStaged [(pos, p)]) x₁ := by
        intro q hq
        rw [hmark]
        rcases List.mem_append.1 hq with hq | hq
        · rw [if_neg, hm q hq]
          intro he
          have := hm q hq
          rw [he, hpfree] at this
          cases this
        · rw [List.mem_singleton.1 hq, if_pos rfl]
      have hframe : x₁ = { s.ss with
          ram := x₁.ram, owner := x₁.owner, write := some (w.withStaged [(pos, p)]) } := by
        rw [hx₁, SaveStore.putByte_frame, SaveStore.given_frame]
      have hwf₁ : Memory.wf (s.ss.given w pos p).ram = true := s.ss.given_ram_wf w pos p hwf
      have hlow : s.ss.lowestFree = some p := by rw [SaveStore.lowestFree_eq, hfree, List.head?_cons]
      have hcopy₁ : w.patch = true → ∀ pos' ∈ reached (w.place rest.length) rest.length,
          ((w.withStaged [(pos, p)]).pageAt pos').isSome = true ∨
            (x₁.slot w.slot).pages.length ≤ pos' := fun hpatch pos' hpos' => by
        rw [hframe, WriteStream.pageAt_withStaged, Option.isSome_or]
        exact (hcopy hpatch pos' (hsub pos' hpos')).imp_left fun h => by rw [h, Bool.true_or]
      have henough₁ : ((w.withStaged [(pos, p)]).lacking (w.place rest.length) rest.length).length ≤
          x₁.freePages.length := by
        rw [hlack p, hfree] at henough
        rw [hfree₁]
        exact Nat.le_of_succ_le_succ henough
      obtain ⟨y, hy, hland⟩ := ih (w := w.withStaged [(pos, p)]) (s := s.withSs x₁) (by rw [hframe]; rfl)
        (by rw [hx₁]; exact putByte_keepsRam _ _ _ _ _ hwf₁) hm₁ (by exact Nat.le_of_succ_le hpost)
        (by omega) hcopy₁ henough₁
      refine ⟨y, by rw [feed_given hw (hpos ▸ hp) hlow (hpos ▸ hlong), ← hpos, ← hx₁, hy]; rfl, ?_⟩
      refine PostLanded.cons (new := [(pos, p)]) (p := p) (x₁ := x₁) hland ?_ ?_ ?_ ?_ ?_ ?_ hm₁ hpost
        (by omega)
      · rw [freshPages, freshPages, hlack p, hfree, hfree₁, List.zip_cons_cons, List.singleton_append]
        rfl
      · rw [hframe]
      · rw [← hpos, WriteStream.pageAt_withStaged, hp]
        simp
      · intro a
        rw [hx₁, SaveStore.putByte_ram, Memory.read_write hwf₁, SaveStore.read_given _ _ _ _ hwf]
        rfl
      · intro q hq
        rw [hx₁, SaveStore.check_putByte _ _ _ _ _ hq, SaveStore.page_given, SaveStore.check_withMark]
      · intro q hq
        rw [hmark, if_neg (by simpa using hq)]

/-! ### The bytes before a page copy (R11, R12) -/

theorem SaveStore.putByte_patch (x : SaveStore) (p at_ : Nat) (b : Byte) : x.putByte true p at_ b =
    { x with ram := Memory.write x.ram (256 * p + at_ % 256) b } := rfl

/-- The bytes of a PATCH post whose positions have pages land there, and the rest of the post goes on. -/
theorem feed_before (before rest : List Byte) {w : WriteStream} {s : State} (hw : s.ss.write = some w)
    (hpatch : w.patch = true) (hwf : Memory.wf s.ss.ram = true)
    (hpost : before.length + rest.length ≤ w.postBytes) (hlen : before.length ≤ 255)
    (hplaced : ∀ i < before.length,
      (w.pageAt ((w.place (before.length + rest.length) + i) / 256)).isSome = true) :
    ∃ ram, Memory.wf ram = true ∧
      feed (before ++ rest) s = feed rest (s.withSs { s.ss with ram := ram }) ∧
      Landed w (w.place (before.length + rest.length)) before [] s.ss { s.ss with ram := ram } := by
  induction before generalizing s with
  | nil => exact ⟨s.ss.ram, hwf, rfl, Landed.nil _ _ _⟩
  | cons b more ih =>
    have hcount : (b :: more).length + rest.length = (more ++ rest).length + 1 := by
      simp only [List.length_cons, List.length_append]
      omega
    have hpost' : (more ++ rest).length + 1 ≤ w.postBytes := hcount ▸ hpost
    have hplace : w.place (more.length + rest.length) = w.place ((more ++ rest).length + 1) + 1 := by
      rw [← List.length_append]
      exact WriteStream.place_succ hpost'
    rw [hcount] at hplaced ⊢
    obtain ⟨p, hp⟩ := Option.isSome_iff_exists.1 (hplaced 0 (by simp))
    rw [Nat.add_zero] at hp
    obtain ⟨m, hm⟩ : ∃ m, m =
        Memory.write s.ss.ram (256 * p + w.place ((more ++ rest).length + 1) % 256) b := ⟨_, rfl⟩
    have hwf' : Memory.wf m = true := by
      rw [hm]
      exact Memory.write_wf hwf _ _
    obtain ⟨ram, hram, hfeed, hland⟩ := ih (s := s.withSs { s.ss with ram := m }) hw hwf'
      (by simp only [List.length_append] at hpost'; omega) (by simp only [List.length_cons] at hlen; omega)
      (fun i hi => by
        have := hplaced (i + 1) (by simpa using hi)
        rwa [hplace, show w.place ((more ++ rest).length + 1) + 1 + i =
          w.place ((more ++ rest).length + 1) + (i + 1) by omega])
    refine ⟨ram, hram, ?_, ?_⟩
    · rw [List.cons_append, feed_placed hw hp, hpatch, SaveStore.putByte_patch, ← hm]
      exact hfeed
    · rw [hplace] at hland
      refine hland.cons (new := []) hp (fun a => ?_) (fun q _ => ?_) (by simp)
        (by simp only [List.length_cons] at hlen; omega) (fun hn => absurd hn (by simp [hpatch]))
      · show Memory.read m a = _
        rw [hm, Memory.read_write hwf]
        simp
      · rw [if_neg (by simp [hpatch])]
        rfl

theorem SaveStore.lowestFree_of_first {x : SaveStore} {p : Nat} (hp : p < 128)
    (hf : (x.page p).mark = .free) (hfirst : ∀ q < p, (x.page q).mark ≠ .free) :
    x.lowestFree = some p := by
  rw [lowestFree, pageNumbers, List.find?_range_eq_some]
  exact ⟨by simp [hf], List.mem_range.2 hp, fun q hq => by simpa using hfirst q hq⟩

/-! ### The page copy (R11, R12) -/

theorem length_copiedBytes (size pos : Nat) {l : List Byte} (hl : l.length = 256) :
    (copiedBytes size pos l).length = 256 := by
  simp only [copiedBytes, List.length_append, List.length_take, List.length_replicate, hl]
  omega

theorem getElem_copiedBytes (size pos : Nat) {l : List Byte} (hl : l.length = 256) {i : Nat}
    (hi : i < 256) : (copiedBytes size pos l)[i]'(by rwa [length_copiedBytes _ _ hl]) =
      if 256 * pos + i < size then l[i] else 0xFF := by
  simp only [copiedBytes]
  rw [List.getElem_append]
  by_cases h : 256 * pos + i < size
  · rw [dif_pos (by rw [List.length_take]; omega), List.getElem_take, if_pos h]
  · rw [dif_neg (by rw [List.length_take]; omega), List.getElem_replicate, if_neg h]

theorem length_pageContent (m : List Host.Cell) (p : Nat) : (pageContent m p).length = 256 := by
  simp [pageContent, Memory.readRun]

theorem getElem_pageContent (m : List Host.Cell) (p : Nat) {i : Nat} (hi : i < 256) :
    (pageContent m p)[i]'(by rwa [length_pageContent]) = Memory.read m (256 * p + i) := by
  simp [pageContent, Memory.readRun, pageBase]

section
variable {s : State} {w : WriteStream} {pos p : Nat}

theorem copyComplete_idle (h : ∀ w, s.ss.write = some w → w.condition ≠ .copying) :
    copyComplete s = s := by
  unfold copyComplete
  split
  · rfl
  · next w hw =>
    split
    · next hc _ => exact absurd hc (h w hw)
    · rfl

theorem copyComplete_copies (hw : s.ss.write = some w) (hc : w.condition = .copying)
    (hl : w.staged.getLast? = some (pos, p)) : copyComplete s =
      if s.ss.checkAgrees ((s.ss.slot w.slot).pages.getD pos 0) = true then
        feed w.held ((s.withSs (s.ss.poke (pageBase p) (copiedBytes (s.ss.slot w.slot).size pos
          (pageContent s.ss.ram ((s.ss.slot w.slot).pages.getD pos 0))))).withWrite
            (some { w with condition := .opened, held := [] }))
      else damageSlot w.slot .copyCheck (breakStream w .copyCheck s) := by
  rw [copyComplete, hw]
  dsimp only
  split
  · next hl' =>
    cases hl.symm.trans hl'
    rfl
  · next hn => exact absurd hl (hn pos p hc)

end

theorem exec_pageCopyComplete : ∀ s, exec .pageCopyComplete s = .next (drainInbox (copyComplete s)) := by
  intros
  rfl

/-- Settles O32, with where a post's bytes land (`feed_postLanded`, `feed_before`) and the copied page's
bytes (`getElem_copiedBytes`). -/
theorem saveDataBytesLandAndPagesAreCopied : Obligations.SaveDataBytesLandAndPagesAreCopied := by
  refine ⟨fun data w s hw hwf hm hlow hpost h30 => ?_,
    fun before rest b w p s hw hpatch hwf hpost h30 => ?_,
    fun w l pos p src s hw hc hl hsrc hwf => ⟨fun ha => ?_, fun ha => ?_⟩,
    fun s hs => by rw [exec_pageCopyComplete, copyComplete_idle hs]⟩
  · intro base reached' free hcopy henough fresh w' lands
    have hreached : reached base data.length = reached' := by
      rw [reached, if_neg (by omega)]
    have hfresh : freshPages s.ss w data.length = fresh := by
      rw [freshPages, WriteStream.lacking, show w.place data.length = base from rfl, hreached]
      rfl
    obtain ⟨y, hy, hland⟩ := feed_postLanded data hw hwf hm hpost (by omega)
      (fun hpatch pos hpos => hcopy hpatch pos (hreached ▸ hpos))
      (by rw [WriteStream.lacking, show w.place data.length = base from rfl, hreached]; exact henough)
    obtain ⟨hframe, hlanded, hgiven, hothers⟩ := hland
    rw [hfresh] at hframe hlanded hgiven hothers
    refine ⟨y.ram, y.owner, ?_, hlanded.bytes, hlanded.others, fun p => ⟨fun pos hp => ?_, fun hp => ?_,
      fun hpatch h255 => ?_, fun hkept => ?_⟩⟩
    · rw [hy]
      exact congrArg s.withSs hframe
    · rw [← SaveStore.page_fin]
      exact hgiven _ hp
    · rw [← SaveStore.page_fin, ← SaveStore.page_fin]
      exact hothers _ hp
    · rw [← SaveStore.page_fin]
      exact hlanded.made p p.isLt hpatch h255
    · rw [← SaveStore.page_fin, ← SaveStore.page_fin]
      exact hlanded.kept p p.isLt hkept
  · intro base pos hplaced hnone hlive hp hfree hfirst lands
    have hbase : w.place (before.length + (b :: rest).length) = base := by
      rw [List.length_cons, ← Nat.add_assoc, Nat.add_right_comm]
      rfl
    have hpos : w.place (rest.length + 1) / 256 = pos := by
      show (w.offset + w.received + (w.postBytes - (rest.length + 1))) / 256 =
        (w.offset + w.received + (w.postBytes - (before.length + 1 + rest.length)) + before.length) / 256
      congr 1
      omega
    obtain ⟨ram, hram, hfeed, hland⟩ := feed_before before (b :: rest) hw hpatch hwf
      (by rw [List.length_cons]; omega) (by omega) (by rw [hbase]; exact hplaced)
    rw [hbase] at hland
    refine ⟨ram, hram, ?_, fun i hi a ⟨q, hq, ha⟩ => ?_, fun a ha => ?_⟩
    · rw [hfeed, feed_copies (s := s.withSs { s.ss with ram := ram }) hw (by rw [hpos]; exact hnone)
        (SaveStore.lowestFree_of_first hp hfree hfirst) hpatch (by rw [hpos]; exact hlive), hpos]
      rfl
    · obtain ⟨q', a', ⟨hq', ha'⟩, hb⟩ := hland.bytes i hi
      cases hq.symm.trans hq'
      rw [ha, ← ha']
      exact hb
    · rw [hland.others a fun i hi q hq => ha i hi ⟨q, hq⟩, if_neg (by simp)]
  · have hsrc' : (s.ss.slot w.slot).pages.getD pos 0 = src := by
      rw [List.getD_eq_getElem?_getD, hsrc, Option.getD_some]
    have hlen := length_pageContent s.ss.ram src
    refine ⟨Memory.writeRun s.ss.ram (pageBase p) (copiedBytes (s.ss.slot w.slot).size pos
      (pageContent s.ss.ram src)), ?_, fun i hi => ?_, fun x hx => ?_⟩
    · rw [exec_pageCopyComplete, copyComplete_copies hw hc (by rw [hl, List.getLast?_concat]), hsrc',
        if_pos ha]
      rfl
    · rw [show 256 * p + i = pageBase p + i from rfl, Memory.read_writeRun_inside hwf
        (by rwa [length_copiedBytes _ _ hlen]), getElem_copiedBytes _ _ hlen hi, getElem_pageContent _ _ hi]
    · refine Memory.read_writeRun_outside hwf ?_
      rw [length_copiedBytes _ _ hlen]
      exact hx
  · have hsrc' : (s.ss.slot w.slot).pages.getD pos 0 = src := by
      rw [List.getD_eq_getElem?_getD, hsrc, Option.getD_some]
    rw [exec_pageCopyComplete, copyComplete_copies hw hc (by rw [hl, List.getLast?_concat]), hsrc',
      if_neg (by simp [ha])]
    rfl

end Sys2Proof.Machine
end

section
/-! SUPPORT. The blocks' steps at the entry to DOZE, each in the form that its rule gives (R30, R70, R113,
R136, R158, R185). -/

namespace Sys2Proof.Machine

/-! ### Posts leave the blocks alone -/

section
variable (place : TxPost → List TxPost → List TxPost) (p : TxPost) (s : State)

/-- A post joins the queue without regard to the other blocks. -/
theorem joinQueue_with (f : State → State)
    (hlif : ∀ x (t : State), f (t.withLif x) = (f t).withLif x)
    (hcount : ∀ st t, f (count st t) = count st (f t)) (hf : (f s).lif = s.lif) :
    joinQueue place p (f s) = f (joinQueue place p s) := by
  unfold joinQueue
  rw [hf]
  split
  · exact (hlif _ _).symm
  · split
    · split
      · rw [hcount, hlif]
      · rw [hcount]
    · rfl

theorem handPost_with (f : State → State)
    (hlif : ∀ x (t : State), f (t.withLif x) = (f t).withLif x)
    (hcount : ∀ st t, f (count st t) = count st (f t)) (hf : (f s).lif = s.lif) :
    handPost p (f s) = f (handPost p s) := by
  unfold handPost
  rw [hf, joinQueue_with _ _ _ f hlif hcount hf]
  split
  · exact (hlif _ _).symm
  · rfl

theorem handPost_withSe (x : Sound) : handPost p (s.withSe x) = (handPost p s).withSe x :=
  handPost_with p s (·.withSe x) (fun _ _ => rfl) (fun _ _ => rfl) rfl

theorem handPost_withRd (x : Rumble) : handPost p (s.withRd x) = (handPost p s).withRd x :=
  handPost_with p s (·.withRd x) (fun _ _ => rfl) (fun _ _ => rfl) rfl

end

theorem replyOwed_withSe (o : Owed) (k : Kind) (c : Code) (d : ReplyData) (x : Sound) (s : State) :
    replyOwed o k c d (s.withSe x) = (replyOwed o k c d s).withSe x := handPost_withSe _ s x

theorem replyOwed_withRd (o : Owed) (k : Kind) (c : Code) (d : ReplyData) (x : Rumble) (s : State) :
    replyOwed o k c d (s.withRd x) = (replyOwed o k c d s).withRd x := handPost_withRd _ s x

/-! ### The Line Interface (R185) -/

theorem servedInDoze_eq (k : Kind) : k.servedInDoze =
    [Kind.clockRead, .clockSet, .clockAccept, .appointSet, .appointClear, .appointList, .noticeRead,
      .saveInfo, .ident].contains k := by
  cases k <;> rfl

/-! ### The Sound Engine (R113) -/

theorem setAt_setAt {α : Type} {n : Nat} (v : Vector α n) (i : Nat) (x y : α) :
    setAt (setAt v i x) i y = setAt v i y := by
  unfold setAt
  ext j hj
  simp only [Vector.getElem_setIfInBounds]
  split <;> rfl

theorem withVoice_withVoice (s : State) (i : Nat) (v w : Voice) :
    (s.withVoice i v).withVoice i w = s.withVoice i w := by
  simp only [State.withVoice, State.withSe_se, setAt_setAt]
  rfl

theorem voice_withVoice (s : State) {i : Nat} (hi : i < 4) (v : Voice) :
    (s.withVoice i v).voice i = v := getAt_setAt_same _ _ _ hi

theorem voice_withVoice_other (s : State) {i j : Nat} (h : j ≠ i) (v : Voice) :
    (s.withVoice i v).voice j = s.voice j := getAt_setAt_other _ _ _ h

theorem replyOwed_withVoice (o : Owed) (k : Kind) (c : Code) (d : ReplyData) (s : State) (i : Nat)
    (v : Voice) : replyOwed o k c d (s.withVoice i v) = (replyOwed o k c d s).withVoice i v := by
  rw [State.withVoice, replyOwed_withSe, State.withVoice, replyOwed_se]

/-- A voice at rest (R87, R103). -/
def Voice.resting (v : Voice) : Voice := { v with state := .idle, stage := .off, env := 0 }

theorem restVoice_eq (i : Nat) (s : State) : restVoice i s = s.withVoice i (s.voice i).resting := rfl

/-- A voice that owes a lookup reply answers it CANCELLED and is at rest (R93, R113). -/
theorem dozeOwed_eq (s : State) {i : Nat} (hi : i < 4) : dozeOwed i s =
    match (s.voice i).owed with
    | some o => (replyOwed o .playSound .cancelled .none s).withVoice i
        ({ s.voice i with owed := none } : Voice).resting
    | none => s := by
  unfold dozeOwed cancelVoiceOwed
  cases (s.voice i).owed with
  | none => rfl
  | some o =>
    dsimp only [Option.isSome]
    rw [if_pos rfl, replyOwed_withVoice, restVoice_eq, voice_withVoice _ hi, withVoice_withVoice]

/-- A confirmed play's end is told (R111). -/
theorem endCue_eq (i : Nat) (why : EndReason) (s : State) : endCue i why s =
    if (s.voice i).state ≠ .idle ∧ (s.voice i).owed = none ∧ (s.voice i).endNotice = true then
      raiseTo (s.voice i).requester (.cueEnd i (s.voice i).playNo (s.voice i).pattern why) s
    else s := by
  unfold endCue
  dsimp only
  refine if_congr ?_ rfl rfl
  simp only [Bool.and_eq_true, bne_iff_ne, Option.isNone_iff_eq_none, and_assoc]

theorem dozeRest_eq (i : Nat) (s : State) :
    dozeRest i s = (closeRec (i + 1) s).withVoice i (s.voice i).resting := rfl

theorem eachVoice_eq (f : Nat → State → State) (s : State) :
    eachVoice f s = [0, 1, 2, 3].foldl (fun v i => f i v) s := rfl

theorem eachVoice_congr {f g : Nat → State → State} (h : ∀ i < 4, ∀ s, f i s = g i s) (s : State) :
    eachVoice f s = eachVoice g s := by
  simp only [eachVoice, h 0 (by omega), h 1 (by omega), h 2 (by omega), h 3 (by omega)]

/-! ### The Rumble Driver (R136) -/

theorem Rumble.holdsPlay_iff (r : Rumble) : r.holdsPlay = true ↔
    (r.player = .starting ∨ r.player = .playing ∨ r.player = .starved ∨ r.player = .steady) ∨
      r.player = .braking := by
  cases h : r.player <;> simp [Rumble.holdsPlay, Rumble.running, h]

/-- A held and confirmed play's end is told (R127). -/
theorem endRumble_power (s : State) : endRumble .power s =
    if ((s.rd.player = .starting ∨ s.rd.player = .playing ∨ s.rd.player = .starved ∨
        s.rd.player = .steady) ∨ s.rd.player = .braking) ∧ s.rd.owed = none ∧ s.rd.endNotice = true then
      raiseTo s.rd.requester (.rumbleEnd s.rd.playNo s.rd.kind
        (match s.rd.kind with | .pattern => some s.rd.pattern | .steady => none)
        (if s.rd.player = .braking then s.rd.endReason.getD .power else .power)) s
    else s := by
  have hkind : (if s.rd.kind = .pattern then some s.rd.pattern else none) =
      match s.rd.kind with | .pattern => some s.rd.pattern | .steady => none := by
    cases s.rd.kind <;> rfl
  unfold endRumble
  dsimp only
  rw [hkind]
  refine if_congr ?_ rfl rfl
  rw [Bool.and_eq_true, Bool.and_eq_true, Rumble.holdsPlay_iff, Option.isNone_iff_eq_none, and_assoc]

/-- The owed lookup reply of the Rumble Driver, CANCELLED (R120). -/
def rumbleCancelled (r : Rumble) (s : State) : State :=
  match r.owed with
  | some o => replyOwed o .playRumble .cancelled .none s
  | none => s

theorem cancelRumbleOwed_eq (s : State) :
    cancelRumbleOwed s = (rumbleCancelled s.rd s).withRd { s.rd with owed := none } := by
  unfold cancelRumbleOwed rumbleCancelled
  cases h : s.rd.owed with
  | none =>
    have hr : { s.rd with owed := none } = s.rd := by rw [← h]
    rw [hr]
    rfl
  | some o => exact replyOwed_withRd _ _ _ _ _ s

/-- The player state that a motor check came from, or the one at rest (R133, R136). -/
def Rumble.origin (r : Rumble) : PlayerState :=
  match r.check with
  | some c => if c.cameFaulted = true then .faulted else .idle
  | none => if r.player = .faulted then .faulted else .idle

/-- A motor check's reply at the entry to DOZE (R135). -/
def checkCancelled (r : Rumble) (s : State) : State :=
  match r.check with
  | some c => replyOwed c.owed .motorCheck .cancelled (.check .failed (some .power) none r.origin) s
  | none => s

/-- The Rumble Driver at rest (R117, R136). -/
def Rumble.dozing (r : Rumble) : Rumble :=
  { r with
    owed := none, check := none, player := r.origin, mode := .off, dReq := 0, dRes := 0, dEff := 0 }

/-- The Rumble Driver's record after its check is answered (R135). -/
def Rumble.unchecked (r : Rumble) : Rumble :=
  match r.check with
  | some c => { r.stilled with player := c.cameFrom, check := none }
  | none => r

theorem failCheck_power (r : Rumble) (s : State) :
    failCheck .power (s.withRd r) = (checkCancelled r s).withRd r.unchecked := by
  unfold failCheck checkCancelled Rumble.unchecked
  rw [State.withRd_rd]
  cases h : r.check with
  | none => rfl
  | some c =>
    have horigin : r.origin = c.cameFrom := by rw [Rumble.origin, h]; rfl
    dsimp only
    rw [horigin]
    exact replyOwed_withRd _ _ _ _ _ s

theorem Rumble.dozing_eq (r : Rumble) : r.dozing =
    { ({ r with owed := none } : Rumble).unchecked.stilled with
      player := if ({ r with owed := none } : Rumble).unchecked.player = .faulted then .faulted
        else .idle } := by
  unfold dozing unchecked origin
  cases h : r.check with
  | none =>
    dsimp only [stilled]
  | some c =>
    have hcame : (if c.cameFrom = .faulted then PlayerState.faulted else .idle) = c.cameFrom := by
      unfold MotorCheck.cameFrom
      split <;> rfl
    dsimp only [stilled]
    rw [hcame]
    rfl

/-- The Rumble Driver's step at the entry to DOZE: it tells, answers and rests (R136). -/
theorem rumbleDoze_eq (s : State) : rumbleDoze s =
    closeRec 0 ((checkCancelled s.rd (rumbleCancelled s.rd (endRumble .power s))).withRd s.rd.dozing) := by
  have hend : (endRumble .power s).rd = s.rd := by
    rw [endRumble_power]
    split
    · exact raiseTo_rd ..
    · rfl
  unfold rumbleDoze
  rw [cancelRumbleOwed_eq, hend, failCheck_power, Rumble.dozing_eq]
  rfl

/-! ### The Save Store (R30) -/

/-- The write stream's end at the entry to DOZE (R30). -/
theorem dozeWrite_eq (s : State) : dozeWrite s =
    match s.ss.write with
    | none => s
    | some w =>
      if w.condition = .broken then s.withWrite none
      else raiseTo w.owner (.streamLost w.slot .power w.received) (abandonStream w s) := by
  unfold dozeWrite
  cases s.ss.write with
  | none => rfl
  | some w =>
    dsimp only
    split <;> rename_i h <;> simp [h]

theorem dozeWrite_read (s : State) : (dozeWrite s).ss.read = s.ss.read := by
  rw [dozeWrite_eq]
  split
  · rfl
  · split
    · rfl
    · rw [raiseTo_ss]
      exact SaveStore.markAll_read _ _ _

theorem storeDoze_eq (s : State) : storeDoze s =
    if s.ss.read = none then dozeWrite s else (dozeWrite s).withSs (dozeWrite s).ss.endRead := by
  unfold storeDoze
  dsimp only
  rw [dozeWrite_read]
  cases s.ss.read <;> rfl

/-! ### The Beat Tracker (R70) and the Budget Unit (R158) -/

/-- The tracker goes FREE (R70). -/
def freed (s : State) : State := s.withBtg { s.btg with tracker := .free }

theorem beatDoze_eq (s : State) : beatDoze s =
    if s.btg.tracker = .locked then if s.btg.timerHeld = true then beginInterval (freed s) else freed s
    else s := rfl

theorem budgetDoze_eq (s : State) : budgetDoze s =
    announce (leastClaim s.settings) ((recompute (s.withBu { s.bu with raise := none })).withBu
      { (recompute (s.withBu { s.bu with raise := none })).bu with
        released := leastClaim s.settings }) := by
  have hs : (recomputeWith { s.bu with raise := none } s).settings = s.settings :=
    (recomputeWith_aside _ s).settings
  unfold budgetDoze
  dsimp only
  rw [hs]
  rfl

theorem lineDoze_eq (s : State) : lineDoze s =
    (s.lif.inbox.filter fun e => !e.request.kind.servedInDoze).foldl (fun s e => refuseRequest e .dozing s)
      (s.withLif { s.lif with inbox := s.lif.inbox.filter fun e => e.request.kind.servedInDoze }) := rfl

theorem soundDoze_eq (s : State) : soundDoze s =
    (eachVoice dozeRest (eachVoice (fun i => endCue i .power) (eachVoice dozeOwed s))).withSe
      { (eachVoice dozeRest (eachVoice (fun i => endCue i .power) (eachVoice dozeOwed s))).se with
        gEff := 0, compare := 512 } := rfl

theorem withSe_record (x : Sound) (s : State) : s.withSe x = { s with se := x } := rfl

end Sys2Proof.Machine
end

section
/-! SUPPORT. What the entry to DOZE leaves in each block (R30, R70, R113, R136, R158, R185). -/

namespace Sys2Proof.Machine

/-! ### The Sound Engine at rest (R113) -/

/-- A step over voices 0 to 3 that makes `g v` of voice `v` and leaves the rest of the Sound Engine. -/
structure VoiceStep (f : Nat → State → State) (g : Voice → Voice) : Prop where
  voice : ∀ i < 4, ∀ s, ∀ j < 4, (f i s).voice j = if j = i then g (s.voice j) else s.voice j
  frame : ∀ i s, (f i s).se = { s.se with voices := (f i s).se.voices }

theorem VoiceStep.each_voice {f : Nat → State → State} {g : Voice → Voice} (h : VoiceStep f g) (s : State)
    {j : Nat} (hj : j < 4) : (eachVoice f s).voice j = g (s.voice j) := by
  rw [eachVoice, h.voice 3 (by omega) _ j hj, h.voice 2 (by omega) _ j hj, h.voice 1 (by omega) _ j hj,
    h.voice 0 (by omega) _ j hj]
  have : j = 0 ∨ j = 1 ∨ j = 2 ∨ j = 3 := by omega
  rcases this with rfl | rfl | rfl | rfl <;> rfl

theorem VoiceStep.each_frame {f : Nat → State → State} {g : Voice → Voice} (h : VoiceStep f g) (s : State) :
    (eachVoice f s).se = { s.se with voices := (eachVoice f s).se.voices } := by
  have step (i : Nat) {t : State} (ht : t.se = { s.se with voices := t.se.voices }) :
      (f i t).se = { s.se with voices := (f i t).se.voices } := by
    rw [h.frame i t, ht]
  exact step 3 (step 2 (step 1 (step 0 rfl)))

theorem voice_of_se {s t : State} (h : t.se = s.se) (j : Nat) : t.voice j = s.voice j := by
  rw [State.voice, h]
  rfl

/-- What the answering of an owed reply leaves of a voice (R93). -/
def Voice.answered (v : Voice) : Voice :=
  match v.owed with
  | some _ => ({ v with owed := none } : Voice).resting
  | none => v

theorem dozeOwed_step : VoiceStep dozeOwed Voice.answered where
  voice i hi s j hj := by
    rw [dozeOwed_eq s hi]
    by_cases hji : j = i
    · subst hji
      rw [if_pos rfl, Voice.answered]
      cases (s.voice j).owed with
      | none => rfl
      | some o => exact voice_withVoice _ hi _
    · rw [if_neg hji]
      cases (s.voice i).owed with
      | none => rfl
      | some o => exact (voice_withVoice_other _ hji _).trans (voice_of_se (replyOwed_se ..) j)
  frame i s := by
    unfold dozeOwed cancelVoiceOwed
    cases (s.voice i).owed with
    | none => rfl
    | some o =>
      dsimp only [Option.isSome]
      rw [if_pos rfl, restVoice_eq, replyOwed_withVoice, State.withVoice, State.withVoice, State.withSe_se,
        State.withSe_se, replyOwed_se]

theorem endCue_se (i : Nat) (why : EndReason) (s : State) : (endCue i why s).se = s.se := by
  rw [endCue_eq]
  split
  · exact raiseTo_se ..
  · rfl

theorem endCue_step (why : EndReason) : VoiceStep (fun i => endCue i why) id where
  voice i _ s j _ := by
    rw [voice_of_se (endCue_se i why s)]
    exact (ite_self _).symm
  frame i s := by rw [endCue_se]

theorem dozeRest_step : VoiceStep dozeRest Voice.resting where
  voice i hi s j hj := by
    rw [dozeRest_eq]
    by_cases hji : j = i
    · subst hji
      rw [if_pos rfl, voice_withVoice _ hi]
    · rw [if_neg hji]
      exact voice_withVoice_other _ hji _
  frame i s := rfl

/-- A fetch record closed (R77). -/
def FetchRec.closed (r : FetchRec) : FetchRec :=
  { r with state := .none, entry := none, buffer := [], cursor := none, waiting := none }

theorem fetchRec_closeRec (s : State) {p : Nat} (hp : p < 5) (q : Nat) :
    (closeRec p s).fetchRec q = if q = p then (s.fetchRec q).closed else s.fetchRec q := by
  split
  · next h =>
    subst h
    exact getAt_setAt_same _ _ _ hp
  · next h => exact getAt_setAt_other _ _ _ h

theorem fetchRec_dozeRest {i : Nat} (hi : i < 4) (s : State) (q : Nat) : (dozeRest i s).fetchRec q =
    if q = i + 1 then (s.fetchRec q).closed else s.fetchRec q :=
  fetchRec_closeRec s (by omega) q

/-- The records of the voices are closed (R77, R113). -/
theorem fetchRec_eachVoice_dozeRest (s : State) {q : Nat} (h1 : 1 ≤ q) (h5 : q < 5) :
    (eachVoice dozeRest s).fetchRec q = (s.fetchRec q).closed := by
  rw [eachVoice, fetchRec_dozeRest (by omega), fetchRec_dozeRest (by omega), fetchRec_dozeRest (by omega),
    fetchRec_dozeRest (by omega)]
  have : q = 1 ∨ q = 2 ∨ q = 3 ∨ q = 4 := by omega
  rcases this with rfl | rfl | rfl | rfl <;> rfl

/-- The voices told, answered and at rest (R113). -/
def quieted (s : State) : State :=
  eachVoice dozeRest (eachVoice (fun i => endCue i .power) (eachVoice dozeOwed s))

theorem soundDoze_quieted (s : State) : soundDoze s =
    (quieted s).withSe { (quieted s).se with gEff := 0, compare := 512 } := rfl

theorem quieted_voice (s : State) {j : Nat} (hj : j < 4) :
    (quieted s).voice j = (s.voice j).answered.resting := by
  rw [quieted, dozeRest_step.each_voice _ hj, (endCue_step .power).each_voice _ hj,
    dozeOwed_step.each_voice _ hj, id]

theorem quieted_frame (s : State) : (quieted s).se = { s.se with voices := (quieted s).se.voices } := by
  have h1 := dozeOwed_step.each_frame s
  have h2 := (endCue_step .power).each_frame (eachVoice dozeOwed s)
  have h3 := dozeRest_step.each_frame (eachVoice (fun i => endCue i .power) (eachVoice dozeOwed s))
  rw [h2, h1] at h3
  exact h3

theorem Voice.answered_resting (v : Voice) :
    v.answered.resting = { v with state := .idle, env := 0, stage := .off, owed := none } := by
  rw [Voice.answered]
  cases h : v.owed with
  | none =>
    dsimp only [Voice.resting]
    rw [← h]
  | some o => rfl

/-- A voice in DOZE (R113). -/
theorem soundDoze_voice (s : State) {j : Nat} (hj : j < 4) : (soundDoze s).voice j =
    { s.voice j with state := .idle, env := 0, stage := .off, owed := none } := by
  rw [soundDoze_quieted, ← Voice.answered_resting, ← quieted_voice s hj]
  generalize quieted s = t
  rfl

theorem soundDoze_frame (s : State) : (soundDoze s).se =
    { s.se with voices := (soundDoze s).se.voices, gEff := 0, compare := 512 } := by
  have h := quieted_frame s
  rw [soundDoze_quieted]
  generalize quieted s = t at h
  rw [State.withSe_se, h]

theorem soundDoze_fetchRec (s : State) {q : Nat} (h1 : 1 ≤ q) (h5 : q < 5) :
    ((soundDoze s).fetchRec q).state = .none ∧ ((soundDoze s).fetchRec q).buffer = [] ∧
      ((soundDoze s).fetchRec q).waiting = none := by
  have h : (quieted s).fetchRec q = _ := fetchRec_eachVoice_dozeRest _ h1 h5
  have hr : (soundDoze s).fetchRec q = (quieted s).fetchRec q := by
    rw [soundDoze_quieted]
    generalize quieted s = t
    rfl
  rw [hr, h]
  exact ⟨rfl, rfl, rfl⟩

/-! ### The Rumble Driver at rest (R136) -/

theorem rumbleDoze_rd (s : State) : (rumbleDoze s).rd = s.rd.dozing := by
  rw [rumbleDoze_eq]
  rfl

theorem rumbleDoze_fetchRec (s : State) (q : Nat) : (rumbleDoze s).fetchRec q =
    if q = 0 then (s.fetchRec q).closed else s.fetchRec q := by
  have hpfu : (checkCancelled s.rd (rumbleCancelled s.rd (endRumble .power s))).pfu = s.pfu := by
    unfold checkCancelled rumbleCancelled
    rw [endRumble_power]
    split <;> split <;> split <;> simp
  rw [rumbleDoze_eq, fetchRec_closeRec _ (by omega)]
  simp only [State.fetchRec, State.withRd_pfu, hpfu]

/-! ### The Save Store (R30) -/

/-- The store without its write stream (R30). -/
def SaveStore.unwritten (x : SaveStore) : SaveStore :=
  match x.write with
  | none => x
  | some w =>
    if w.condition = .broken then { x with write := none } else { x.freeStaged w with write := none }

theorem dozeWrite_ss (s : State) : (dozeWrite s).ss = s.ss.unwritten := by
  rw [dozeWrite_eq, SaveStore.unwritten]
  cases s.ss.write with
  | none => rfl
  | some w =>
    dsimp only
    split
    · rfl
    · rw [raiseTo_ss]
      rfl

theorem SaveStore.unwritten_frame (x : SaveStore) :
    x.unwritten = { x with owner := x.unwritten.owner, write := none } := by
  rw [unwritten]
  cases h : x.write with
  | none =>
    dsimp only
    rw [← h]
  | some w =>
    dsimp only
    split
    · rfl
    · rw [freeStaged, markAll_frame]

theorem storeDoze_ss (s : State) : (storeDoze s).ss =
    if s.ss.read = none then s.ss.unwritten else s.ss.unwritten.endRead := by
  rw [storeDoze_eq]
  split
  · exact dozeWrite_ss s
  · rw [State.withSs_ss, dozeWrite_ss]

theorem storeDoze_frame (s : State) : (storeDoze s).ss =
    { s.ss with owner := (storeDoze s).ss.owner, write := none, read := none } := by
  rw [storeDoze_ss]
  split
  · next h =>
    rw [SaveStore.unwritten_frame]
    dsimp only
    rw [h]
  · rw [SaveStore.endRead_frame, SaveStore.unwritten_frame]

/-- A mark without its stream: STAGED becomes FREE (R30). -/
def Mark.unstaged : Mark → Mark
  | .staged _ => .free
  | .free => .free
  | .live k pos => .live k pos
  | .pinned => .pinned

theorem Mark.unstaged_of {m : Mark} (h : ∀ pos, m ≠ .staged pos) : m.unstaged = m := by
  cases m
  case staged pos => exact absurd rfl (h pos)
  all_goals rfl

theorem page_unstaged_of {e : PageEntry} (h : ∀ pos, e.mark ≠ .staged pos) :
    { e with mark := e.mark.unstaged } = e := by rw [Mark.unstaged_of h]

theorem SaveStore.page_unwritten {x : SaveStore} (hm : MarksFollowStreams x)
    (hs : ∀ w, x.write = some w → StreamSound x w) {p : Nat} (hp : p < 128) :
    x.unwritten.page p = { x.page p with mark := (x.page p).mark.unstaged } := by
  have nothing (h : ∀ w, x.write = some w → w.staged = []) (pos : Nat) :
      (x.page p).mark ≠ .staged pos := fun hc => by
    obtain ⟨w, hw, hq⟩ := ((hm p hp).1 pos).1 hc
    rw [h w hw] at hq
    cases hq
  rw [unwritten]
  cases hw : x.write with
  | none => exact (page_unstaged_of (nothing (by simp [hw]))).symm
  | some w =>
    dsimp only
    split
    · next hc =>
      have hsound := hs w hw
      refine (page_unstaged_of (nothing fun w' hw' => ?_)).symm
      cases hw.symm.trans hw'
      simp only [StreamSound, hc] at hsound
      tauto
    · refine (SaveStore.page_markAll _ _ _ hp).trans ?_
      have hmem : p ∈ w.staged.map Prod.snd ↔ ∃ pos, (x.page p).mark = .staged pos := by
        simp only [(hm p hp).1, hw, Option.some.injEq, exists_eq_left', List.mem_map, Prod.exists,
          exists_eq_right]
      split
      · next h =>
        obtain ⟨pos, hpos⟩ := hmem.1 h
        rw [hpos]
        rfl
      · next h => exact (page_unstaged_of fun pos hc => h (hmem.2 ⟨pos, hc⟩)).symm

/-- At the entry to DOZE the STAGED and PINNED pages become FREE (R30). -/
theorem storeDoze_page {s : State} (hm : MarksFollowStreams s.ss)
    (hs : ∀ w, s.ss.write = some w → StreamSound s.ss w) {p : Nat} (hp : p < 128) :
    (storeDoze s).ss.page p = { s.ss.page p with
      mark := if (s.ss.page p).mark.leftover then .free else (s.ss.page p).mark } := by
  have hpage := SaveStore.page_unwritten hm hs hp
  rw [storeDoze_ss]
  split
  · next hr =>
    have hno : (s.ss.page p).mark ≠ .pinned := fun hc => by
      have := (hm p hp).2 hc
      simp [SaveStore.inSnapshot, hr] at this
    rw [hpage]
    cases hmark : (s.ss.page p).mark
    case pinned => exact absurd hmark hno
    all_goals rfl
  · rw [SaveStore.page_endRead _ hp, hpage]
    cases (s.ss.page p).mark <;> rfl

/-! ### A tick in DOZE (R130) -/

section
variable {s : State}

theorem effectiveDuty_doze (h : s.ps.state = .doze) (r : Rumble) :
    effectiveDuty s.settings s.ps.state r = 0 := by
  rw [effectiveDuty, if_neg (by simp [h])]

theorem refreshDuty_doze (h : s.ps.state = .doze) (r : Rumble) (hd : r.dEff = 0) :
    refreshDuty (s.withRd r) = s.withRd r := by
  have he : effectiveDuty s.settings s.ps.state r = 0 := effectiveDuty_doze h r
  have hr : { r with dEff := effectiveDuty s.settings s.ps.state r } = r := by rw [he, ← hd]
  exact congrArg s.withRd hr

/-- The guard after a tick in DOZE (R130). -/
def guardAfter (st : Settings) (g : GuardState) (heat : Nat) : GuardState :=
  if g = .clear ∧ st.hTrip ≤ heat then .tripped
  else if g = .tripped ∧ heat ≤ st.hClear then .clear else g

theorem examineGuard_doze (h : s.ps.state = .doze) (hd : s.rd.dEff = 0) (hc : s.rd.check = none) :
    Posts (s.withRd { s.rd with guard := guardAfter s.settings s.rd.guard s.rd.heat }) (examineGuard s) := by
  unfold examineGuard guardAfter
  dsimp only
  by_cases htrip : s.rd.guard = .clear ∧ s.settings.hTrip ≤ s.rd.heat
  · rw [if_pos htrip, if_pos htrip, if_neg (by simp [hc]), refreshDuty_doze h _ (by exact hd)]
    exact (count_posts _ _).trans (raiseNotice_posts _ _)
  · rw [if_neg htrip, if_neg htrip]
    by_cases hclear : s.rd.guard = .tripped ∧ s.rd.heat ≤ s.settings.hClear
    · rw [if_pos hclear, if_pos hclear, refreshDuty_doze h _ (by exact hd)]
      exact raiseNotice_posts _ _
    · rw [if_neg hclear, if_neg hclear]
      exact .refl s

/-- The Rumble Driver after a tick in DOZE (R130). -/
def Rumble.cooled (r : Rumble) (st : Settings) : Rumble :=
  { r with
    heat := min (r.heat - st.coolRate) 65535
    guard := guardAfter st r.guard (min (r.heat - st.coolRate) 65535) }

/-- A tick in DOZE cools the motor and examines the guard (R130). -/
theorem heatTick_doze (h : s.ps.state = .doze) (hd : s.rd.dEff = 0) (hc : s.rd.check = none) :
    Posts (s.withRd (s.rd.cooled s.settings)) (heatTick s) := by
  have hheat : heatAfter s.settings s.rd = min (s.rd.heat - s.settings.coolRate) 65535 := by
    simp only [heatAfter, clampNat, hd]
    omega
  rw [heatTick, hheat]
  exact examineGuard_doze h hd hc

/-- The generator after tick 0 of a new interval (R61, R63). -/
def BeatGen.begun (b : BeatGen) (ticks : Nat) : BeatGen :=
  { ({ b with interval := b.period } : BeatGen).loaded ticks 0 with
    tickCounter := (b.tickCounter + 1) % 4294967296 }

theorem beginInterval_doze (h : s.ps.state = .doze) :
    beginInterval s = heatTick (s.withBtg (s.btg.begun s.settings.ticks)) := by
  simp only [beginInterval, issueTick, State.withBtg_ps, h]
  rfl

/-- The Beat Tracker goes FREE at the entry to DOZE, and a tick that it then issues cools the motor (R70,
R130). -/
theorem beatDoze_posts (h : s.ps.state = .doze) (hd : s.rd.dEff = 0) (hc : s.rd.check = none) :
    ∃ b : BeatGen, b.tracker = .free ∧ b.period = s.btg.period ∧ b.lastCount = s.btg.lastCount ∧
      Posts ((s.withBtg b).withRd
        (if s.btg.tracker = .locked ∧ s.btg.timerHeld = true then s.rd.cooled s.settings else s.rd))
        (beatDoze s) := by
  rw [beatDoze_eq]
  by_cases ht : s.btg.tracker = .locked
  · rw [if_pos ht]
    by_cases hh : s.btg.timerHeld = true
    · rw [if_pos hh, if_pos ⟨ht, hh⟩, beginInterval_doze (s := freed s) h]
      exact ⟨(freed s).btg.begun s.settings.ticks, rfl, rfl, rfl,
        heatTick_doze (s := s.withBtg ((freed s).btg.begun s.settings.ticks)) h hd hc⟩
    · rw [if_neg hh, if_neg fun hn => hh hn.2]
      exact ⟨(freed s).btg, rfl, rfl, rfl, .refl (freed s)⟩
  · rw [if_neg ht, if_neg fun hn => ht hn.1]
    refine ⟨s.btg, ?_, rfl, rfl, .refl s⟩
    cases hk : s.btg.tracker
    · exact absurd hk ht
    · rfl

end

/-! ### The Budget Unit in DOZE (R158) -/

/-- A recomputation in DOZE: the caps are 0 and nothing but the OVER_ALLOWANCE flag of the claim record
changes (R145 to R149). -/
structure Capped (s t : State) : Prop where
  settings : t.settings = s.settings
  state : t.ps.state = s.ps.state
  gCeiling : t.se.gCeiling = ceilingFor s.settings 0
  gEff : t.se.gEff ≤ s.se.gEff
  dBudget : t.rd.dBudget = 0
  dEff : t.rd.dEff = 0
  budget : t.bu = { s.bu with overFlag := t.bu.overFlag }

theorem Capped.trans {s t u : State} (h : Capped s t) (k : Capped t u) : Capped s u where
  settings := k.settings.trans h.settings
  state := k.state.trans h.state
  gCeiling := k.gCeiling.trans (by rw [h.settings])
  gEff := k.gEff.trans h.gEff
  dBudget := k.dBudget
  dEff := k.dEff
  budget := by rw [k.budget, h.budget]

theorem grantBase_doze {s : State} (h : s.ps.state = .doze) : grantBase s = 0 := by
  rw [grantBase, if_pos (.inl (by simp [h]))]

theorem soundShare_doze {s : State} (h : s.ps.state = .doze) : soundShare s = 0 := by
  rw [soundShare, grantBase_doze h]
  omega

theorem dutyCap_doze {s : State} (h : s.ps.state = .doze) : dutyCap s = 0 := by
  have hzero (a : Nat) : ((0 : Int) - s.settings.iCore - a).toNat = 0 := by omega
  rw [dutyCap, motorShare, grantBase_doze h, hzero, Nat.min_zero, Nat.zero_mul, Nat.zero_div, Nat.min_zero]

theorem handCaps_doze {s : State} (h : s.ps.state = .doze) : Capped s (handCaps s) := by
  have hceil : gainCeiling s = ceilingFor s.settings 0 := by rw [gainCeiling, soundShare_doze h]
  rw [handCaps, dutyCap_doze h, hceil]
  exact ⟨rfl, rfl, rfl, min_le_left _ _, rfl, effectiveDuty_doze h _, rfl⟩

section
variable {s t : State} (h : Posts s t)
include h
theorem Posts.now : t.now = s.now := (congrArg State.now h).trans rfl
theorem Posts.se : t.se = s.se := (congrArg State.se h).trans rfl
theorem Posts.rd : t.rd = s.rd := (congrArg State.rd h).trans rfl
theorem Posts.bu : t.bu = s.bu := (congrArg State.bu h).trans rfl
theorem Posts.btg : t.btg = s.btg := (congrArg State.btg h).trans rfl
theorem Posts.pfu : t.pfu = s.pfu := (congrArg State.pfu h).trans rfl
end

theorem examineOver_posts (s : State) :
    ∃ flag, Posts (s.withBu { s.bu with overFlag := flag }) (examineOver s) := by
  unfold examineOver
  dsimp only
  split
  · exact ⟨_, raiseNotice_posts _ _⟩
  · exact ⟨s.bu.overFlag, .refl s⟩

theorem Capped.examined {s t : State} (h : Capped s t) : Capped s (examineOver t) := by
  obtain ⟨flag, hp⟩ := examineOver_posts t
  have hflag := hp.bu
  refine ⟨hp.aside.settings.trans h.settings, ?_, ?_, ?_, ?_, ?_, ?_⟩
  · rw [hp.aside.ps]
    exact h.state
  · rw [hp.se]
    exact h.gCeiling
  · rw [hp.se]
    exact h.gEff
  · rw [hp.rd]
    exact h.dBudget
  · rw [hp.rd]
    exact h.dEff
  · rw [hflag, State.withBu_bu, h.budget]

theorem decideClaim_doze {s : State} (h : s.ps.state = .doze) : decideClaim s = s := by
  unfold decideClaim
  split
  · rfl
  · rw [if_pos (by simp [h])]

theorem recomputeOnce_doze {s : State} (h : s.ps.state = .doze) : Capped s (recomputeOnce s) := by
  have hcaps := (handCaps_doze h).examined
  rw [recomputeOnce, decideClaim_doze (hcaps.state.trans h)]
  exact hcaps

/-- A recomputation in DOZE hands caps of 0 (R146, R147, R158). -/
theorem recompute_doze {s : State} (h : s.ps.state = .doze) : Capped s (recompute s) := by
  have up : ∀ n, ∀ s : State, s.ps.state = .doze → Capped s (recomputeUpTo recomputeOnce (n + 1) s) := by
    intro n
    induction n with
    | zero =>
      intro s h
      rw [recomputeUpTo]
      split <;> exact recomputeOnce_doze h
    | succ n ih =>
      intro s h
      have hpass := recomputeOnce_doze h
      rw [recomputeUpTo]
      split
      · exact hpass
      · exact hpass.trans (ih _ (hpass.state.trans h))
  exact up 7 s h

theorem announce_posts (c : Nat) (s : State) :
    Posts (s.withBu { s.bu with announced := some c, handedAt := some s.now }) (announce c s) :=
  handPost_posts _ _

theorem budgetDoze_budgets (s : State) : Budgets s (budgetDoze s) := by
  rw [budgetDoze_eq]
  refine Budgets.trans ?_ (announce_budgets _ _)
  refine Budgets.trans (Budgets.trans (t := s.withBu { s.bu with raise := none }) rfl
    (recompute_budgets _)) ?_
  generalize recompute (s.withBu { s.bu with raise := none }) = v
  rfl

/-- The Budget Unit's step at the entry to DOZE (R158). -/
theorem budgetDoze_doze {s : State} (h : s.ps.state = .doze) :
    (budgetDoze s).se.gCeiling = ceilingFor s.settings 0 ∧ (budgetDoze s).se.gEff ≤ s.se.gEff ∧
    (budgetDoze s).rd.dBudget = 0 ∧ (budgetDoze s).rd.dEff = 0 ∧
    (budgetDoze s).bu = { s.bu with
      raise := none
      overFlag := (budgetDoze s).bu.overFlag
      announced := some (leastClaim s.settings)
      released := leastClaim s.settings
      handedAt := some s.now } := by
  have hcaps : Capped (s.withBu { s.bu with raise := none }) (recompute (s.withBu
    { s.bu with raise := none })) := recompute_doze h
  have hnow : (recompute (s.withBu { s.bu with raise := none })).now = s.now :=
    (congrArg State.now (recompute_budgets _)).trans rfl
  rw [budgetDoze_eq]
  generalize recompute (s.withBu { s.bu with raise := none }) = v at hcaps hnow
  have hp := announce_posts (leastClaim s.settings) (v.withBu { v.bu with released := leastClaim s.settings })
  generalize announce (leastClaim s.settings) (v.withBu { v.bu with released := leastClaim s.settings }) = t
    at hp
  rw [hp.se, hp.rd, hp.bu]
  refine ⟨hcaps.gCeiling, hcaps.gEff, hcaps.dBudget, hcaps.dEff, ?_⟩
  simp only [State.withBu_bu, State.withBu_now, hnow]
  rw [hcaps.budget]
  rfl

/-! ### The inbox in DOZE (R185) -/

/-- `t` differs from `s` in the Calendar, the inbox and what posting changes. -/
def Answers (s t : State) : Prop :=
  t = { s with
    cal := t.cal
    lif := { s.lif with queue := t.lif.queue, inbox := t.lif.inbox }
    nu := { s.nu with pendingFlags := t.nu.pendingFlags, counters := t.nu.counters } }

theorem Answers.refl (s : State) : Answers s s := rfl

theorem Answers.trans {s t u : State} (h : Answers s t) (k : Answers t u) : Answers s u := by
  unfold Answers at *
  rw [k, h]

theorem Posts.answers {s t : State} (h : Posts s t) : Answers s t := by
  unfold Posts at h
  unfold Answers
  rw [h]

theorem Answers.reply {s t : State} (h : Answers s t) (a : Ask) (k : Kind) (c : Code) (d : ReplyData) :
    Answers s (reply a k c d t) := h.trans (reply_posts a k c d t).answers

theorem appointmentCheck_answers (s : State) : Answers s (appointmentCheck s) := by
  have h := appointmentCheck_clocks s
  unfold Clocks at h
  rw [appointmentCheck_ps] at h
  unfold Answers
  rw [appointmentCheck_inbox]
  exact h

theorem serveSet_answers (a : Ask) (time : Nat) (zone : Option Int) (hour : Option Nat) (s : State) :
    Answers s (serveClockSet a time zone hour s) := by
  unfold serveClockSet
  split
  · exact (Answers.trans (t := s.withCal (s.cal.set time zone hour)) rfl (appointmentCheck_answers _)).reply _ _ _ _
  · exact (Answers.refl s).reply _ _ _ _

/-- The requests that are served in DOZE change the Calendar alone, and answer (R184). -/
theorem serve_answers {e : Entry} (h : e.request.kind.servedInDoze = true) (s : State) :
    Answers s (serve e s) := by
  obtain ⟨a, r⟩ := e
  have answered (k : Kind) (c : Code) (d : ReplyData) {t : State} (ht : Answers s t) :
      Answers s (reply a k c d t) := ht.reply a k c d
  cases r
  case ident => exact answered _ _ _ (.refl s)
  case saveInfo =>
    simp only [serve, serveSaveInfo]
    split <;> exact answered _ _ _ (.refl s)
  case clockSet => exact serveSet_answers _ _ _ _ s
  case clockRead => exact answered _ _ _ (.refl s)
  case clockAccept =>
    simp only [serve, serveClockAccept]
    split <;> exact answered _ _ _ rfl
  case appointSet =>
    simp only [serve, serveAppointSet]
    repeat' split
    all_goals exact answered _ _ _ rfl
  case appointClear =>
    simp only [serve, serveAppointClear]
    repeat' split
    all_goals exact answered _ _ _ rfl
  case appointList =>
    simp only [serve, serveAppointList]
    split <;> exact answered _ _ _ rfl
  case noticeRead => exact answered _ _ _ rfl
  case misfit k =>
    simp only [serve, serveMisfit]
    split
    · exact .refl s
    · exact answered _ _ _ (.refl s)
  all_goals simp [Request.kind, Kind.servedInDoze] at h

/-- Without a write stream the inbox's requests are all served in DOZE (R185). -/
theorem drainInbox_answers {s : State} (hw : s.ss.write = none)
    (hi : ∀ e ∈ s.lif.inbox, e.request.kind.servedInDoze = true) :
    Answers s (drainInbox s) ∧ (drainInbox s).lif.inbox = [] := by
  generalize hl : s.lif.inbox = l at hi
  induction l generalizing s with
  | nil => exact ⟨by rw [drainInbox_nil hl]; exact .refl s, by rw [drainInbox_nil hl, hl]⟩
  | cons e rest ih =>
    have hcopy : s.ss.copying = false := by rw [SaveStore.copying, hw]
    have htake : canTake s e = true := by simp [canTake, hcopy]
    have hserve := serve_answers (hi e List.mem_cons_self) (s.withLif { s.lif with inbox := rest })
    have hss : (serve e (s.withLif { s.lif with inbox := rest })).ss = s.ss :=
      (congrArg State.ss hserve).trans rfl
    obtain ⟨hrest, hnil⟩ := ih (by rw [hss, hw]) (serve_inbox _ _)
      fun e' he' => hi e' (List.mem_cons_of_mem _ he')
    rw [drainInbox_serves hl htake]
    exact ⟨(Answers.trans (t := s.withLif { s.lif with inbox := rest }) rfl hserve).trans hrest, hnil⟩

end Sys2Proof.Machine
end

section
/-! SUPPORT. The entry to DOZE as a whole: the blocks' steps one after another (R30, R136, R158, R169). -/

namespace Sys2Proof.Machine

/-! ### What the blocks' steps leave alone -/

/-- `t` differs from `s` in the blocks' records, the fetch records, the inbox and what posting changes. -/
def Dozes (s t : State) : Prop :=
  t = { s with
    btg := t.btg, se := t.se, rd := t.rd, bu := t.bu, ss := t.ss
    pfu := { s.pfu with recs := t.pfu.recs }
    lif := { s.lif with queue := t.lif.queue, inbox := t.lif.inbox }
    nu := { s.nu with pendingFlags := t.nu.pendingFlags, counters := t.nu.counters } }

theorem Dozes.trans {s t u : State} (h : Dozes s t) (k : Dozes t u) : Dozes s u := by
  unfold Dozes at *
  rw [k, h]

theorem Posts.dozes {s t : State} (h : Posts s t) : Dozes s t := by
  unfold Posts at h
  unfold Dozes
  rw [h]

theorem Sounds.dozes {s t : State} (h : Sounds s t) : Dozes s t := by
  unfold Sounds at h
  unfold Dozes
  rw [h]

theorem Rumbles.dozes {s t : State} (h : Rumbles s t) : Dozes s t := by
  unfold Rumbles at h
  unfold Dozes
  rw [h]

theorem Stores.dozes {s t : State} (h : Stores s t) : Dozes s t := by
  unfold Stores at h
  unfold Dozes
  rw [h]

theorem Budgets.dozes {s t : State} (h : Budgets s t) : Dozes s t := by
  unfold Budgets at h
  unfold Dozes
  rw [h]

theorem lineDoze_posts (s : State) : Posts (s.withLif { s.lif with
    inbox := s.lif.inbox.filter fun e => e.request.kind.servedInDoze }) (lineDoze s) := by
  rw [lineDoze_eq]
  exact foldl_refuseRequest_posts _ _

section
variable {s t : State}
theorem Sounds.rd (h : Sounds s t) : t.rd = s.rd := (congrArg State.rd h).trans rfl
theorem Sounds.bu (h : Sounds s t) : t.bu = s.bu := (congrArg State.bu h).trans rfl
theorem Sounds.btg (h : Sounds s t) : t.btg = s.btg := (congrArg State.btg h).trans rfl
theorem Rumbles.se (h : Rumbles s t) : t.se = s.se := (congrArg State.se h).trans rfl
theorem Rumbles.bu (h : Rumbles s t) : t.bu = s.bu := (congrArg State.bu h).trans rfl
theorem Rumbles.btg (h : Rumbles s t) : t.btg = s.btg := (congrArg State.btg h).trans rfl
theorem Stores.se (h : Stores s t) : t.se = s.se := (congrArg State.se h).trans rfl
theorem Stores.rd (h : Stores s t) : t.rd = s.rd := (congrArg State.rd h).trans rfl
theorem Stores.bu (h : Stores s t) : t.bu = s.bu := (congrArg State.bu h).trans rfl
theorem Stores.btg (h : Stores s t) : t.btg = s.btg := (congrArg State.btg h).trans rfl
theorem Stores.pfu (h : Stores s t) : t.pfu = s.pfu := (congrArg State.pfu h).trans rfl
theorem Stores.ps (h : Stores s t) : t.ps = s.ps := (congrArg State.ps h).trans rfl
theorem Stores.settings (h : Stores s t) : t.settings = s.settings := (congrArg State.settings h).trans rfl
theorem Stores.now (h : Stores s t) : t.now = s.now := (congrArg State.now h).trans rfl
theorem Budgets.btg (h : Budgets s t) : t.btg = s.btg := (congrArg State.btg h).trans rfl
theorem Budgets.pfu (h : Budgets s t) : t.pfu = s.pfu := (congrArg State.pfu h).trans rfl
theorem Dozes.ps (h : Dozes s t) : t.ps = s.ps := (congrArg State.ps h).trans rfl
theorem Dozes.settings (h : Dozes s t) : t.settings = s.settings := (congrArg State.settings h).trans rfl
theorem Dozes.now (h : Dozes s t) : t.now = s.now := (congrArg State.now h).trans rfl
theorem Dozes.cal (h : Dozes s t) : t.cal = s.cal := (congrArg State.cal h).trans rfl
end

/-- The part after the blocks' steps, before the requests that stay are served (R169). -/
def blocksDozed (u : State) : State :=
  budgetDoze (beatDoze (storeDoze (rumbleDoze (soundDoze (lineDoze u)))))

/-- What the blocks' steps at the entry to DOZE make of the part. -/
structure BlocksDozed (u t : State) : Prop where
  frame : Dozes u t
  inbox : t.lif.inbox = u.lif.inbox.filter fun e => e.request.kind.servedInDoze
  store : t.ss = { u.ss with owner := t.ss.owner, write := none, read := none }
  page : MarksFollowStreams u.ss → (∀ w, u.ss.write = some w → StreamSound u.ss w) → ∀ p < 128,
    t.ss.page p = { u.ss.page p with
      mark := if (u.ss.page p).mark.leftover then .free else (u.ss.page p).mark }
  voice : ∀ j < 4, t.voice j = { u.voice j with state := .idle, env := 0, stage := .off, owed := none }
  mixer : t.se = { u.se with
    voices := t.se.voices, gEff := 0, compare := 512, gCeiling := ceilingFor u.settings 0 }
  recs : ∀ q < 5, (t.fetchRec q).state = .none ∧ (t.fetchRec q).buffer = [] ∧
    (t.fetchRec q).waiting = none
  rumble : t.rd = { (if u.btg.tracker = .locked ∧ u.btg.timerHeld = true then
    u.rd.dozing.cooled u.settings else u.rd.dozing) with dBudget := 0, dEff := 0 }
  beat : t.btg.tracker = .free ∧ t.btg.period = u.btg.period ∧ t.btg.lastCount = u.btg.lastCount
  budget : t.bu = { u.bu with
    raise := none
    overFlag := t.bu.overFlag
    announced := some (leastClaim u.settings)
    released := leastClaim u.settings
    handedAt := some u.now }

theorem blocksDozed_spec {u : State} (hu : u.ps.state = .doze) : BlocksDozed u (blocksDozed u) := by
  unfold blocksDozed
  have h1 := lineDoze_posts u
  generalize lineDoze u = u1 at h1
  have h2 := soundDoze_sounds u1
  have hvoice := fun j hj => soundDoze_voice u1 (j := j) hj
  have hmixer := soundDoze_frame u1
  have hrecs := fun q h1 h5 => soundDoze_fetchRec u1 (q := q) h1 h5
  generalize soundDoze u1 = u2 at h2 hvoice hmixer hrecs
  have h3 := rumbleDoze_rumbles u2
  have hrd := rumbleDoze_rd u2
  have hrec0 := fun q => rumbleDoze_fetchRec u2 q
  generalize rumbleDoze u2 = u3 at h3 hrd hrec0
  have h4 := storeDoze_stores u3
  have hstore := storeDoze_frame u3
  have hpage := fun hm hs p hp => storeDoze_page (s := u3) hm hs (p := p) hp
  generalize storeDoze u3 = u4 at h4 hstore hpage
  have hd4 : Dozes u u4 := (((Dozes.trans (t := u.withLif { u.lif with
    inbox := u.lif.inbox.filter fun e => e.request.kind.servedInDoze }) rfl h1.dozes).trans
    h2.dozes).trans h3.dozes).trans h4.dozes
  have hu4 : u4.ps.state = .doze := by rw [hd4.ps, hu]
  have hss : u3.ss = u.ss := h3.aside.ss.trans (h2.aside.ss.trans h1.aside.ss)
  have hrd4 : u4.rd = u.rd.dozing := by rw [h4.rd, hrd, h2.rd, h1.rd, State.withLif_rd]
  have hbtg4 : u4.btg = u.btg := by rw [h4.btg, h3.btg, h2.btg, h1.btg, State.withLif_btg]
  have hse4 : u4.se = u2.se := by rw [h4.se, h3.se]
  have hbu4 : u4.bu = u.bu := by rw [h4.bu, h3.bu, h2.bu, h1.bu, State.withLif_bu]
  obtain ⟨b, hfree, hperiod, hlast, h5⟩ := beatDoze_posts hu4 (by rw [hrd4]; rfl) (by rw [hrd4]; rfl)
  rw [hrd4, hbtg4, hd4.settings] at h5
  rw [hbtg4] at hperiod hlast
  generalize beatDoze u4 = u5 at h5
  obtain ⟨r5, hr5⟩ : ∃ r, r = if u.btg.tracker = .locked ∧ u.btg.timerHeld = true then
    u.rd.dozing.cooled u.settings else u.rd.dozing := ⟨_, rfl⟩
  rw [← hr5] at h5
  have hd5 : Dozes u u5 := hd4.trans (Dozes.trans (t := (u4.withBtg b).withRd r5) rfl h5.dozes)
  have hu5 : u5.ps.state = .doze := by rw [hd5.ps, hu]
  have h6 := budgetDoze_budgets u5
  obtain ⟨hceiling, hgain, hcap, hduty, hbudget⟩ := budgetDoze_doze hu5
  rw [hd5.settings] at hceiling hbudget
  generalize budgetDoze u5 = t at h6 hceiling hgain hcap hduty hbudget
  have hse5 : u5.se = u2.se := h5.se.trans hse4
  have hvoices : t.se.voices = u5.se.voices := (congrArg (fun v : State => v.se.voices) h6).trans rfl
  have hrecs2 (q : Nat) : t.fetchRec q = if q = 0 then (u2.fetchRec q).closed else u2.fetchRec q := by
    rw [← hrec0, State.fetchRec, h6.pfu, h5.pfu, State.withRd_pfu, State.withBtg_pfu, h4.pfu]
    rfl
  constructor
  · exact hd5.trans h6.dozes
  · rw [h6.aside.inbox, h5.aside.inbox, State.withRd_lif, State.withBtg_lif, h4.inbox, h3.aside.inbox,
      h2.aside.inbox, h1.aside.inbox, State.withLif_lif]
  · rw [h6.aside.ss, h5.aside.ss, State.withRd_ss, State.withBtg_ss]
    rw [hss] at hstore
    exact hstore
  · intro hm hs p hp
    rw [h6.aside.ss, h5.aside.ss, State.withRd_ss, State.withBtg_ss]
    rw [hss] at hpage
    exact hpage hm hs p hp
  · intro j hj
    rw [State.voice, hvoices, hse5, ← State.voice, hvoice j hj, voice_of_se h1.se]
    rfl
  · have hrest : t.se = { u5.se with gEff := t.se.gEff, gCeiling := t.se.gCeiling } :=
      (congrArg State.se h6).trans rfl
    have hgain0 : t.se.gEff = 0 := by
      rw [hse5, hmixer] at hgain
      exact Nat.le_zero.1 hgain
    rw [hrest, hgain0, hceiling, hse5, hmixer, h1.se]
    rfl
  · intro q hq
    rw [hrecs2]
    split
    · exact ⟨rfl, rfl, rfl⟩
    · exact hrecs q (by omega) hq
  · have hrest : t.rd = { u5.rd with dBudget := t.rd.dBudget, dEff := t.rd.dEff } :=
      (congrArg State.rd h6).trans rfl
    rw [hrest, hcap, hduty, h5.rd, State.withRd_rd, hr5]
  · rw [h6.btg, h5.btg]
    exact ⟨hfree, hperiod, hlast⟩
  · have hbu5 : u5.bu = u.bu := h5.bu.trans hbu4
    rw [hbu5, hd5.now] at hbudget
    exact hbudget

/-! ### The command (R168, R169) -/

theorem exec_powerModeDoze : ∀ source target s,
    exec (.powerModeDoze source target) s = .next (handMode source target .doze s) := by
  intros
  rfl

theorem exec_powerModeOffSoon : ∀ source target s,
    exec (.powerModeOffSoon source target) s = .next (handMode source target .offSoon s) := by
  intros
  rfl

theorem handMode_kept {target : Nat} {s : State} (m : PowerMode)
    (hs : s.ps.state = .active ∨ s.ps.state = .doze) (ht : target = s.lif.own ∨ target = 15) :
    handMode s.settings.powerStation target m s = actMode m s :=
  if_pos ⟨s.serving_iff.2 hs, rfl, ht⟩

theorem enterDoze_eq (s : State) :
    enterDoze s = drainInbox (blocksDozed (s.withPs { s.ps with state := .doze })) := rfl

/-- POWER_MODE DOZE from ACTIVE, or OFF_SOON, enters DOZE (R169). -/
theorem exec_dozes {c : Instr} {off : Bool} {target : Nat} {s : State}
    (h : (off = false ∧ s.ps.state = .active ∧ c = .powerModeDoze s.settings.powerStation target) ∨
      (off = true ∧ (s.ps.state = .active ∨ s.ps.state = .doze) ∧
        c = .powerModeOffSoon s.settings.powerStation target))
    (ht : target = s.lif.own ∨ target = 15) : exec c s = .next (drainInbox (blocksDozed
      { s with ps := { s.ps with state := .doze, orderly := s.ps.orderly || off } })) := by
  rcases h with ⟨rfl, hs, rfl⟩ | ⟨rfl, hs, rfl⟩
  · rw [exec_powerModeDoze, handMode_kept _ (.inl hs) ht, actMode, if_pos hs, enterDoze_eq, Bool.or_false]
    rfl
  · rw [exec_powerModeOffSoon, handMode_kept _ hs ht, actMode, enterDoze_eq, Bool.or_true]
    rfl

/-- The motor's heat and guard after the entry to DOZE, where a tick may be issued (R70, R130). -/
theorem Rumble.dozing_cooled (r : Rumble) (st : Settings) (p : Prop) [Decidable p] :
    { (if p then r.dozing.cooled st else r.dozing) with dBudget := 0, dEff := 0 } =
      { r.dozing with
        dBudget := 0
        heat := if p then min (r.heat - st.coolRate) 65535 else r.heat
        guard := if p then guardAfter st r.guard (min (r.heat - st.coolRate) 65535) else r.guard } := by
  split <;> rfl

theorem Rumble.origin_cases (r : Rumble) : r.origin = .idle ∨ r.origin = .faulted := by
  unfold origin
  split <;> split <;> simp

theorem Rumble.origin_faulted {r : Rumble} (h : r.player = .faulted) (hc : r.check = none) :
    r.origin = .faulted := by
  simp [origin, h, hc]

/-- The guard that R130 spells where a tick is issued. -/
theorem guardAfter_ticked (st : Settings) (g : GuardState) (p : Prop) [Decidable p] (heat : Nat) :
    (if p then guardAfter st g (min (heat - st.coolRate) 65535) else g) =
      (let after := if p then min (heat - st.coolRate) 65535 else heat
       if p ∧ g = .clear ∧ st.hTrip ≤ after then .tripped
       else if p ∧ g = .tripped ∧ after ≤ st.hClear then .clear else g) := by
  by_cases hp : p <;> simp [hp, guardAfter]

/-- With an amplifier setting, no share leaves the sound a ceiling of 0 (R146). -/
theorem ceilingFor_zero {st : Settings} (h : 0 < st.a0 + st.a1) : ceilingFor st 0 = 0 := by
  unfold ceilingFor
  by_cases h1 : st.a1 = 0
  · rw [if_pos h1, if_neg (by omega)]
  · rw [if_neg h1, if_pos (Nat.succ_pos _)]

/-- Settles O44: the blocks' steps one after another (`blocksDozed_spec`), the requests that stay
(`drainInbox_answers`), and each step in its rule's form. -/
theorem dozeStopsEveryBlock : Obligations.DozeStopsEveryBlock := by
  refine ⟨fun c off target s h ht => ?_, fun u => ?_⟩
  · intro ps ticked heat
    have hb := blocksDozed_spec (u := { s with ps := ps }) rfl
    have hexec : exec c s = .next (drainInbox (blocksDozed { s with ps := ps })) := exec_dozes h ht
    refine ⟨drainInbox (blocksDozed { s with ps := ps }), hexec, rfl, ?_⟩
    generalize blocksDozed { s with ps := ps } = v at hb
    obtain ⟨h7, hnil⟩ := drainInbox_answers (s := v) (by rw [hb.store])
      (fun e he => by rw [hb.inbox] at he; exact (List.mem_filter.1 he).2)
    have hcal : s.lif.inbox = [] → (drainInbox v).cal = s.cal := fun hi => by
      rw [drainInbox_nil (by rw [hb.inbox]; exact congrArg _ hi), hb.frame.cal]
    generalize drainInbox v = t at h7 hnil hcal
    have hframe := hb.frame
    have hrd : t.rd = { s.rd.dozing with
        dBudget := 0, heat := heat,
        guard := if ticked then guardAfter s.settings s.rd.guard (min (s.rd.heat - s.settings.coolRate) 65535)
          else s.rd.guard } :=
      (congrArg State.rd h7).trans (hb.rumble.trans (Rumble.dozing_cooled _ _ _))
    have hbtg : t.btg = v.btg := (congrArg State.btg h7).trans rfl
    have hbu := ((congrArg State.bu h7).trans rfl : t.bu = v.bu).trans hb.budget
    have hse := ((congrArg State.se h7).trans rfl : t.se = v.se).trans hb.mixer
    have hssv : t.ss = v.ss := (congrArg State.ss h7).trans rfl
    have hss := hssv.trans hb.store
    have hpfu : t.pfu = v.pfu := (congrArg State.pfu h7).trans rfl
    have hserving : s.serving = true := s.serving_iff.2 (by
      rcases h with ⟨-, hs, -⟩ | ⟨-, hs, -⟩
      · exact .inl hs
      · exact hs)
    obtain ⟨hfree, hperiod, hlast⟩ := hb.beat
    refine ⟨(congrArg State.ps h7).trans hframe.ps, ?write, ?read, ?slots, ?ram, ?marks, ?voices, ?recs,
      ?cache, ?gEff, ?compare, ?master, ?gTarget, ?ceiling, ?heat, ?guard, ?mode, ?dReq, ?dRes, ?dEff,
      ?dBudget, ?owed, ?check, ?player, ?faulted, ?playNo, ?lastFault, by rw [hbtg, hfree],
      by rw [hbtg, hperiod], by rw [hbtg, hlast], ?raise, ?announced, ?released, ?handedAt, ?listenEnd,
      ?acked, ?holding, ?peers, ?allowance, ?heard, ?fresh, ?mask, hnil, ?sending, ?silentEnd, ?settings,
      ?now, ?mcu, ?pending, hcal⟩
    case marks =>
      intro ⟨_, _, hmarks, hstream, _⟩ p
      have := hb.page (hmarks hserving) (fun w hw => (hstream w hw).2) p p.isLt
      rw [← hssv] at this
      simpa only [SaveStore.page_fin] using this
    case voices =>
      intro i
      have := hb.voice i i.isLt
      rw [← voice_of_se ((congrArg State.se h7).trans rfl : t.se = v.se)] at this
      rwa [State.voice, State.voice, getAt_of_lt _ _ i.isLt, getAt_of_lt _ _ i.isLt] at this
    case recs =>
      intro p
      have := hb.recs p p.isLt
      rw [State.fetchRec, ← hpfu, getAt_of_lt _ _ p.isLt] at this
      exact this
    case cache => rw [hpfu, congrArg State.pfu hframe]
    case ceiling => exact fun ha => (congrArg (fun x => x.gCeiling) hse).trans (ceilingFor_zero ha)
    case guard => exact (congrArg Rumble.guard hrd).trans (guardAfter_ticked _ _ _ _)
    case player => rw [hrd]; exact s.rd.origin_cases
    case faulted => rw [hrd]; exact Rumble.origin_faulted
    case write | read | slots | ram => rw [hss]
    case settings | now | mcu | pending | mask | sending | silentEnd => rw [h7, hframe]
    case gEff | compare | master | gTarget => rw [hse]
    case raise | announced | released | handedAt | listenEnd | acked | holding | peers | allowance |
        heard | fresh => rw [hbu]
    case heat | mode | dReq | dRes | dEff | dBudget | owed | check | playNo | lastFault =>
      rw [hrd, Rumble.dozing]
  · intro served still cancel tell rest each quiet r running ended cancelled origin checked lost pinned free v
    refine ⟨?_, ?_, ?_, ?_, ?_, ?_, ?_, ?_⟩
    · have hserved : served = fun e => e.request.kind.servedInDoze := funext fun e => (servedInDoze_eq _).symm
      rw [hserved, lineDoze_eq]
      rfl
    · have howed (i : Nat) (hi : i < 4) (w : State) : dozeOwed i w = cancel w i := dozeOwed_eq w hi
      have htell (i : Nat) (_ : i < 4) (w : State) : endCue i .power w = tell w i := endCue_eq i .power w
      have hrest (i : Nat) (_ : i < 4) (w : State) : dozeRest i w = rest w i := dozeRest_eq i w
      have hquiet : eachVoice dozeRest (eachVoice (fun i => endCue i .power) (eachVoice dozeOwed u)) =
          quiet := by
        rw [eachVoice_congr howed, eachVoice_congr htell, eachVoice_congr hrest]
        simp only [eachVoice_eq]
        rfl
      rw [soundDoze_eq, hquiet]
      exact withSe_record _ quiet
    · have hended : endRumble .power u = ended := endRumble_power u
      rw [rumbleDoze_eq, hended]
      rfl
    · rw [storeDoze_eq, dozeWrite_eq]
      rfl
    · intro ht
      rw [beatDoze_eq, if_neg (by simp [ht])]
    · intro ht hh
      rw [beatDoze_eq, if_pos ht, if_neg (by simp [hh])]
      rfl
    · intro ht hh
      rw [beatDoze_eq, if_pos ht, if_pos hh]
      rfl
    · exact budgetDoze_eq u

end Sys2Proof.Machine
end


section
/-! SUPPORT. Bits on the line: inserted bits taken out again, numbers and bytes read from their bits, and a
post read back from what its sender puts on the line (R178 to R180). -/

namespace Sys2Proof.Machine

/-! ### Numbers and bytes as bits (R179) -/

theorem bitsOf_length (w n : Nat) : (bitsOf w n).length = w := by
  simp [bitsOf]

theorem bitsOf_succ (w n : Nat) : bitsOf (w + 1) n = bitsOf w (n / 2) ++ [n.testBit 0] := by
  have hlast : w + 1 - 1 - w = 0 := by omega
  rw [bitsOf, List.range_succ, List.map_append, List.map_singleton, hlast]
  refine congrArg (· ++ _) (List.map_congr_left fun i hi => ?_)
  have hi : i < w := List.mem_range.1 hi
  rw [← Nat.testBit_succ]
  congr 1
  omega

theorem natOfBits_concat (l : List Bool) (b : Bool) : natOfBits (l ++ [b]) = 2 * natOfBits l + b.toNat := by
  simp [natOfBits]

/-- A number in `w` bits is read back from them (R179). -/
theorem natOfBits_bitsOf {w n : Nat} (h : n < 2 ^ w) : natOfBits (bitsOf w n) = n := by
  induction w generalizing n with
  | zero =>
    have : n = 0 := by simpa using h
    subst this
    rfl
  | succ w ih =>
    have hlow : (n.testBit 0).toNat = n % 2 := by
      rcases Nat.mod_two_eq_zero_or_one n with hn | hn <;> simp [Nat.testBit_zero, hn]
    rw [bitsOf_succ, natOfBits_concat, ih (by rw [Nat.pow_succ] at h; omega), hlow]
    exact Nat.div_add_mod n 2

theorem bitsOfBytes_cons (b : Byte) (l : List Byte) :
    bitsOfBytes (b :: l) = bitsOf 8 b.toNat ++ bitsOfBytes l := rfl

theorem bitsOfBytes_length (l : List Byte) : (bitsOfBytes l).length = 8 * l.length := by
  induction l with
  | nil => rfl
  | cons b l ih =>
    rw [bitsOfBytes_cons, List.length_append, bitsOf_length, ih, List.length_cons]
    omega

/-- Bytes are read back from their bits, whatever follows (R179). -/
theorem bytesOfBits_bitsOfBytes (l : List Byte) (rest : List Bool) :
    bytesOfBits l.length (bitsOfBytes l ++ rest) = l := by
  induction l with
  | nil => rfl
  | cons b l ih =>
    have hlen : (bitsOf 8 b.toNat).length = 8 := bitsOf_length 8 _
    rw [bitsOfBytes_cons, List.append_assoc, List.length_cons, bytesOfBits, List.take_left' hlen,
      List.drop_left' hlen, ih, natOfBits_bitsOf b.isLt]
    exact congrArg (· :: l) (BitVec.ofNat_toNat 8 b |>.trans (BitVec.setWidth_eq b))

/-! ### Inserted bits (R178) -/

/-- The inserted bits are taken out again; what follows the last bit is left over (R178, log 7). -/
theorem destuffFrom_stuffFrom (l tail : List Bool) (prev : Bool) (run : Nat) :
    ∃ rest, destuffFrom prev run (stuffFrom prev run l ++ tail) = l ++ rest := by
  induction l generalizing prev run with
  | nil => exact ⟨_, rfl⟩
  | cons b l ih =>
    by_cases hrun : run = 6
    · obtain ⟨rest, hrest⟩ := ih b (if b = prev then 1 else 2)
      have hnext : (if b = !prev then 1 + 1 else 1) = if b = prev then 1 else 2 := by
        cases b <;> cases prev <;> rfl
      refine ⟨rest, ?_⟩
      rw [stuffFrom, if_pos hrun, List.cons_append, List.cons_append, destuffFrom, if_pos hrun,
        if_neg (by simp), destuffFrom, if_neg (by decide), hnext, hrest, List.cons_append]
    · obtain ⟨rest, hrest⟩ := ih b (if b = prev then run + 1 else 1)
      refine ⟨rest, ?_⟩
      rw [stuffFrom, if_neg hrun, List.cons_append, destuffFrom, if_neg hrun, hrest, List.cons_append]

/-- The line `h` ends with exactly `run` bits of the level `prev`. -/
def EndsInRun (h : List Bool) (prev : Bool) (run : Nat) : Prop :=
  ∀ k b, List.replicate k b <:+ h ↔ k = 0 ∨ b = prev ∧ k ≤ run

theorem endsInRun_nil : EndsInRun [] true 0 := fun k b => by
  simp only [List.suffix_nil, List.replicate_eq_nil_iff, Nat.le_zero]
  tauto

theorem replicate_suffix_concat (h : List Bool) (k : Nat) (b c : Bool) :
    List.replicate (k + 1) c <:+ h ++ [b] ↔ c = b ∧ List.replicate k c <:+ h := by
  rw [List.replicate_succ', List.suffix_concat_iff]
  simp [and_comm]

theorem EndsInRun.concat {h : List Bool} {prev : Bool} {run : Nat} (he : EndsInRun h prev run) (b : Bool) :
    EndsInRun (h ++ [b]) b (if b = prev then run + 1 else 1) := by
  intro k c
  cases k with
  | zero => simp
  | succ k =>
    rw [replicate_suffix_concat, he k c]
    by_cases hb : b = prev
    · subst hb
      by_cases hc : c = b
      · simp only [hc, true_and, if_true]
        omega
      · simp [hc]
    · rw [if_neg hb]
      constructor
      · rintro ⟨rfl, hk | ⟨hc, -⟩⟩
        · subst hk
          exact .inr ⟨rfl, Nat.le_refl 1⟩
        · exact absurd hc hb
      · rintro (hk | ⟨rfl, hk⟩)
        · omega
        · exact ⟨rfl, .inl (by omega)⟩

theorem EndsInRun.ends_six {h : List Bool} {prev : Bool} {run : Nat} (he : EndsInRun h prev run)
    (b : Bool) : List.replicate 6 b <:+ h ++ [b] ↔ 6 ≤ if b = prev then run + 1 else 1 := by
  rw [he.concat b 6 b]
  simp

/-- The line after an inserted bit and the bit behind it (R178). -/
theorem EndsInRun.inserted {h : List Bool} {prev : Bool} {run : Nat} (he : EndsInRun h prev run)
    (b : Bool) : EndsInRun (h ++ [!prev] ++ [b]) b (if b = prev then 1 else 2) := by
  have hrun := (he.concat (!prev)).concat b
  have hnext : (if b = !prev then (if (!prev) = prev then run + 1 else 1) + 1 else 1) =
      if b = prev then 1 else 2 := by
    cases b <;> cases prev <;> rfl
  rwa [hnext] at hrun

/-- One more bit: it is sent, and after six equal bits a bit of the other level follows it (R178). -/
theorem stuffFrom_concat (l : List Bool) (b : Bool) {h : List Bool} {prev : Bool} {run : Nat}
    (he : EndsInRun h prev run) (hrun : run ≤ 6) :
    stuffFrom prev run (l ++ [b]) = stuffFrom prev run l ++
      b :: if List.replicate 6 b <:+ h ++ stuffFrom prev run l ++ [b] then [!b] else [] := by
  induction l generalizing h prev run with
  | nil =>
    by_cases h6 : run = 6
    · have hnot : ¬ List.replicate 6 b <:+ h ++ [!prev] ++ [b] := by
        rw [he.inserted b 6 b]
        split <;> omega
      have hsmall : (if b = prev then 1 else 2) ≠ 6 := by split <;> decide
      simp only [List.nil_append, stuffFrom, if_pos h6, if_neg hnot, if_neg hsmall, List.singleton_append]
    · have hiff := he.ends_six b
      have hnew : (if b = prev then run + 1 else 1) = 6 ↔ List.replicate 6 b <:+ h ++ [b] := by
        rw [hiff]
        split <;> omega
      simp only [List.nil_append, stuffFrom, if_neg h6, List.append_nil, hnew]
  | cons c l ih =>
    by_cases h6 : run = 6
    · have := ih (he.inserted c) (by split <;> omega)
      simp only [List.cons_append, stuffFrom, if_pos h6, this, List.append_assoc, List.nil_append]
    · have := ih (he.concat c) (by split <;> omega)
      simp only [List.cons_append, stuffFrom, if_neg h6, this, List.append_assoc, List.nil_append]

theorem stuff_concat (l : List Bool) (b : Bool) : stuff (l ++ [b]) =
    stuff l ++ b :: if List.replicate 6 b <:+ stuff l ++ [b] then [!b] else [] :=
  stuffFrom_concat l b endsInRun_nil (Nat.zero_le 6)

theorem destuff_stuff (l tail : List Bool) : ∃ rest, destuff (stuff l ++ tail) = l ++ rest :=
  destuffFrom_stuffFrom l tail true 0

theorem crcBits_concat (l : List Bool) (b : Bool) : crcBits (l ++ [b]) =
    if (crcBits l).msb = b then crcBits l <<< 1 else (crcBits l <<< 1) ^^^ 0x1021 := by
  rw [crcBits, List.foldl_append, ← crcBits]
  by_cases h : (crcBits l).msb = b <;> simp [crcStep, h]

/-! ### A post from its bits (R179, R180) -/

/-- A post is read back from its bits, whatever follows its last check bit (R179, R180). -/
theorem readPost_postBits {header : Nat} {payload : List Byte} (hh : header < 65536)
    (hp : payload.length ≤ 32) (rest : List Bool) :
    readPost (postBits header payload ++ rest) = some {
      priority := header / 16384 % 4, kindCode := header / 256 % 64, source := header / 16 % 16
      target := header % 16, payload := payload } := by
  generalize hcrc : crcBits (checkedBits header payload) = crc
  obtain ⟨body, hbody⟩ : ∃ body, body = checkedBits header payload ++ bitsOf 16 crc.toNat ++ rest :=
    ⟨_, rfl⟩
  have hpost : postBits header payload ++ rest = false :: body := by
    rw [hbody, postBits, hcrc]
    rfl
  have hspan : (checkedBits header payload).length = 22 + 8 * payload.length := by
    simp only [checkedBits, List.length_append, bitsOf_length, bitsOfBytes_length]
  have hlen : body.length = 22 + 8 * payload.length + 16 + rest.length := by
    rw [hbody, List.length_append, List.length_append, hspan, bitsOf_length]
  have hhead : natOfBits (body.take 16) = header := by
    rw [hbody]
    simp only [checkedBits, List.append_assoc]
    rw [List.take_left' (bitsOf_length 16 _), natOfBits_bitsOf hh]
  have hcount : natOfBits ((body.drop 16).take 6) = payload.length := by
    rw [hbody]
    simp only [checkedBits, List.append_assoc]
    rw [List.drop_left' (bitsOf_length 16 _), List.take_left' (bitsOf_length 6 _),
      natOfBits_bitsOf (by omega)]
  have hbytes : bytesOfBits payload.length (body.drop 22) = payload := by
    rw [hbody, checkedBits, List.append_assoc, List.append_assoc, List.drop_left'
      (by rw [List.length_append, bitsOf_length, bitsOf_length]), bytesOfBits_bitsOfBytes]
  have hchecked : body.take (22 + 8 * payload.length) = checkedBits header payload := by
    rw [hbody, List.append_assoc, List.take_left' hspan]
  have hcheck : natOfBits ((body.drop (22 + 8 * payload.length)).take 16) = crc.toNat := by
    rw [hbody, List.append_assoc, List.drop_left' hspan, List.take_left' (bitsOf_length 16 _),
      natOfBits_bitsOf crc.isLt]
  rw [hpost, readPost]
  simp only [hhead, hcount, hchecked, hcheck, hcrc, hbytes]
  rw [if_neg (by omega), if_neg (by simp)]

theorem headerValue_lt {priority kind source target : Nat} (hp : priority < 4) (hk : kind < 64)
    (hs : source < 16) (ht : target < 16) : headerValue priority kind source target < 65536 := by
  unfold headerValue
  omega

/-- Every post sent is the post judged, whatever follows its last check bit (R178 to R180). -/
theorem judgePost_wireBits {priority kind source target : Nat} {payload : List Byte}
    {samples : List BitSamples} {tail : List Bool} (hp : priority < 4) (hk : kind < 64) (hs : source < 16)
    (ht : target < 16) (hl : payload.length ≤ 32) (hgot : samples.map majority =
      wireBits (headerValue priority kind source target) payload ++ tail) :
    judgePost samples = some {
      priority := priority, kindCode := kind, source := source, target := target, payload := payload } := by
  obtain ⟨rest, hrest⟩ := destuff_stuff (postBits (headerValue priority kind source target) payload) tail
  rw [judgePost, hgot, wireBits, hrest, readPost_postBits (headerValue_lt hp hk hs ht) hl]
  have hpriority : headerValue priority kind source target / 16384 % 4 = priority := by
    unfold headerValue; omega
  have hkind : headerValue priority kind source target / 256 % 64 = kind := by
    unfold headerValue; omega
  have hsource : headerValue priority kind source target / 16 % 16 = source := by
    unfold headerValue; omega
  have htarget : headerValue priority kind source target % 16 = target := by
    unfold headerValue; omega
  rw [hpriority, hkind, hsource, htarget]

theorem Kind.code_lt (k : Kind) : k.code < 64 := by
  cases k <;> decide

end Sys2Proof.Machine
end


section
/-! SUPPORT. The part's own posts: each on the line, and the bytes of its payload (R181, R203, R204). -/

namespace Sys2Proof.Machine

/-! ### The fields of a payload (R203) -/

theorem field4_eq (n : Nat) : field4 n = field2 (n / 65536) ++ field2 n := by
  rw [field2, Nat.div_div_eq_div_mul]
  rfl

theorem time4_eq (t : Option Nat) : time4 t = field4 (t.getD 0xFFFFFFFF) := by
  cases t <;> rfl

theorem ofInt_eq_ofNat (w : Nat) (i : Int) : BitVec.ofInt w i = BitVec.ofNat w (i % (2 ^ w : Nat)).toNat := by
  apply BitVec.eq_of_toNat_eq
  have hpos : (0 : Int) < (2 ^ w : Nat) := by positivity
  have hlt := Int.emod_lt_of_pos i hpos
  have hnonneg := Int.emod_nonneg i hpos.ne'
  rw [BitVec.toNat_ofInt, BitVec.toNat_ofNat, Nat.mod_eq_of_lt (by omega)]

theorem signed1_eq (i : Int) : signed1 i = field1 (i % 256).toNat :=
  congrArg (fun b : Byte => [b]) (ofInt_eq_ofNat 8 i)

theorem signed2_eq (i : Int) : signed2 i = field2 (i % 65536).toNat := by
  have hlt := Int.emod_lt_of_pos i (b := 65536) (by decide)
  rw [signed2, ofInt_eq_ofNat, BitVec.toNat_ofNat, Nat.mod_eq_of_lt]
  · rfl
  · exact (Int.toNat_lt' (by decide)).2 hlt

theorem optional_eq {α : Type} (f : α → List Byte) (o : Option α) : optional f o = o.toList.flatMap f := by
  cases o
  · rfl
  · exact (List.flatMap_singleton f _).symm

theorem notice_payload {n : Notice} {fields : List Byte} (h : n.fields = fields) :
    (Body.notice n).payload = field1 n.kind.number ++ fields := by
  rw [Body.payload, h]

theorem reply_payload {d : ReplyData} {fields : List Byte} (h : d.bytes = fields) (k : Kind) (tag : Nat)
    (c : Code) : (Body.reply k tag c d).payload =
      field1 k.code ++ field1 tag ++ field1 c.number ++ fields := by
  rw [Body.payload, h]

/-! ### Choice numbers in the order of their rule (R203) -/

theorem EndReason.cueNumber_eq (r : EndReason) :
    r.cueNumber = [EndReason.finished, .stopped, .replaced, .power, .fault].idxOf r := by
  cases r <;> rfl

theorem EndReason.rumbleNumber_eq (r : EndReason) :
    r.rumbleNumber = [EndReason.finished, .stopped, .replaced, .fault, .power].idxOf r := by
  cases r <;> rfl

theorem GuardState.number_eq (g : GuardState) : g.number = [GuardState.clear, .tripped].idxOf g := by
  cases g <;> rfl

theorem LostCause.number_eq (c : LostCause) :
    c.number = [LostCause.overlong, .copyCheck, .timeout, .power].idxOf c := by
  cases c <;> rfl

theorem DamageCause.number_eq (c : DamageCause) : c.number =
    [DamageCause.readCheck, .copyCheck, .scrubCheck, .scrubList, .scrubEmptied].idxOf c := by
  cases c <;> rfl

theorem SlotState.number_eq (x : SlotState) : x.number = [SlotState.empty, .live, .damaged].idxOf x := by
  cases x <;> rfl

theorem Repeat.number_eq (r : Repeat) : r.number = [Repeat.none, .daily, .weekly].idxOf r := by
  cases r <;> rfl

/-- Entered and valid are 0, cleared and invalid 1 (R163, R193, R203). -/
theorem not_toNat_eq (v : Bool) : (!v).toNat = [true, false].idxOf v := by
  cases v <;> rfl

/-- Settles O16: a post is read back from its line bits (`judgePost_wireBits`), the line and the check go on bit
by bit (`stuff_concat`, `crcBits_concat`), and each field of a payload is the model's (R203). -/
theorem postSentIsPostReceived : Obligations.PostSentIsPostReceived := by
  refine ⟨?_, ?_, ?_, ?_, ⟨rfl, stuff_concat⟩, ⟨rfl, crcBits_concat⟩, ?_⟩
  · intro priority kind source target payload samples tail hp hk hs ht hl hgot
    exact judgePost_wireBits hp hk hs ht hl hgot
  · intro p
    rfl
  · intro p samples hp hs ht hl hgot
    exact judgePost_wireBits hp p.body.kind.code_lt hs ht hl hgot
  · intro x
    cases h : x.acked <;> simp [LineIf.ackLevel, ackSlot, h]
  · intro one two four flag signed signed2 day time present link code start phase level valid wave kind
      cause player outcome failure date record flags sent answers
    have hfour : four = field4 := funext fun n => (field4_eq n).symm
    have htime : time = time4 := funext fun t => ((time4_eq t).trans (field4_eq _)).symm
    have hsigned : signed = signed1 := funext fun i => (signed1_eq i).symm
    have hsigned2 : signed2 = Machine.signed2 := funext fun i => (signed2_eq i).symm
    have hcode : code = Code.number := funext fun c => by cases c <;> rfl
    have hstart : start = StartKind.number := funext fun c => by cases c <;> rfl
    have hphase : phase = PowerState.number := funext fun c => by cases c <;> rfl
    have hlevel : level = CellLevel.number := funext fun c => by cases c <;> rfl
    have hwave : wave = Waveform.number := funext fun c => by cases c <;> rfl
    have hkind : kind = PlayKind.number := funext fun c => by cases c <;> rfl
    have hcause : cause = FaultCause.number := funext fun c => by cases c <;> rfl
    have hplayer : player = PlayerState.number := funext fun c => by cases c <;> rfl
    have houtcome : outcome = CheckOutcome.number := funext fun c => by cases c <;> rfl
    have hfailure : failure = FailReason.number := funext fun c => by cases c <;> rfl
    have hdate : date = fun d => field2 d.year.toNat ++ field1 d.month ++ field1 d.day := rfl
    have hrecord : record = recordBytes := by
      funext r
      show field1 (phase r.phase) ++ time r.time ++ _ ++ _ ++ _ ++ _ ++ _ = _
      rw [hphase, htime]
      rfl
    have hvalid : valid = fun v => (!v).toNat := funext fun v => (not_toNat_eq v).symm
    have hone : one = field1 := rfl
    have htwo : two = field2 := rfl
    have hflag : flag = flag1 := rfl
    have hday : day = gameDay2 := rfl
    have hpresent : present = presence := rfl
    have hlink : link = fun k => field1 (k.getD 255) := rfl
    have hflags : flags = fun f => (List.range 12).flatMap fun i => flag1 (f.getLsbD i) := rfl
    have hsent (n : Notice) (fields : List Byte) : n.fields = fields → sent n n.kind.number fields :=
      fun h => notice_payload h
    have hanswers (d : ReplyData) (fields : List Byte) : d.bytes = fields → answers d fields := by
      intro h k tag c
      rw [hcode]
      exact reply_payload h k tag c
    clear_value sent answers flags record date failure outcome player cause kind wave valid level phase start
      code link present time day signed2 signed flag four two one
    subst hone htwo hfour hflag hsigned hsigned2 hday htime hpresent hlink hcode hstart hphase hlevel hvalid
      hwave hkind hcause hplayer houtcome hfailure hdate hrecord hflags
    refine ⟨fun _ _ _ _ => rfl, fun _ => rfl, fun _ _ _ => rfl, fun r => hsent _ _ ?_,
      fun g d w => hsent _ _ ?_, fun _ _ => hsent _ _ rfl, fun v n p r => hsent _ _ ?_,
      fun n k p r => hsent _ _ ?_, fun g h => hsent _ _ ?_, fun c => hsent _ _ rfl,
      fun slot c n => hsent _ _ ?_, fun e a m r => hsent _ _ ?_, fun _ => hsent _ _ rfl,
      fun _ => hsent _ _ rfl, fun slot c => hsent _ _ ?_, hanswers _ _ rfl,
      fun _ _ _ _ => hanswers _ _ rfl, fun _ _ _ _ => hanswers _ _ rfl, fun _ => hanswers _ _ rfl,
      fun c => hanswers _ _ ?_, fun _ _ _ _ => hanswers _ _ rfl, fun _ _ _ => hanswers _ _ rfl,
      fun _ _ _ _ => hanswers _ _ rfl, fun _ _ => hanswers _ _ rfl, fun _ _ => hanswers _ _ rfl,
      fun o f c x => hanswers _ _ ?_, fun _ _ => hanswers _ _ rfl, fun t g n => hanswers _ _ ?_,
      fun _ => hanswers _ _ rfl, fun r => hanswers _ _ ?_, fun _ _ _ _ _ => hanswers _ _ rfl,
      fun _ _ => hanswers _ _ rfl, fun r => hanswers _ _ ?_, fun _ _ => hanswers _ _ rfl,
      fun _ => hanswers _ _ rfl, fun n l => hanswers _ _ ?_, fun _ _ => hanswers _ _ rfl,
      fun _ _ => hanswers _ _ rfl, fun _ => hanswers _ _ rfl⟩
    · rw [Notice.fields, validity1, optional_eq, counted]
      simp only [List.append_assoc]
    · rfl
    · rw [Notice.fields, EndReason.cueNumber_eq]
    · rw [Notice.fields, EndReason.rumbleNumber_eq, optional_eq]
    · rw [Notice.fields, GuardState.number_eq]
    · rw [Notice.fields, LostCause.number_eq]
    · rw [Notice.fields, not_toNat_eq]
    · rw [Notice.fields, DamageCause.number_eq]
    · rw [ReplyData.bytes, changeBytes]
      simp only [optional_eq]
    · rw [ReplyData.bytes, optional_eq, optional_eq]
    · rw [ReplyData.bytes, optional_eq]
    · rw [ReplyData.bytes, slotBytes, SlotState.number_eq, optional_eq, optional_eq]
    · rw [ReplyData.bytes, clockBytes]
      simp only [optional_eq]
    · rw [ReplyData.bytes]
      refine congrArg (field1 n ++ ·) (congrArg (l.flatMap ·) (funext fun e => ?_))
      rw [appointmentBytes, Repeat.number_eq]

end Sys2Proof.Machine
end

section
/-! SUPPORT. The appointment list's operations, one rule each: placing an entry by due and tag, the entry
that a fired one leaves behind, and the list after its head fired (R46, R51). -/

namespace Sys2Proof.Machine

/-! ### The list's order (R46) -/

theorem appointmentBefore.trans {e f g : Appointment} (h : appointmentBefore e f)
    (k : appointmentBefore f g) : appointmentBefore e g := by
  unfold appointmentBefore at *
  omega

/-- Of two entries with different tags one stands before the other. -/
theorem appointmentBefore_of_not {e f : Appointment} (h : ¬ appointmentBefore f e)
    (ht : f.tag ≠ e.tag) : appointmentBefore e f := by
  unfold appointmentBefore at *
  omega

section
variable (e : Appointment) (l : List Appointment)

/-- The new entry stands behind the earlier ones. -/
theorem placeAppointment_eq : placeAppointment e l =
    (l.takeWhile fun x => decide (x.due < e.due ∨ (x.due = e.due ∧ x.tag < e.tag))) ++
      e :: l.dropWhile fun x => decide (x.due < e.due ∨ (x.due = e.due ∧ x.tag < e.tag)) := by
  induction l with
  | nil => rfl
  | cons x rest ih =>
    rw [placeAppointment, List.takeWhile_cons, List.dropWhile_cons]
    split
    · next h => rw [decide_eq_true h, ih]; rfl
    · next h => rw [decide_eq_false h]; rfl

theorem placeAppointment_perm : (placeAppointment e l).Perm (e :: l) := by
  rw [placeAppointment_eq]
  refine List.perm_middle.trans (.cons e ?_)
  rw [List.takeWhile_append_dropWhile]

@[simp] theorem placeAppointment_length : (placeAppointment e l).length = l.length + 1 :=
  (placeAppointment_perm e l).length_eq

@[simp] theorem mem_placeAppointment {x : Appointment} :
    x ∈ placeAppointment e l ↔ x = e ∨ x ∈ l := by
  rw [(placeAppointment_perm e l).mem_iff, List.mem_cons]
end

/-- Placing an entry of a new tag keeps the order. -/
theorem placeAppointment_ordered {e : Appointment} {l : List Appointment}
    (h : l.Pairwise appointmentBefore) (ht : ∀ x ∈ l, x.tag ≠ e.tag) :
    (placeAppointment e l).Pairwise appointmentBefore := by
  induction l with
  | nil => exact List.pairwise_singleton _ _
  | cons x rest ih =>
    obtain ⟨hx, hrest⟩ := List.pairwise_cons.1 h
    obtain ⟨hxt, hrt⟩ := List.forall_mem_cons.1 ht
    rw [placeAppointment]
    split
    · next hb =>
      refine List.pairwise_cons.2 ⟨fun y hy => ?_, ih hrest hrt⟩
      rcases (mem_placeAppointment e rest).1 hy with rfl | hy
      · exact hb
      · exact hx y hy
    · next hb =>
      have before : appointmentBefore e x := appointmentBefore_of_not hb hxt
      exact List.pairwise_cons.2
        ⟨List.forall_mem_cons.2 ⟨before, fun y hy => before.trans (hx y hy)⟩, h⟩

/-! ### What a fired entry leaves behind (R51) -/

/-- The due of a repeating entry after it fired at time `now` (R51). -/
def Appointment.nextDue (e : Appointment) (now : Nat) : Nat :=
  e.due + (e.missed now + 1) * e.period.seconds

/-- The entry that stands in the list after `e` fired at time `now`: none for NONE, and none where the
next due lies beyond the largest T (R51). -/
def Appointment.renewed (e : Appointment) (now : Nat) : Option Appointment :=
  if e.period ≠ .none ∧ e.nextDue now ≤ Config.maxTime then some { e with due := e.nextDue now } else none

theorem Appointment.renewed_eq_some {e f : Appointment} {now : Nat} : e.renewed now = some f ↔
    e.period ≠ .none ∧ e.nextDue now ≤ Config.maxTime ∧ f = { e with due := e.nextDue now } := by
  rw [renewed, Option.ite_none_right_eq_some, Option.some_inj, and_assoc, eq_comm (b := f)]

/-- A repeating entry's next due lies after the time at which it fired. -/
theorem Appointment.lt_nextDue {e : Appointment} (h : e.period ≠ .none) (now : Nat) :
    now < e.nextDue now := by
  have hpos : 0 < e.period.seconds := by
    cases hp : e.period <;> simp_all [Repeat.seconds, Config.daySeconds, Config.weekSeconds]
  have hlt := Nat.lt_mul_div_succ (now - e.due) hpos
  rw [Nat.mul_comm] at hlt
  show now < e.due + ((now - e.due) / e.period.seconds + 1) * e.period.seconds
  omega

/-- The list after its head fired: the renewed entry, where there is one, takes its place. -/
theorem afterFiring_eq (e : Appointment) (now : Nat) (rest : List Appointment) :
    afterFiring e now rest = (e.renewed now).elim rest (placeAppointment · rest) := by
  unfold afterFiring Appointment.renewed Appointment.nextDue
  cases e.period
  case none => rfl
  all_goals
    simp only [ne_eq, reduceCtorEq, not_false_eq_true, true_and]
    split <;> rfl

/-- The entries after the head fired. -/
theorem mem_afterFiring {e x : Appointment} {now : Nat} {rest : List Appointment} :
    x ∈ afterFiring e now rest ↔ e.renewed now = some x ∨ x ∈ rest := by
  rw [afterFiring_eq]
  cases e.renewed now with
  | none => simp
  | some f => rw [Option.elim_some, mem_placeAppointment, Option.some_inj, eq_comm]

/-! ### The list's laws (R46) -/

/-- An entry lies in range, and its link names a slot that is not EMPTY (R46). -/
def Appointment.Sound (x : SaveStore) (e : Appointment) : Prop :=
  e.due ≤ Config.maxTime ∧ e.tag ≤ 254 ∧ ∀ k, e.link = some k → (x.slot k).state ≠ .empty

/-- The laws of `AppointmentsSound` for a list beside a Save Store. -/
structure ListSound (x : SaveStore) (l : List Appointment) : Prop where
  length : l.length ≤ 8
  ordered : l.Pairwise appointmentBefore
  tags : (l.map Appointment.tag).Nodup
  entries : ∀ e ∈ l, e.Sound x

theorem appointmentsSound_iff {s : State} :
    AppointmentsSound s ↔ ListSound s.ss s.cal.appointments :=
  ⟨fun ⟨length, ordered, tags, entries⟩ => ⟨length, ordered, tags, entries⟩,
    fun ⟨length, ordered, tags, entries⟩ => ⟨length, ordered, tags, entries⟩⟩

theorem ListSound.nil (x : SaveStore) : ListSound x [] := ⟨by simp, .nil, .nil, by simp⟩

/-- Entries that leave keep the laws. -/
theorem ListSound.sublist {x : SaveStore} {l l' : List Appointment} (h : ListSound x l)
    (hl : l'.Sublist l) : ListSound x l' :=
  ⟨hl.length_le.trans h.length, h.ordered.sublist hl, h.tags.sublist (hl.map _),
    fun e he => h.entries e (hl.subset he)⟩

/-- A sound entry of a new tag takes its place in a list that is not full. -/
theorem ListSound.placed {x : SaveStore} {l : List Appointment} {e : Appointment} (h : ListSound x l)
    (hl : l.length < 8) (ht : ∀ y ∈ l, y.tag ≠ e.tag) (he : e.Sound x) :
    ListSound x (placeAppointment e l) where
  length := by
    rw [placeAppointment_length]
    omega
  ordered := placeAppointment_ordered h.ordered ht
  tags := by
    refine ((placeAppointment_perm e l).map _).nodup_iff.2 (List.nodup_cons.2 ⟨?_, h.tags⟩)
    rw [List.mem_map]
    rintro ⟨y, hy, hyt⟩
    exact ht y hy hyt
  entries := fun f hf => by
    rcases (mem_placeAppointment e l).1 hf with rfl | hf
    · exact he
    · exact h.entries f hf

/-- The laws beside another Save Store in which no linked slot became EMPTY. -/
theorem ListSound.beside {x y : SaveStore} {l : List Appointment} (h : ListSound x l)
    (hk : ∀ e ∈ l, ∀ k, e.link = some k → (x.slot k).state ≠ .empty → (y.slot k).state ≠ .empty) :
    ListSound y l where
  length := h.length
  ordered := h.ordered
  tags := h.tags
  entries := fun e he =>
    have ⟨due, tag, link⟩ := h.entries e he
    ⟨due, tag, fun k hl => hk e he k hl (link k hl)⟩

/-- The firing of the head keeps the laws (R51). -/
theorem ListSound.fired {x : SaveStore} {e : Appointment} {rest : List Appointment}
    (h : ListSound x (e :: rest)) (now : Nat) : ListSound x (afterFiring e now rest) := by
  have left := h.sublist (List.sublist_cons_self e rest)
  rw [afterFiring_eq]
  cases hf : e.renewed now with
  | none => exact left
  | some f =>
    obtain ⟨-, hdue, rfl⟩ := Appointment.renewed_eq_some.1 hf
    obtain ⟨-, htag, hlink⟩ := h.entries e List.mem_cons_self
    refine left.placed (Nat.lt_of_succ_le h.length) (fun y hy hyt => ?_) ⟨hdue, htag, hlink⟩
    exact (List.nodup_cons.1 h.tags).1 (List.mem_map.2 ⟨y, hy, hyt⟩)

end Sys2Proof.Machine
end

section
/-! SUPPORT. The appointment list keeps its laws in every step: no slot becomes EMPTY but by an act that
takes the entries linked to it along (R46, R52). -/

namespace Sys2Proof.Machine

/-! ### Slots that stay occupied -/

/-- No slot that is not EMPTY in `x` is EMPTY in `y`. -/
def KeepsSlots (x y : SaveStore) : Prop :=
  ∀ k, (x.slot k).state ≠ .empty → (y.slot k).state ≠ .empty

theorem KeepsSlots.refl (x : SaveStore) : KeepsSlots x x := fun _ h => h

theorem KeepsSlots.trans {x y z : SaveStore} (h : KeepsSlots x y) (k : KeepsSlots y z) :
    KeepsSlots x z := fun i hi => k i (h i hi)

theorem KeepsSlots.of_eq {x y : SaveStore} (h : y.slots = x.slots) : KeepsSlots x y :=
  fun _ hk => by rwa [SaveStore.slot, h]

/-- A slot takes a record that is not EMPTY. -/
theorem withSlot_keepsSlots (x : SaveStore) (i : Nat) {r : Slot} (hr : r.state ≠ .empty) :
    KeepsSlots x (x.withSlot i r) := by
  intro k hk
  by_cases hki : k = i
  · subst hki
    by_cases h8 : k < 8
    · rwa [SaveStore.slot_withSlot_same _ _ h8]
    · exact absurd (by rw [SaveStore.slot_beyond _ (by omega)]; rfl) hk
  · rwa [SaveStore.slot_withSlot_other _ _ hki]

theorem damageSlot_keepsSlots (slot : Nat) (cause : DamageCause) (s : State) :
    KeepsSlots s.ss (damageSlot slot cause s).ss := by
  rw [damageSlot, raiseNotice_ss, State.withSs_ss]
  exact withSlot_keepsSlots _ _ (by simp)

theorem abandonStream_slots (w : WriteStream) (s : State) :
    (abandonStream w s).ss.slots = s.ss.slots := s.ss.markAll_slots _ _

theorem breakStream_slots (w : WriteStream) (cause : LostCause) (s : State) :
    (breakStream w cause s).ss.slots = s.ss.slots := by
  rw [breakStream, raiseTo_ss]
  exact s.ss.markAll_slots _ _

theorem putByte_slots (x : SaveStore) (patch : Bool) (p at_ : Nat) (b : Byte) :
    (x.putByte patch p at_ b).slots = x.slots := by
  unfold SaveStore.putByte
  simp only
  split <;> rfl

/-- The bytes of a post leave the slot directory alone (R10 to R12). -/
theorem feed_slots (l : List Byte) (s : State) : (feed l s).ss.slots = s.ss.slots := by
  induction l generalizing s with
  | nil =>
    unfold feed
    split <;> rfl
  | cons b rest ih =>
    unfold feed
    simp only
    repeat' split
    · rfl
    · rw [ih, State.withSs_ss, putByte_slots]
    · exact breakStream_slots _ _ _
    · rw [ih, State.withSs_ss, putByte_slots]
      rfl
    · rfl
    · rw [ih, State.withSs_ss, putByte_slots, SaveStore.poke_slots]
      rfl

theorem copyComplete_keepsSlots (s : State) : KeepsSlots s.ss (copyComplete s).ss := by
  unfold copyComplete
  simp only
  repeat' split
  · exact .refl _
  · exact .of_eq (feed_slots _ _)
  · exact (KeepsSlots.of_eq (breakStream_slots _ _ s)).trans (damageSlot_keepsSlots _ _ _)
  · exact .refl _

theorem serveSaveData_slots (source toggle : Nat) (data : List Byte) (s : State) :
    (serveSaveData source toggle data s).ss.slots = s.ss.slots := by
  unfold serveSaveData
  simp only
  repeat' split
  iterate 5 rfl
  · rw [count_ss]
    rfl
  · rw [breakStream_slots]
    rfl
  · rw [feed_slots]
    rfl

/-- The commit leaves its slot LIVE (R14, R15). -/
theorem commit_keepsSlots (x : SaveStore) (c : Calendar) (w : WriteStream) :
    KeepsSlots x (x.commit c w) := by
  rw [commit_eq]
  have live : (committedSlot c w (x.slot w.slot)).state ≠ .empty := by simp [committedSlot]
  exact KeepsSlots.trans (.of_eq (by simp)) (withSlot_keepsSlots _ _ live)

theorem readHandover_slots (s : State) : (readHandover s).ss.slots = s.ss.slots := by
  unfold readHandover
  simp only
  repeat' split
  · rfl
  · rfl
  · rw [handPost_ss]
    exact s.ss.endRead_slots
  · rfl
  · rw [handPost_ss]
    exact s.ss.endRead_slots
  · rw [handPost_ss]
    rfl

theorem withRead_keepsSlots (r : Option ReadStream) (s : State) :
    KeepsSlots s.ss (s.withRead r).ss := .of_eq rfl

theorem readVerify_keepsSlots (s : State) : KeepsSlots s.ss (readVerify s).ss := by
  unfold readVerify
  simp only
  repeat' split
  iterate 3 exact .refl _
  · exact withRead_keepsSlots _ s
  · exact (withRead_keepsSlots _ s).trans (damageSlot_keepsSlots _ _ _)
  · exact withRead_keepsSlots _ s

theorem storeDoze_slots (s : State) : (storeDoze s).ss.slots = s.ss.slots := by
  have wrote : (dozeWrite s).ss.slots = s.ss.slots := by
    unfold dozeWrite
    repeat' split
    · rfl
    · rfl
    all_goals
      rw [raiseTo_ss]
      exact abandonStream_slots _ s
  unfold storeDoze
  simp only
  split
  · exact (SaveStore.endRead_slots _).trans wrote
  · exact wrote

/-! ### The list, from step to step -/

/-- `t` has a sound appointment list where `s` has one. -/
def KeepsAppointments (s t : State) : Prop := AppointmentsSound s → AppointmentsSound t

theorem KeepsAppointments.refl (s : State) : KeepsAppointments s s := id

theorem KeepsAppointments.trans {s t u : State} (h : KeepsAppointments s t)
    (k : KeepsAppointments t u) : KeepsAppointments s u := fun w => k (h w)

/-- `trans` with the last act first, as a nest of acts is read. -/
theorem KeepsAppointments.after {s t u : State} (k : KeepsAppointments t u)
    (h : KeepsAppointments s t) : KeepsAppointments s u := h.trans k

/-- An act that empties no slot and after which the list is sound beside the old store. -/
theorem KeepsAppointments.of_slots {s t : State} (hk : KeepsSlots s.ss t.ss)
    (hl : ListSound s.ss s.cal.appointments → ListSound s.ss t.cal.appointments) :
    KeepsAppointments s t := fun h =>
  appointmentsSound_iff.2 ((hl (appointmentsSound_iff.1 h)).beside fun _ _ k _ => hk k)

/-- An act that leaves the list and every occupied slot. -/
theorem KeepsAppointments.of_cal {s t : State} (hc : t.cal = s.cal) (hk : KeepsSlots s.ss t.ss) :
    KeepsAppointments s t := .of_slots hk (by rw [hc]; exact id)

/-- An act on the list alone. -/
theorem KeepsAppointments.of_list {s t : State} (hs : t.ss = s.ss)
    (hl : ListSound s.ss s.cal.appointments → ListSound s.ss t.cal.appointments) :
    KeepsAppointments s t := .of_slots (by rw [hs]; exact .refl _) hl

theorem keepsAppointments_of_empty {s t : State} (h : t.cal.appointments = []) :
    KeepsAppointments s t := fun _ => appointmentsSound_iff.2 (h ▸ .nil _)

theorem Aside.keepsAppointments {s t : State} (h : Aside s t) : KeepsAppointments s t :=
  .of_list h.ss (by rw [h.cal]; exact id)

theorem Stores.keepsAppointments {s t : State} (h : Stores s t) (hk : KeepsSlots s.ss t.ss) :
    KeepsAppointments s t := .of_cal h.cal hk

theorem withLif_keepsAppointments (x : LineIf) (s : State) : KeepsAppointments s (s.withLif x) := id

theorem withPs_keepsAppointments (x : Power) (s : State) : KeepsAppointments s (s.withPs x) := id

theorem withSs_keepsAppointments {x : SaveStore} {s : State} (h : KeepsSlots s.ss x) :
    KeepsAppointments s (s.withSs x) := .of_cal rfl h

/-- A change of the Calendar beside its list. -/
theorem withCal_keepsAppointments {c : Calendar} {s : State}
    (h : c.appointments = s.cal.appointments) : KeepsAppointments s (s.withCal c) :=
  .of_list rfl (by rw [State.withCal_cal, h]; exact id)

/-- Another list, sound where the old one is. -/
theorem withList_keepsAppointments {l : List Appointment} {s : State}
    (h : ListSound s.ss s.cal.appointments → ListSound s.ss l) :
    KeepsAppointments s (s.withCal { s.cal with appointments := l }) := .of_list rfl h

theorem KeepsAppointments.reply {s t : State} (h : KeepsAppointments s t) (a : Ask) (k : Kind)
    (c : Code) (d : ReplyData) : KeepsAppointments s (reply a k c d t) :=
  h.trans (reply_aside a k c d t).keepsAppointments

theorem reply_keepsAppointments (a : Ask) (k : Kind) (c : Code) (d : ReplyData) (s : State) :
    KeepsAppointments s (Machine.reply a k c d s) := (reply_aside a k c d s).keepsAppointments

/-! ### The appointment check and the clock (R33, R44, R50) -/

theorem fireDue_keepsAppointments (n : Nat) (s : State) : KeepsAppointments s (fireDue n s) := by
  induction n generalizing s with
  | zero => exact .refl s
  | succ n ih =>
    unfold fireDue
    split
    · exact .refl s
    · next e rest he =>
      split
      · refine (ih _).after ((raiseNotice_posts _ _).aside.keepsAppointments.after ?_)
        exact withList_keepsAppointments fun h => (he ▸ h).fired s.cal.time
      · exact .refl s

theorem appointmentCheck_keepsAppointments (s : State) : KeepsAppointments s (appointmentCheck s) := by
  unfold appointmentCheck
  split
  · exact fireDue_keepsAppointments _ s
  · exact .refl s

theorem dayTurnCheck_keepsAppointments (s : State) : KeepsAppointments s (dayTurnCheck s) := by
  unfold dayTurnCheck
  split
  · exact (raiseNotice_posts _ _).aside.keepsAppointments.after (withCal_keepsAppointments rfl)
  · exact .refl s

theorem crystalCount_keepsAppointments (s : State) : KeepsAppointments s (crystalCount s) := by
  have counted : KeepsAppointments s (samplerCount s) := id
  refine counted.trans ?_
  show KeepsAppointments (samplerCount s) (prescalerCount (samplerCount s))
  generalize samplerCount s = u
  unfold prescalerCount calendarStep
  split
  · split
    · exact (appointmentCheck_keepsAppointments _).after <|
        (dayTurnCheck_keepsAppointments _).after (withCal_keepsAppointments rfl)
    · exact withCal_keepsAppointments rfl
  · exact .refl u

/-! ### Requests -/

/-- A slot becomes EMPTY and the entries linked to it leave (R52). -/
theorem slotEmptied_keepsAppointments {slot : Nat} {x : SaveStore} {s : State}
    (hx : ∀ k ≠ slot, x.slot k = s.ss.slot k) :
    KeepsAppointments s (slotEmptied slot (s.withSs x)) := fun h => by
  have left := (appointmentsSound_iff.1 h).sublist
    (s.cal.appointments.filter_sublist (p := fun e => e.link != some slot))
  refine appointmentsSound_iff.2 (left.beside fun e he k hk hne => ?_)
  have hks : k ≠ slot := by
    rintro rfl
    simp [hk] at he
  exact (congrArg (fun r : Slot => r.state ≠ .empty) (hx k hks)).mpr hne

theorem serveSaveErase_keepsAppointments (a : Ask) (slot : Nat) (s : State) :
    KeepsAppointments s (serveSaveErase a slot s) := by
  unfold serveSaveErase
  simp only
  repeat' split
  iterate 4 exact reply_keepsAppointments _ _ _ _ s
  · refine (slotEmptied_keepsAppointments fun k hk => ?_).reply _ _ _ _
    rw [SaveStore.slot_withSlot_other _ _ hk, SaveStore.release_slot]

theorem serveClockSet_keepsAppointments (a : Ask) (time : Nat) (zone : Option Int)
    (hour : Option Nat) (s : State) : KeepsAppointments s (serveClockSet a time zone hour s) := by
  unfold serveClockSet
  split
  · have set : KeepsAppointments s (s.withCal (s.cal.set time zone hour)) :=
      withCal_keepsAppointments rfl
    exact (set.trans (appointmentCheck_keepsAppointments _)).reply _ _ _ _
  · exact reply_keepsAppointments _ _ _ _ s

theorem linkEmpty_eq_false {s : State} {link : Option Nat} :
    linkEmpty s link = false ↔ ∀ k, link = some k → (s.ss.slot k).state ≠ .empty := by
  cases link <;> simp [linkEmpty]

/-- SAVE_CLOSE empties no slot and leaves the list (R13). -/
theorem serveSaveClose_keepsAppointments (a : Ask) (n mode : Nat) (s : State) :
    KeepsAppointments s (serveSaveClose a n mode s) := by
  have abandoned (w : WriteStream) : KeepsAppointments s (abandonStream w s) :=
    (abandonStream_stores w s).keepsAppointments (.of_eq (abandonStream_slots w s))
  have closed : KeepsAppointments s (s.withWrite none) :=
    withSs_keepsAppointments (x := { s.ss with write := none }) (.of_eq rfl)
  unfold serveSaveClose closeCommit
  simp only
  repeat' split
  iterate 3 exact reply_keepsAppointments _ _ _ _ s
  · exact closed.reply _ _ _ _
  iterate 4 exact (abandoned _).reply _ _ _ _
  · exact (withSs_keepsAppointments (commit_keepsSlots _ _ _)).reply _ _ _ _

/-- APPOINT_SET places a sound entry of a new tag in a list that is not full (R47). -/
theorem serveAppointSet_keepsAppointments (a : Ask) (tag due period : Nat) (link : Option Nat)
    (s : State) : KeepsAppointments s (serveAppointSet a tag due period link s) := by
  unfold serveAppointSet
  simp only
  repeat' split
  iterate 5 exact reply_keepsAppointments _ _ _ _ s
  · next p _ hrange _ hlink hfull =>
    obtain ⟨htag, -, hdue⟩ : tag < 255 ∧ link.getD 0 < 8 ∧ due ≤ Config.maxTime := by
      simpa only [not_or, not_le, not_lt] using hrange
    have hsound : Appointment.Sound s.ss { tag := tag, due := due, period := p, link := link } :=
      ⟨hdue, Nat.le_of_lt_succ htag, linkEmpty_eq_false.1 (by simpa using hlink)⟩
    refine (withList_keepsAppointments fun h => ?_).reply _ _ _ _
    refine (h.sublist List.filter_sublist).placed (not_le.1 hfull) (fun y hy => ?_) hsound
    simpa using (List.mem_filter.1 hy).2

theorem serveAppointClear_keepsAppointments (a : Ask) (tag : Nat) (s : State) :
    KeepsAppointments s (serveAppointClear a tag s) := by
  unfold serveAppointClear
  simp only
  repeat' split
  · exact (keepsAppointments_of_empty rfl).reply _ _ _ _
  · exact (withList_keepsAppointments fun h => h.sublist List.filter_sublist).reply _ _ _ _
  · exact reply_keepsAppointments _ _ _ _ s

theorem serve_keepsAppointments (e : Entry) (s : State) : KeepsAppointments s (serve e s) := by
  by_cases ho : e.request.kind.owner ≠ .saveStore ∧ e.request.kind.owner ≠ .calendar
  · exact (serve_aside ho.1 ho.2 s).keepsAppointments
  · obtain ⟨a, r⟩ := e
    cases r
    case saveOpen slot form =>
      simp only [serve, serveSaveOpen]
      split
      · exact reply_keepsAppointments _ _ _ _ s
      · exact (KeepsAppointments.of_cal (by rfl) (.of_eq (by rfl))).reply _ _ _ _
    case saveData =>
      exact (serveSaveData_stores _ _ _ s).keepsAppointments (.of_eq (serveSaveData_slots _ _ _ s))
    case saveClose => exact serveSaveClose_keepsAppointments _ _ _ s
    case saveRead slot offset length =>
      simp only [serve, serveSaveRead]
      split
      · exact reply_keepsAppointments _ _ _ _ s
      · exact (KeepsAppointments.of_cal (by rfl) (.of_eq (by rfl))).reply _ _ _ _
    case saveErase => exact serveSaveErase_keepsAppointments _ _ s
    case saveInfo slot =>
      simp only [serve, serveSaveInfo]
      split <;> exact reply_keepsAppointments _ _ _ _ s
    case clockSet => exact serveClockSet_keepsAppointments _ _ _ _ s
    case clockRead => exact reply_keepsAppointments _ _ _ _ s
    case clockAccept =>
      simp only [serve, serveClockAccept]
      split
      · exact (withCal_keepsAppointments (by rfl)).reply _ _ _ _
      · exact reply_keepsAppointments _ _ _ _ s
    case clockTrim => exact (withCal_keepsAppointments (by rfl)).reply _ _ _ _
    case appointSet => exact serveAppointSet_keepsAppointments _ _ _ _ _ s
    case appointClear => exact serveAppointClear_keepsAppointments _ _ s
    case appointList start =>
      simp only [serve, serveAppointList]
      split <;> exact reply_keepsAppointments _ _ _ _ s
    case misfit k => exact (serveMisfit_aside a k s).keepsAppointments
    all_goals simp [Request.kind, Kind.owner] at ho

theorem drainInbox_keepsAppointments (s : State) : KeepsAppointments s (drainInbox s) := by
  unfold drainInbox
  generalize s.lif.inbox.length = n
  induction n generalizing s with
  | zero => exact .refl s
  | succ n ih =>
    unfold handOn
    split
    · exact .refl s
    · next e rest _ =>
      split
      · exact (ih _).after ((serve_keepsAppointments e _).after (withLif_keepsAppointments _ s))
      · exact .refl s

theorem enterRequest_keepsAppointments (e : Entry) (s : State) :
    KeepsAppointments s (enterRequest e s) := by
  unfold enterRequest
  repeat' split
  · exact (refuseRequest_aside _ _ s).keepsAppointments
  · exact (refuseRequest_aside _ _ s).keepsAppointments
  · exact .refl s
  · exact (drainInbox_keepsAppointments _).after (withLif_keepsAppointments _ s)

/-! ### Starts, DOZE and KEEP -/

theorem lineDoze_keepsAppointments (s : State) : KeepsAppointments s (lineDoze s) :=
  (foldl_refuseRequest_posts _ _).aside.keepsAppointments.after (withLif_keepsAppointments _ s)

theorem enterDoze_keepsAppointments (s : State) : KeepsAppointments s (enterDoze s) :=
  (drainInbox_keepsAppointments _).after <| (budgetDoze_aside _).keepsAppointments.after <|
    (beatDoze_aside _).keepsAppointments.after <|
    ((storeDoze_stores _).keepsAppointments (.of_eq (storeDoze_slots _))).after <|
    (rumbleDoze_rumbles _).aside.keepsAppointments.after <|
    (soundDoze_sounds _).aside.keepsAppointments.after <|
    (lineDoze_keepsAppointments _).after (withPs_keepsAppointments _ s)

theorem actMode_keepsAppointments (m : PowerMode) (s : State) :
    KeepsAppointments s (actMode m s) := by
  unfold actMode
  split
  · split
    · exact enterDoze_keepsAppointments s
    · exact .refl s
  · split
    · exact (recompute_aside _).keepsAppointments.after (withPs_keepsAppointments _ s)
    · exact .refl s
  · exact (enterDoze_keepsAppointments _).after (withPs_keepsAppointments _ s)

theorem raiseResume_keepsAppointments (s : State) : KeepsAppointments s (raiseResume s) :=
  (raiseNotice_posts _ _).aside.keepsAppointments.after (withPs_keepsAppointments _ s)

theorem calendarActive_keepsAppointments (s : State) : KeepsAppointments s (calendarActive s) := id

theorem enterActive_keepsAppointments (s : State) : KeepsAppointments s (enterActive s) :=
  (appointmentCheck_keepsAppointments _).after <| (raiseResume_keepsAppointments _).after <|
    (calendarActive_keepsAppointments _).after <|
    (greeted_aside s).keepsAppointments.after (withPs_keepsAppointments _ s)

theorem scrubBegin_keepsAppointments (s : State) : KeepsAppointments s (scrubBegin s) := by
  have checked (l : List Nat) : ∀ u, KeepsAppointments u (l.foldl scrubCheckSlot u) := by
    induction l with
    | nil => exact .refl
    | cons k rest ih =>
      refine fun u => (ih _).after ?_
      unfold scrubCheckSlot
      split
      · exact (damageSlot_stores _ _ u).keepsAppointments (damageSlot_keepsSlots _ _ u)
      · exact .refl u
  exact (checked _ _).after (.of_cal rfl (.of_eq (s.ss.markAll_slots _ _)))

theorem settingsArrive_keepsAppointments (bytes : List Byte) (s : State) :
    KeepsAppointments s (settingsArrive bytes s) := by
  have taken (st : Settings) (valid : Bool) (u : State) :
      KeepsAppointments u (takeSettings st valid u) := id
  have cold (u : State) : KeepsAppointments u (finishCold u) := id
  have begun : KeepsAppointments s (beatBegin (takeSettings (settingsOf s.lif.own bytes)
      (settingsValid bytes) (freePort s))) :=
    (beatBegin_aside _).keepsAppointments.after <| (taken _ _ _).after <|
      (freePort_aside s).keepsAppointments
  refine (grant_aside _).keepsAppointments.after ?_
  split
  · exact (enterActive_keepsAppointments _).after ((cold _).after begun)
  · exact (scrubBegin_keepsAppointments _).after begun

/-- Step 3 of the scrub empties a slot with its linked entries, or leaves it occupied (R26, R52). -/
theorem scrubSlot_keepsAppointments (acc : List Nat × List Nat × State) (k : Nat) :
    KeepsAppointments acc.2.2 (scrubSlot acc k).2.2 := by
  unfold scrubSlot
  simp only
  repeat' split
  · exact .refl _
  · exact .refl _
  · refine ((damageSlot_stores _ _ _).keepsAppointments (damageSlot_keepsSlots _ _ _)).after ?_
    refine withSs_keepsAppointments (.of_eq ?_)
    rw [foldl_live_eq, SaveStore.markPairs_slots]
  · exact (raiseNotice_posts _ _).aside.keepsAppointments.after <|
      slotEmptied_keepsAppointments fun j hj => SaveStore.slot_withSlot_other _ _ hj

theorem scrubEnd_keepsAppointments (freed : Nat) (s : State) :
    KeepsAppointments s (scrubEnd freed s) := by
  have folded (l : List Nat) : ∀ acc : List Nat × List Nat × State,
      KeepsAppointments acc.2.2 (l.foldl scrubSlot acc).2.2 := by
    induction l with
    | nil => exact fun acc => .refl _
    | cons k rest ih => exact fun acc => (scrubSlot_keepsAppointments acc k).trans (ih _)
  have h := folded slotNumbers ([], [], s)
  unfold scrubEnd
  generalize slotNumbers.foldl scrubSlot ([], [], s) = r at h
  obtain ⟨accepted, emptied, t⟩ := r
  exact (withPs_keepsAppointments _ _).after <|
    (withSs_keepsAppointments (.of_eq (t.ss.markAll_slots _ _))).after h

theorem sampleCell_keepsAppointments (mv : Nat) (s : State) :
    KeepsAppointments s (sampleCell mv s) := by
  unfold sampleCell
  simp only
  split
  · exact (raiseNotice_posts _ _).aside.keepsAppointments.after (withPs_keepsAppointments _ s)
  · exact withPs_keepsAppointments _ s

theorem coreStart_keepsAppointments (own : Nat) (s : State) :
    KeepsAppointments s (coreStart own s) := id

/-- A cold start empties the list with the store (R166). -/
theorem beginStart_keepsAppointments (own mv : Nat) (s : State) :
    KeepsAppointments s (beginStart own mv s) := by
  have cored := (coreStart_keepsAppointments own _).after (withPs_keepsAppointments s.ps.started s)
  refine (askSettings_aside _).keepsAppointments.after <| (sampleCell_keepsAppointments mv _).after <|
    (withGuard_aside _ _).keepsAppointments.after ?_
  split
  · exact keepsAppointments_of_empty rfl
  · exact cored

theorem calendarKeep_keepsAppointments (s : State) : KeepsAppointments s (calendarKeep s) := id

theorem railLost_keepsAppointments (mv : Nat) (s : State) : KeepsAppointments s (railLost mv s) :=
  (sampleCell_keepsAppointments mv _).after <| (coreStart_keepsAppointments _ _).after <|
    (withPs_keepsAppointments _ _).after (calendarKeep_keepsAppointments s)

theorem idleExpiry_keepsAppointments (s : State) : KeepsAppointments s (idleExpiry s) := by
  unfold idleExpiry
  split
  · exact .refl s
  · next w _ =>
    have reached : KeepsAppointments s (reach (w.lastActivity + idleCounts s.settings) s) :=
      (reach_aside _ s).keepsAppointments
    simp only
    split
    · exact .refl s
    · exact (withSs_keepsAppointments (.of_eq rfl)).after reached
    · refine (raiseTo_posts _ _ _).aside.keepsAppointments.after (KeepsAppointments.after ?_ reached)
      exact (abandonStream_stores _ _).keepsAppointments (.of_eq (abandonStream_slots _ _))

theorem Acts.keepsAppointments {s t : State} (h : Acts s t) : KeepsAppointments s t := by
  cases h with
  | aside h => exact h.keepsAppointments
  | crystal h => exact h.keepsAppointments.trans (crystalCount_keepsAppointments _)
  | cell ss cal _ _ _ => exact .of_cal cal (by rw [ss]; exact .refl _)
  | enter e h _ => exact h.keepsAppointments.trans (enterRequest_keepsAppointments e _)
  | mode m h _ => exact h.keepsAppointments.trans (actMode_keepsAppointments m _)
  | handover => exact (readHandover_stores s).keepsAppointments (.of_eq (readHandover_slots s))
  | verify => exact (readVerify_stores s).keepsAppointments (readVerify_keepsSlots s)
  | copied =>
    exact ((copyComplete_stores s).keepsAppointments (copyComplete_keepsSlots s)).trans
      (drainInbox_keepsAppointments _)
  | idled => exact idleExpiry_keepsAppointments s
  | scrubbed freed _ _ =>
    exact (scrubEnd_keepsAppointments freed s).trans (enterActive_keepsAppointments _)
  | settled bytes _ => exact settingsArrive_keepsAppointments bytes s
  | started own mv _ => exact beginStart_keepsAppointments own mv s
  | failed mv => exact railLost_keepsAppointments mv s
  | wiped => exact keepsAppointments_of_empty rfl

/-- Settles O9: a step is one of the acts, and each keeps the appointment list's laws. -/
theorem everyStepKeepsTheAppointmentsSound : Obligations.EveryStepKeepsTheAppointmentsSound := by
  intro s t hs h
  obtain ⟨rest, ha⟩ := step_acts h
  exact ha.keepsAppointments hs

end Sys2Proof.Machine
end

section
/-! SUPPORT. The appointment check: each due entry is notified once, in list order, and leaves what it
renews (R50, R51). -/

namespace Sys2Proof.Machine

theorem handPost_withCal (p : TxPost) (c : Calendar) (s : State) :
    handPost p (s.withCal c) = (handPost p s).withCal c :=
  handPost_with p s (·.withCal c) (fun _ _ => rfl) (fun _ _ => rfl) rfl

/-- A notice is formed while its kind is enabled and the part serves the line (R195). -/
def formNotice (target : Nat) (n : Notice) (s : State) : State :=
  if s.serving && s.nu.mask.getLsbD n.kind.number then
    handPost (s.post (noticePriority s.ps.state) target (.notice n)) s
  else s

/-- A raised notice's flag is pending (R195). -/
def flagNotice (n : Notice) (s : State) : State :=
  s.withNu { s.nu with pendingFlags := s.nu.pendingFlags ||| BitVec.ofNat 12 (2 ^ n.kind.number) }

theorem raiseNotice_eq (n : Notice) (s : State) :
    raiseNotice n s = formNotice s.settings.noticeStation n (flagNotice n s) := rfl

theorem formNotice_enabled {n : Notice} {s : State} (target : Nat) (hs : s.serving = true)
    (hm : s.nu.mask.getLsbD n.kind.number = true) : formNotice target n s =
      handPost (s.post (noticePriority s.ps.state) target (.notice n)) s :=
  if_pos (by rw [hs, hm]; rfl)

theorem formNotice_withCal (target : Nat) (n : Notice) (c : Calendar) (s : State) :
    formNotice target n (s.withCal c) = (formNotice target n s).withCal c := by
  by_cases h : (s.serving && s.nu.mask.getLsbD n.kind.number) = true
  · have formed : formNotice target n s = _ := if_pos h
    rw [formed, ← handPost_withCal]
    exact if_pos h
  · have left : formNotice target n s = s := if_neg h
    rw [left]
    exact if_neg h

/-- A notice is raised without regard to the Calendar. -/
theorem raiseNotice_withCal (n : Notice) (c : Calendar) (s : State) :
    raiseNotice n (s.withCal c) = (raiseNotice n s).withCal c :=
  formNotice_withCal _ n c (flagNotice n s)

/-! ### What the check makes of the list -/

/-- The APPOINTMENT notice of an entry that fires at time `now` (R51). -/
def Appointment.firing (e : Appointment) (now : Nat) : Notice :=
  .appointment e.tag (reportedMissed e now)

/-- `l` is what the check at time `now` makes of `old`: the entries not due stay, and each due one leaves
what it renews (R51). -/
structure FiredList (now : Nat) (old l : List Appointment) : Prop where
  ordered : l.Pairwise appointmentBefore
  mem : ∀ x, x ∈ l ↔
    (x ∈ old ∧ now < x.due) ∨ ∃ e ∈ old, e.due ≤ now ∧ e.renewed now = some x

/-- The entries due at time `now`. -/
def dueEntries (now : Nat) (l : List Appointment) : List Appointment :=
  l.filter fun e => decide (e.due ≤ now)

theorem dueEntries_eq_nil {now : Nat} {l : List Appointment} :
    dueEntries now l = [] ↔ ∀ e ∈ l, now < e.due := by
  simp [dueEntries, List.filter_eq_nil_iff]

theorem dueEntries_cons {now : Nat} {e : Appointment} {rest : List Appointment} (h : e.due ≤ now) :
    dueEntries now (e :: rest) = e :: dueEntries now rest :=
  List.filter_cons_of_pos (decide_eq_true h)

theorem FiredList.of_none_due {now : Nat} {l : List Appointment}
    (ho : l.Pairwise appointmentBefore) (h : ∀ e ∈ l, now < e.due) : FiredList now l l where
  ordered := ho
  mem x := by
    refine ⟨fun hx => .inl ⟨hx, h x hx⟩, ?_⟩
    rintro (⟨hx, -⟩ | ⟨e, he, hd, -⟩)
    · exact hx
    · exact absurd (h e he) (not_lt.2 hd)

theorem Appointment.renewed_due {e f : Appointment} {now : Nat} (h : e.renewed now = some f) :
    now < f.due := by
  obtain ⟨hp, -, rfl⟩ := renewed_eq_some.1 h
  exact lt_nextDue hp now

/-- A check that goes on from the list after its head fired. -/
theorem FiredList.of_fired {now : Nat} {e : Appointment} {rest l : List Appointment}
    (he : e.due ≤ now) (h : FiredList now (afterFiring e now rest) l) : FiredList now (e :: rest) l where
  ordered := h.ordered
  mem x := by
    simp only [h.mem x, mem_afterFiring, List.mem_cons]
    constructor
    · rintro (⟨hx | hx, hd⟩ | ⟨f, hf | hf, hd, hx⟩)
      · exact .inr ⟨e, .inl rfl, he, hx⟩
      · exact .inl ⟨.inr hx, hd⟩
      · exact absurd (Appointment.renewed_due hf) (not_lt.2 hd)
      · exact .inr ⟨f, .inr hf, hd, hx⟩
    · rintro (⟨rfl | hx, hd⟩ | ⟨f, rfl | hf, hd, hx⟩)
      · exact absurd hd (not_lt.2 he)
      · exact .inl ⟨.inr hx, hd⟩
      · exact .inl ⟨.inl hx, Appointment.renewed_due hx⟩
      · exact .inr ⟨f, .inr hf, hd, hx⟩

/-- What a fired entry renews is not due again. -/
theorem dueEntries_afterFiring (e : Appointment) (now : Nat) (rest : List Appointment) :
    dueEntries now (afterFiring e now rest) = dueEntries now rest := by
  rw [afterFiring_eq]
  cases hf : e.renewed now with
  | none => rfl
  | some f =>
    have later : decide (f.due ≤ now) = false :=
      decide_eq_false (not_le.2 (Appointment.renewed_due hf))
    rw [Option.elim_some, placeAppointment_eq, dueEntries, List.filter_append, List.filter_cons, later,
      if_neg Bool.false_ne_true, ← List.filter_append, List.takeWhile_append_dropWhile]
    rfl

/-- Behind a head that is not due nothing is. -/
theorem none_due_of_head {now : Nat} {e : Appointment} {rest : List Appointment}
    (ho : (e :: rest).Pairwise appointmentBefore) (h : now < e.due) :
    ∀ f ∈ e :: rest, now < f.due := by
  refine List.forall_mem_cons.2 ⟨h, fun f hf => ?_⟩
  have before := (List.pairwise_cons.1 ho).1 f hf
  unfold appointmentBefore at before
  omega

/-! ### The check -/

/-- The notices of a list of entries that fire at time `now`, raised one after another. -/
def notifyAll (now : Nat) (l : List Appointment) (s : State) : State :=
  l.foldl (fun t e => raiseNotice (e.firing now) t) s

/-- `t` is what the appointment check makes of `s` (R50, R51). -/
def Fires (s t : State) : Prop :=
  ∃ l, FiredList s.cal.time s.cal.appointments l ∧
    t = notifyAll s.cal.time (dueEntries s.cal.time s.cal.appointments)
      (s.withCal { s.cal with appointments := l })

theorem Fires.of_none_due {s : State} (ho : s.cal.appointments.Pairwise appointmentBefore)
    (h : ∀ e ∈ s.cal.appointments, s.cal.time < e.due) : Fires s s := by
  refine ⟨_, .of_none_due ho h, ?_⟩
  rw [dueEntries_eq_nil.2 h]
  rfl

/-- The part after its list's head `e` fired (R51). -/
def headFired (e : Appointment) (rest : List Appointment) (s : State) : State :=
  raiseNotice (e.firing s.cal.time)
    (s.withCal { s.cal with appointments := afterFiring e s.cal.time rest })

theorem headFired_cal (e : Appointment) (rest : List Appointment) (s : State) :
    (headFired e rest s).cal = { s.cal with appointments := afterFiring e s.cal.time rest } :=
  raiseNotice_cal _ _

/-- A check that goes on after its head fired. -/
theorem Fires.of_head {e : Appointment} {rest : List Appointment} {s t : State}
    (he : s.cal.appointments = e :: rest) (hdue : e.due ≤ s.cal.time)
    (h : Fires (headFired e rest s) t) : Fires s t := by
  obtain ⟨l, hl, ht⟩ := h
  rw [headFired_cal] at hl ht
  refine ⟨l, he ▸ hl.of_fired hdue, ?_⟩
  rw [ht, dueEntries_afterFiring, he, dueEntries_cons hdue, headFired, ← raiseNotice_withCal]
  rfl

/-- The firing of due heads, with fuel for each due entry (R51). -/
theorem fireDue_fires (n : Nat) (s : State) (h : ListSound s.ss s.cal.appointments)
    (hn : (dueEntries s.cal.time s.cal.appointments).length ≤ n) : Fires s (fireDue n s) := by
  induction n generalizing s with
  | zero =>
    have none_due := List.length_eq_zero_iff.1 (Nat.le_zero.1 hn)
    exact .of_none_due h.ordered (dueEntries_eq_nil.1 none_due)
  | succ n ih =>
    unfold fireDue
    split
    · next he => exact .of_none_due h.ordered (by simp [he])
    · next e rest he =>
      split
      · next hdue =>
        refine Fires.of_head he hdue (ih _ ?_ ?_)
        · rw [headFired_cal, headFired, raiseNotice_ss]
          exact (he ▸ h).fired _
        · rw [he, dueEntries_cons hdue] at hn
          rw [headFired_cal, dueEntries_afterFiring]
          exact Nat.le_of_succ_le_succ hn
      · next hdue =>
        refine .of_none_due h.ordered ?_
        rw [he] at h ⊢
        exact none_due_of_head h.ordered (not_le.1 hdue)

/-- What a repeating entry renews, by its period (R46, R51). -/
theorem Appointment.renewed_iff {e x : Appointment} {now : Nat} : e.renewed now = some x ↔
    (e.period = .daily ∧ x.due ≤ 3155759999 ∧
      x = { e with due := e.due + ((now - e.due) / 86400 + 1) * 86400 }) ∨
    (e.period = .weekly ∧ x.due ≤ 3155759999 ∧
      x = { e with due := e.due + ((now - e.due) / 604800 + 1) * 604800 }) := by
  have next (n : Nat) (hn : e.period.seconds = n) :
      e.nextDue now = e.due + ((now - e.due) / n + 1) * n := by
    rw [nextDue, missed, hn]
  have ranged (n : Nat) (p : Repeat) : n ≤ Config.maxTime ∧ x = ⟨e.tag, n, p, e.link⟩ ↔
      x.due ≤ 3155759999 ∧ x = ⟨e.tag, n, p, e.link⟩ :=
    and_congr_left fun hx => by rw [hx]; rfl
  rw [renewed_eq_some]
  cases hp : e.period with
  | none => simp
  | daily => simpa [next 86400 (by rw [hp]; rfl)] using ranged _ _
  | weekly => simpa [next 604800 (by rw [hp]; rfl)] using ranged _ _

/-- Settles O29: the due heads fire one after another, and what one renews is not due again
(`fireDue_fires`). -/
theorem appointmentCheckFiresEachDueEntryOnce :
    Obligations.AppointmentCheckFiresEachDueEntryOnce := by
  intro s hs hr hp
  have fuel : (dueEntries s.cal.time s.cal.appointments).length ≤ s.cal.appointments.length :=
    List.length_filter_le _ _
  obtain ⟨l, hl, ht⟩ := fireDue_fires _ s (appointmentsSound_iff.1 hs) fuel
  have checks : appointmentCheck s = fireDue s.cal.appointments.length s :=
    if_pos (by rw [hr, s.serving_iff.2 hp]; rfl)
  refine ⟨l, ?_, hl.ordered, fun x => ?_⟩
  · rw [checks, ht]
    refine congrArg (List.foldl · _ _) (funext fun t => funext fun e => ?_)
    obtain ⟨tag, due, period, link⟩ := e
    cases period <;> rfl
  · rw [hl.mem]
    simp only [Appointment.renewed_iff]
    constructor
    · rintro (⟨hx, hd⟩ | ⟨e, he, hd, hx | hx⟩)
      · exact ⟨x, hx, .inl ⟨hd, rfl⟩⟩
      · exact ⟨e, he, .inr (.inl ⟨hd, hx⟩)⟩
      · exact ⟨e, he, .inr (.inr ⟨hd, hx⟩)⟩
    · rintro ⟨e, he, ⟨hd, rfl⟩ | ⟨hd, hx⟩ | ⟨hd, hx⟩⟩
      · exact .inl ⟨he, hd⟩
      · exact .inr ⟨e, he, hd, .inl hx⟩
      · exact .inr ⟨e, he, hd, .inr hx⟩

end Sys2Proof.Machine
end

section
/-! SUPPORT. The Calendar's game days, requests and second steps, each as its rule spells it (R32, R33, R35,
R38, R40 to R42, R44, R46 to R48, R50). -/

namespace Sys2Proof.Machine

/-! ### Game days (R38, R39) -/

/-- The division of integers that the model takes is the floor of the rational quotient. -/
theorem Calendar.gameDay_eq_floor (c : Calendar) (x : Nat) :
    c.gameDay x = ⌊((x : ℚ) + 900 * c.zone - 3600 * c.hour) / 86400⌋ := by
  have whole : ((x : ℚ) + 900 * c.zone - 3600 * c.hour) / 86400 =
      (((x : Int) + 900 * c.zone - 3600 * c.hour : Int) : ℚ) / (86400 : Nat) := by
    push_cast
    rfl
  rw [whole, Rat.floor_intCast_div_natCast]
  rfl

theorem Calendar.gameDay_range {c : Calendar} {x : Nat} (hx : x ≤ 3155759999) (hz : -48 ≤ c.zone)
    (hz' : c.zone ≤ 56) (hh : c.hour ≤ 23) : -2 ≤ c.gameDay x ∧ c.gameDay x ≤ 36525 := by
  unfold gameDay
  omega

theorem Calendar.today_running {c : Calendar} (h : c.running = true) :
    c.today = some (c.gameDay c.time) := if_pos h

theorem Calendar.today_unset {c : Calendar} (h : c.running = false) : c.today = none :=
  if_neg (by rw [h]; exact Bool.false_ne_true)

theorem Calendar.elapsed_unset {c : Calendar} (h : c.running = false) (x : Option Nat) :
    c.elapsed x = (none, false) := by
  cases x with
  | none => rfl
  | some x => exact if_neg (by rw [h]; exact Bool.false_ne_true)

theorem Calendar.elapsed_running {c : Calendar} (h : c.running = true) (x : Nat) :
    c.elapsed (some x) = (some (c.gameDay c.time - c.gameDay x).toNat,
      decide (c.gameDay c.time < c.gameDay x)) := by
  have ahead : c.gameDay c.time - c.gameDay x < 0 ↔ c.gameDay c.time < c.gameDay x := by omega
  rw [← decide_eq_decide.2 ahead]
  exact if_pos h

/-! ### The day-turn check (R44) -/

section
variable {s : State}

/-- Outside ACTIVE and DOZE no day turn is looked for. -/
theorem dayTurnCheck_idle (h : s.serving = false) : dayTurnCheck s = s :=
  if_neg (by simp [h])

theorem dayTurnCheck_same (h : s.cal.lastDay = some (s.cal.gameDay s.cal.time)) :
    dayTurnCheck s = s := if_neg (by simp [h])

theorem dayTurnCheck_turned (hr : s.cal.running = true) (hs : s.serving = true)
    (h : s.cal.lastDay ≠ some (s.cal.gameDay s.cal.time)) : dayTurnCheck s =
      raiseNotice (.dayTurn (s.cal.gameDay s.cal.time) (s.cal.localDate s.cal.time)
        (s.cal.weekday s.cal.time))
        (s.withCal { s.cal with lastDay := some (s.cal.gameDay s.cal.time) }) :=
  if_pos (by simp [hr, hs, h])

theorem dayTurnCheck_lastDay (hr : s.cal.running = true) (hs : s.serving = true) :
    (dayTurnCheck s).cal.lastDay = some (s.cal.gameDay s.cal.time) := by
  by_cases h : s.cal.lastDay = some (s.cal.gameDay s.cal.time)
  · rw [dayTurnCheck_same h, h]
  · rw [dayTurnCheck_turned hr hs h, raiseNotice_cal]
    rfl

theorem appointmentCheck_idle (h : s.serving = false) : appointmentCheck s = s :=
  if_neg (by simp [h])
end

/-- Settles O23, by the floor and the reading of each user of the game day. -/
theorem gameDayIsTheFloorAndInRange : Obligations.GameDayIsTheFloorAndInRange := by
  intro c
  refine ⟨c.gameDay_eq_floor, fun x hx hz hz' hh => Calendar.gameDay_range hx hz hz' hh,
    fun hz hh => ?_, fun hz hh => ?_, fun h => ?_, fun h => ?_, fun _ _ _ => rfl, fun s hs hr hv => ?_⟩
  · rw [Calendar.gameDay, hz, hh]
    rfl
  · rw [Calendar.gameDay, hz, hh]
    rfl
  · exact ⟨Calendar.today_unset h, Calendar.today_unset h, Calendar.elapsed_unset h,
      fun _ _ => Calendar.today_unset h⟩
  · exact ⟨Calendar.today_running h, Calendar.today_running h, Calendar.elapsed_running h,
      fun _ _ => Calendar.today_running h⟩
  · subst hs
    exact dayTurnCheck_lastDay hr hv

/-! ### A heard request of the Calendar and its service -/

section
variable {a : Ask} {s : State}

theorem exec_clockAccept (h : Heard s a .clockAccept) :
    exec (.clockAccept a) s = .next (serveClockAccept a s) := exec_heard (e := ⟨a, .clockAccept⟩) rfl h

theorem exec_clockSet (h : Heard s a .clockSet) (time : Nat) (zone : Option Int) (hour : Option Nat) :
    exec (.clockSet a time zone hour) s = .next (serveClockSet a time zone hour s) :=
  exec_heard (e := ⟨a, .clockSet time zone hour⟩) rfl h

theorem exec_clockTrim (h : Heard s a .clockTrim) (trim : Int) :
    exec (.clockTrim a trim) s = .next (serveClockTrim a trim s) :=
  exec_heard (e := ⟨a, .clockTrim trim⟩) rfl h

theorem exec_appointSet (h : Heard s a .appointSet) (tag due period : Nat) (link : Option Nat) :
    exec (.appointSet a tag due period link) s = .next (serveAppointSet a tag due period link s) :=
  exec_heard (e := ⟨a, .appointSet tag due period link⟩) rfl h

theorem exec_appointClear (h : Heard s a .appointClear) (tag : Nat) :
    exec (.appointClear a tag) s = .next (serveAppointClear a tag s) :=
  exec_heard (e := ⟨a, .appointClear tag⟩) rfl h
end

/-! ### CLOCK_ACCEPT, CLOCK_SET and CLOCK_TRIM (R35, R41, R42) -/

theorem serveClockAccept_unset (a : Ask) {s : State} (h : s.cal.running = false) :
    serveClockAccept a s = reply a .clockAccept .unset .none s :=
  if_neg (by rw [h]; exact Bool.false_ne_true)

theorem serveClockAccept_running (a : Ask) {s : State} (h : s.cal.running = true) :
    serveClockAccept a s = reply a .clockAccept .done (.clockAccepted s.cal.time s.cal.time)
      { s with cal := { s.cal with rewound := false, rewind := 0, mark := s.cal.time } } :=
  if_pos h

/-- Without a rewind T stands at W, and CLOCK_ACCEPT finds nothing to change (R42). -/
theorem CalendarSound.accepted {c : Calendar} (h : CalendarSound c) (hr : c.rewound = false) :
    { c with rewound := false, rewind := 0, mark := c.time } = c := by
  obtain ⟨-, -, hle, hrew, hrw, -⟩ := h
  have hmark : c.mark = c.time := by
    refine le_antisymm (not_lt.1 fun hlt => ?_) hle
    rw [hrew hlt] at hr
    cases hr
  obtain ⟨⟩ := c
  cases hr
  cases hmark
  cases hrw rfl
  rfl

/-- Settles O24, by CLOCK_ACCEPT's two answers. -/
theorem clockAcceptEndsTheRewind : Obligations.ClockAcceptEndsTheRewind := by
  intro a s h
  rw [exec_clockAccept h]
  refine ⟨fun hr => ?_, fun hr => ?_, fun hr hc hw => ?_⟩
  · rw [serveClockAccept_unset a hr]
  · rw [serveClockAccept_running a hr]
  · have same := hc.accepted hw
    rw [serveClockAccept_running a hr, same, show s.cal.mark = s.cal.time by rw [← same]]

theorem clockSetOk_iff {time : Nat} {zone : Option Int} {hour : Option Nat} :
    clockSetOk time zone hour = true ↔ time ≤ 3155759999 ∧
      (∀ z, zone = some z → -48 ≤ z ∧ z ≤ 56) ∧ ∀ h, hour = some h → h ≤ 23 := by
  simp only [clockSetOk, Bool.and_eq_true, decide_eq_true_eq, and_assoc]
  refine and_congr Iff.rfl (and_congr ?_ ?_)
  · cases zone <;> simp
  · cases hour <;> simp

/-- The appointment check changes the Calendar's list alone. -/
theorem appointmentCheck_cal (s : State) : (appointmentCheck s).cal =
    { s.cal with appointments := (appointmentCheck s).cal.appointments } := by
  have fired (n : Nat) : ∀ s : State,
      (fireDue n s).cal = { s.cal with appointments := (fireDue n s).cal.appointments } := by
    induction n with
    | zero => exact fun _ => rfl
    | succ n ih =>
      intro s
      unfold fireDue
      split
      · rfl
      · split
        · rw [ih, raiseNotice_cal]
          rfl
        · rfl
  unfold appointmentCheck
  split
  · exact fired _ s
  · rfl

/-- The report of an accepted CLOCK_SET reads nothing that the appointment check changes (R41, R50). -/
theorem serveClockSet_ok (a : Ask) {time : Nat} {zone : Option Int} {hour : Option Nat} (s : State)
    (h : clockSetOk time zone hour = true) : serveClockSet a time zone hour s =
      reply a .clockSet .done (.clockSet time (s.cal.set time zone hour).mark
        (s.cal.set time zone hour).rewound (s.cal.set time zone hour).rewind
        ((s.cal.set time zone hour).gameDay time))
        (appointmentCheck (s.withCal (s.cal.set time zone hour))) := by
  rw [serveClockSet, if_pos h]
  dsimp only
  rw [appointmentCheck_cal]
  rfl

theorem serveClockSet_refused (a : Ask) {time : Nat} {zone : Option Int} {hour : Option Nat}
    (s : State) (h : clockSetOk time zone hour = false) :
    serveClockSet a time zone hour s = reply a .clockSet .badArg .none s :=
  if_neg (by rw [h]; exact Bool.false_ne_true)

/-- Settles O25, by CLOCK_SET's two answers and CLOCK_TRIM's clamp. -/
theorem clockSetAndTrimAct : Obligations.ClockSetAndTrimAct := by
  intro a s
  refine ⟨fun time zone hour h ht hz hh => ?_, fun time zone hour h hbad => ?_, fun trim h => ?_⟩
  · rw [exec_clockSet h, serveClockSet_ok a s (clockSetOk_iff.2 ⟨ht, hz, hh⟩)]
    rfl
  · have bad : clockSetOk time zone hour = false := by
      rw [← Bool.not_eq_true, clockSetOk_iff]
      rintro ⟨ht, hz, hh⟩
      rcases hbad with hbad | ⟨z, hzone, hbad⟩ | ⟨i, hhour, hbad⟩
      · omega
      · have := hz z hzone
        omega
      · have := hh i hhour
        omega
    rw [exec_clockSet h, serveClockSet_refused a s bad]
  · rw [exec_clockTrim h]
    rfl

/-! ### APPOINT_SET and APPOINT_CLEAR (R46 to R48) -/

theorem repeatOf_beyond {n : Nat} (h : 3 ≤ n) : repeatOf n = none := by
  obtain ⟨k, rfl⟩ := Nat.exists_eq_add_of_le' h
  rfl

theorem repeatOf_lt {n : Nat} (h : n < 3) :
    repeatOf n = some (if n = 0 then .none else if n = 1 then .daily else .weekly) := by
  obtain rfl | rfl | rfl : n = 0 ∨ n = 1 ∨ n = 2 := by omega
  all_goals rfl

theorem link_beyond_iff {link : Option Nat} : 8 ≤ link.getD 0 ↔ ∃ k, link = some k ∧ 8 ≤ k := by
  cases link <;> simp

theorem linkEmpty_iff {s : State} {link : Option Nat} : linkEmpty s link = true ↔
    ∃ k, link = some k ∧ (s.ss.slot k).state = .empty := by
  cases link <;> simp [linkEmpty]

/-- Settles O26: each check of APPOINT_SET is the rule's, and the entry stands behind the earlier ones
(`placeAppointment_eq`). -/
theorem appointSetChecksInOrder : Obligations.AppointSetChecksInOrder := by
  intro a tag due period link s h others
  rw [exec_appointSet h]
  refine congrArg _ ?_
  unfold serveAppointSet
  by_cases hp : 3 ≤ period
  · rw [repeatOf_beyond hp, if_pos (.inr (.inl hp))]
  · rw [repeatOf_lt (not_le.1 hp)]
    dsimp only
    rw [placeAppointment_length, placeAppointment_eq]
    refine if_congr ?_ rfl (if_congr ?_ rfl (if_congr linkEmpty_iff rfl (if_congr Iff.rfl rfl rfl)))
    · rw [link_beyond_iff]
      simp only [hp, false_or]
      rfl
    · rw [Bool.not_eq_true]

/-- Settles O27, by APPOINT_CLEAR's three answers. -/
theorem appointClearRemovesEntries : Obligations.AppointClearRemovesEntries := by
  intro a s h
  have run := exec_appointClear h
  have any (tag : Nat) : (s.cal.appointments.any fun e => e.tag == tag) = true ↔
      ∃ e ∈ s.cal.appointments, e.tag = tag := by simp
  refine ⟨fun tag ht he => ?_, fun tag ht he => ?_, run 255, fun hc hr => ?_⟩
  · rw [run, serveAppointClear, if_neg (not_le.2 ht), if_pos ((any tag).2 he)]
    rfl
  · rw [run, serveAppointClear, if_neg (not_le.2 ht), if_neg]
    rw [any]
    rintro ⟨e, hm, hk⟩
    exact he e hm hk
  · obtain ⟨-, -, -, -, -, -, hrun, -⟩ := hc
    obtain ⟨-, -, -, empty⟩ := hrun hr
    exact empty

/-! ### Crystal counts and second steps (R32, R33, R40, R44, R50) -/

/-- The last count of the present second is due (R32). -/
theorem Calendar.secondDue_iff (c : Calendar) : c.secondDue = true ↔
    (if c.time % 60 = 59 then 32768 + c.trimUse else 32768 : Int) ≤ c.prescaler + 1 := by
  rw [secondDue, decide_eq_true_eq, secondLength, Config.secondCounts]
  split <;> omega

theorem Calendar.stepped_eq (c : Calendar) : c.stepped = { c with
    time := c.time + 1, prescaler := 0
    trimUse := if (c.time + 1) % 60 = 0 then c.trimRequested else c.trimUse
    mark := max c.mark (c.time + 1)
    ended := decide (3155759999 ≤ c.time + 1) } := by
  rw [max_def]
  rfl

theorem exec_secondStep : ∀ s, exec .secondStep s = .next (secondStep s) := by
  intros
  rfl

section
variable {s : State}

/-- A count that is not its second's last raises the prescaler. -/
theorem crystalCount_early (hr : s.cal.running = true) (he : s.cal.ended = false)
    (hd : s.cal.secondDue = false) : crystalCount s =
      (samplerCount s).withCal { s.cal with prescaler := s.cal.prescaler + 1 } := by
  rw [crystalCount, prescalerCount, samplerCount_cal, if_pos (by rw [hr, he]; rfl), hd]
  rfl

/-- While UNSET and at the maximum the crystal counts for the sampler alone (R33). -/
theorem crystalCount_stopped (h : ¬ (s.cal.running = true ∧ s.cal.ended = false)) :
    crystalCount s = samplerCount s := by
  refine if_neg fun hc => h ?_
  simpa using hc

/-- The last count is the second step. -/
theorem crystalCount_last (hr : s.cal.running = true) (he : s.cal.ended = false)
    (hd : s.cal.secondDue = true) : crystalCount s =
      appointmentCheck (dayTurnCheck ((samplerCount s).withCal s.cal.stepped)) := by
  have counting : (s.cal.running && !s.cal.ended) = true := by rw [hr, he]; rfl
  rw [crystalCount, prescalerCount, samplerCount_cal, if_pos counting, if_pos hd, calendarStep,
    samplerCount_cal, if_pos counting]

theorem secondStep_last (hr : s.cal.running = true) (he : s.cal.ended = false)
    (hd : s.cal.secondDue = true) : secondStep s = crystalCount s :=
  if_pos (by rw [hr, he, hd]; rfl)

theorem secondStep_stopped (h : ¬ (s.cal.running = true ∧ s.cal.ended = false)) :
    secondStep s = s := by
  refine if_neg fun hc => h ?_
  simp only [Bool.and_eq_true, Bool.not_eq_true'] at hc
  exact hc.1
end

/-- Settles O28: the counts of a second one by one, and the checks that follow its last. -/
theorem secondStepCountsAndChecks : Obligations.SecondStepCountsAndChecks := by
  intro s length counts last most u t c turned
  have due : s.cal.secondDue = true ↔ last := s.cal.secondDue_iff
  have stepped : (samplerCount s).withCal s.cal.stepped = { u with cal := c } := by
    rw [Calendar.stepped_eq]
    rfl
  have brought : counts → last → exec .secondStep s = .next (crystalCount s) :=
    fun hc hl => by rw [exec_secondStep, secondStep_last hc.1 hc.2 (due.2 hl)]
  have checked : counts → last → exec .secondStep s =
      .next (appointmentCheck (dayTurnCheck { u with cal := c })) := fun hc hl => by
    rw [brought hc hl, crystalCount_last hc.1 hc.2 (due.2 hl), stepped]
  have running : counts → c.running = true := fun hc => hc.1
  refine ⟨fun hc hl => ?_, fun hc => ?_, brought, fun hc hl hp => ?_, fun hc hl hp hd => ?_,
    fun hc hl hp hd => ?_⟩
  · have early : s.cal.secondDue = false := by rw [← Bool.not_eq_true, due]; exact hl
    rw [crystalCount_early hc.1 hc.2 early, exec_secondStep, secondStep_early early]
    exact ⟨rfl, rfl⟩
  · rw [crystalCount_stopped hc, exec_secondStep, secondStep_stopped hc]
    exact ⟨rfl, rfl⟩
  · have idle : ({ u with cal := c } : State).serving = false := by
      rcases hp with hp | hp <;> simp [State.serving, u, hp]
    rw [checked hc hl, dayTurnCheck_idle idle, appointmentCheck_idle idle]
  · rw [checked hc hl, dayTurnCheck_same hd]
  · have serving : ({ u with cal := c } : State).serving = true :=
      ({ u with cal := c } : State).serving_iff.2 hp
    rw [checked hc hl, dayTurnCheck_turned (s := { u with cal := c }) (running hc) serving hd]
    rfl

end Sys2Proof.Machine
end

section
/-! SUPPORT. The entry to ACTIVE that ends a start: its recomputation hands caps and decides nothing, and
its posts stand in the order in which they are handed (R45, R157, R167, R177, R192, R202). -/

namespace Sys2Proof.Machine

/-! ### The recomputation at the least claim (R148 to R150, R157) -/

/-- The claim record as the entry to ACTIVE has it: the least claim announced, no raise, and the listen
period begun (R157). -/
def Listening (s : State) : Prop :=
  s.bu.announced = some (leastClaim s.settings) ∧ s.bu.raise = none ∧ s.bu.listenEnd.isSome = true

/-- At the least claim there is nothing to lower, and in the listen period no raise begins. -/
theorem decideClaim_listening {s : State} (h : Listening s) : decideClaim s = s := by
  obtain ⟨hann, hraise, hlisten⟩ := h
  have least : ¬ lowerClaim s + 4 ≤ leastClaim s.settings := by
    unfold lowerClaim wantedClaim
    omega
  unfold decideClaim
  simp only [hann, hraise, hlisten, if_true]
  split
  · rfl
  · split
    · rfl
    · exact if_neg fun h => least h.1

/-- `t` differs from `s` in the caps and the gain and duty in use. -/
def HandsCaps (s t : State) : Prop :=
  t = { s with
    se := { s.se with gEff := t.se.gEff, gCeiling := t.se.gCeiling }
    rd := { s.rd with dBudget := t.rd.dBudget, dEff := t.rd.dEff } }

theorem HandsCaps.trans {s t u : State} (h : HandsCaps s t) (k : HandsCaps t u) : HandsCaps s u := by
  unfold HandsCaps at *
  rw [k, h]

section
variable {s t : State} (h : HandsCaps s t)
include h
theorem HandsCaps.bu : t.bu = s.bu := (congrArg State.bu h).trans rfl
theorem HandsCaps.settings : t.settings = s.settings := (congrArg State.settings h).trans rfl
theorem HandsCaps.lif : t.lif = s.lif := (congrArg State.lif h).trans rfl
theorem HandsCaps.nu : t.nu = s.nu := (congrArg State.nu h).trans rfl
theorem HandsCaps.ps : t.ps = s.ps := (congrArg State.ps h).trans rfl
theorem HandsCaps.ss : t.ss = s.ss := (congrArg State.ss h).trans rfl

theorem HandsCaps.listening (hs : Listening s) : Listening t := by
  unfold Listening
  rwa [h.bu, h.settings]
end

/-- The caps share nothing (R146, R147). -/
structure Withheld (s : State) : Prop where
  gCeiling : s.se.gCeiling = ceilingFor s.settings 0
  gEff : s.se.gEff ≤ s.se.gCeiling
  dBudget : s.rd.dBudget = 0
  dEff : s.rd.dEff = 0

theorem effectiveDuty_le (st : Settings) (p : PowerState) (r : Rumble) :
    effectiveDuty st p r ≤ r.dBudget := by
  unfold effectiveDuty
  split
  · split <;> omega
  · exact Nat.zero_le _

/-- While the claim-age guard holds nothing is shared (R145 to R147, R156). -/
theorem handCaps_holding {s : State} (h : s.bu.holding = true) : Withheld (handCaps s) := by
  have base : grantBase s = 0 := if_pos (.inr h)
  have share : soundShare s = 0 := by
    rw [soundShare, base]
    omega
  have ceiling : gainCeiling s = ceilingFor s.settings 0 := by rw [gainCeiling, share]
  have motor : motorShare s = 0 := by
    rw [motorShare, base]
    omega
  have cap : dutyCap s = 0 := by
    rw [dutyCap, motor, Nat.zero_mul, Nat.zero_div, Nat.min_zero]
  rw [handCaps, cap, ceiling]
  exact ⟨rfl, min_le_right _ _, rfl, Nat.le_zero.1 (effectiveDuty_le _ _ _)⟩

/-- The recomputation of a start hands caps and nothing else, and caps of 0 while the guard holds. -/
theorem recomputeAtStart_listening {s : State} (hs : Listening s) :
    HandsCaps s (recomputeAtStart s) ∧ (s.bu.holding = true → Withheld (recomputeAtStart s)) := by
  have pass {s : State} (hs : Listening s) : recomputeOnceAtStart s = handCaps s :=
    decideClaim_listening (HandsCaps.listening (t := handCaps s) rfl hs)
  have up : ∀ n, ∀ s : State, Listening s →
      HandsCaps s (recomputeUpTo recomputeOnceAtStart (n + 1) s) ∧
        (s.bu.holding = true → Withheld (recomputeUpTo recomputeOnceAtStart (n + 1) s)) := by
    intro n
    induction n with
    | zero =>
      intro s hs
      have once : recomputeUpTo recomputeOnceAtStart 1 s = handCaps s := by
        rw [recomputeUpTo, pass hs]
        exact ite_self _
      rw [once]
      exact ⟨rfl, handCaps_holding⟩
    | succ n ih =>
      intro s hs
      have handed : HandsCaps s (handCaps s) := rfl
      obtain ⟨caps, held⟩ := ih _ (handed.listening hs)
      rw [recomputeUpTo, pass hs]
      split
      · exact ⟨handed, handCaps_holding⟩
      · exact ⟨handed.trans caps, held⟩
  exact up 7 s hs

/-! ### A post behind all others (R186, R195) -/

theorem handPost_other {p : TxPost} (hc : p.isClaim = false) (s : State) :
    handPost p s = joinQueue placePost p s := by
  rw [handPost, hc, Bool.false_and, if_neg Bool.false_ne_true]

theorem placePost_behind {p : TxPost} {q : List TxPost} (h : ∀ x ∈ q, x.header ≤ p.header) :
    placePost p q = q ++ [p] := by
  induction q with
  | nil => rfl
  | cons x rest ih =>
    obtain ⟨hx, hrest⟩ := List.forall_mem_cons.1 h
    rw [placePost, if_neg (not_lt.2 hx), ih hrest]
    rfl

/-- A post that ranks behind all others joins at the end of a queue that is not full. -/
theorem handPost_behind {p : TxPost} {s : State} (hc : p.isClaim = false)
    (hl : s.lif.queue.length < 8) (h : ∀ x ∈ s.lif.queue, x.header ≤ p.header) :
    handPost p s = s.withLif { s.lif with queue := s.lif.queue ++ [p] } := by
  rw [handPost_other hc, joinQueue, Config.queuePlaces, if_pos hl, placePost_behind h]

/-- It is lost where the queue is full. -/
theorem handPost_lost {p : TxPost} {s : State} (hc : p.isClaim = false)
    (hl : 8 ≤ s.lif.queue.length) (h : ∀ x ∈ s.lif.queue, x.header ≤ p.header) :
    (handPost p s).lif.queue = s.lif.queue := by
  rw [handPost_other hc, joinQueue, Config.queuePlaces, if_neg (not_lt.2 hl)]
  split
  · next last hlast =>
    rw [if_neg (not_lt.2 (h last (List.mem_of_getLast? hlast)))]
    rfl
  · rfl

theorem handPost_pendingFlags (p : TxPost) (s : State) :
    (handPost p s).nu.pendingFlags = s.nu.pendingFlags := by
  unfold handPost joinQueue
  repeat' split
  all_goals rfl

/-- The NOTICE post that ACTIVE forms to the notice station (R193, R195). -/
def State.noticePost (s : State) (n : Notice) : TxPost :=
  ⟨2, s.lif.own, s.settings.noticeStation, .notice n⟩

/-- No post of the queue ranks behind the part's notices. -/
def NoticesLast (s : State) : Prop :=
  ∀ x ∈ s.lif.queue, x.header ≤ headerValue 2 Kind.notice.code s.lif.own s.settings.noticeStation

section
variable {s : State} (n : Notice)

theorem raiseNotice_pendingFlags (i : Nat) : (raiseNotice n s).nu.pendingFlags.getLsbD i =
    (s.nu.pendingFlags.getLsbD i || decide (i < 12 ∧ i = n.kind.number)) := by
  have flagged : (raiseNotice n s).nu.pendingFlags =
      s.nu.pendingFlags ||| BitVec.ofNat 12 (2 ^ n.kind.number) := by
    rw [raiseNotice_eq, formNotice]
    split
    · exact handPost_pendingFlags _ _
    · rfl
  rw [flagged, BitVec.getLsbD_or, BitVec.getLsbD_ofNat, Nat.testBit_two_pow, Bool.decide_and]
  simp only [eq_comm]

theorem noticePost_header : (s.noticePost n).header =
    headerValue 2 Kind.notice.code s.lif.own s.settings.noticeStation := rfl

theorem NoticesLast.behind (hq : NoticesLast s) :
    ∀ x ∈ s.lif.queue, x.header ≤ (s.noticePost n).header := by
  rw [noticePost_header]
  exact hq

theorem raiseNotice_enabled (hp : s.ps.state = .active) (hm : s.nu.mask.getLsbD n.kind.number = true) :
    raiseNotice n s = handPost (s.noticePost n) (flagNotice n s) := by
  have serving : (flagNotice n s).serving = true := s.serving_iff.2 (.inl hp)
  have priority : noticePriority (flagNotice n s).ps.state = 2 := if_pos hp
  rw [raiseNotice_eq, formNotice_enabled _ serving hm, priority]
  rfl

theorem raiseNotice_masked (hm : s.nu.mask.getLsbD n.kind.number = false) :
    raiseNotice n s = flagNotice n s := by
  have masked : (flagNotice n s).nu.mask.getLsbD n.kind.number = false := hm
  rw [raiseNotice_eq, formNotice, masked, Bool.and_false, if_neg Bool.false_ne_true]

/-- In ACTIVE an enabled notice joins behind notices, in a queue that is not full. -/
theorem raiseNotice_joins (hp : s.ps.state = .active) (hq : NoticesLast s)
    (hm : s.nu.mask.getLsbD n.kind.number = true) (hl : s.lif.queue.length < 8) :
    (raiseNotice n s).lif.queue = s.lif.queue ++ [s.noticePost n] := by
  rw [raiseNotice_enabled n hp hm, handPost_behind (s := flagNotice n s) rfl hl (hq.behind n)]
  rfl

/-- In ACTIVE a notice leaves the queue or joins behind it. -/
theorem raiseNotice_queue (hp : s.ps.state = .active) (hq : NoticesLast s) :
    (raiseNotice n s).lif.queue = s.lif.queue ∨
      (raiseNotice n s).lif.queue = s.lif.queue ++ [s.noticePost n] := by
  by_cases hm : s.nu.mask.getLsbD n.kind.number = true
  · by_cases hl : s.lif.queue.length < 8
    · exact .inr (raiseNotice_joins n hp hq hm hl)
    · rw [raiseNotice_enabled n hp hm]
      exact .inl (handPost_lost rfl (not_lt.1 hl) (hq.behind n))
  · rw [raiseNotice_masked n (Bool.not_eq_true _ ▸ hm)]
    exact .inl rfl

theorem raiseNotice_noticesLast (hp : s.ps.state = .active) (hq : NoticesLast s) :
    NoticesLast (raiseNotice n s) := by
  unfold NoticesLast
  rw [raiseNotice_settings, raiseNotice_lif_own]
  rcases raiseNotice_queue n hp hq with h | h <;> rw [h]
  · exact hq
  · intro x hx
    rcases List.mem_append.1 hx with hx | hx
    · exact hq x hx
    · rw [List.mem_singleton.1 hx]
      exact le_rfl
end

/-! ### The appointment check behind the greeting (R50) -/

/-- What holds of every state between the firings holds after them. -/
theorem appointmentCheck_keeps {P : State → Prop} (hc : ∀ s c, P s → P (s.withCal c))
    (hn : ∀ s tag missed, P s → P (raiseNotice (.appointment tag missed) s)) {s : State} (h : P s) :
    P (appointmentCheck s) := by
  have fired (n : Nat) : ∀ s, P s → P (fireDue n s) := by
    induction n with
    | zero => exact fun _ h => h
    | succ n ih =>
      intro s h
      unfold fireDue
      split
      · exact h
      · split
        · exact ih _ (hn _ _ _ (hc _ _ h))
        · exact h
  unfold appointmentCheck
  split
  · exact fired _ s h
  · exact h

/-- `t` is `u` with APPOINTMENT notices behind its posts. -/
structure Reminds (u t : State) : Prop where
  active : t.ps.state = .active
  last : NoticesLast t
  queue : ∃ l, t.lif.queue = u.lif.queue ++ l ∧
    ∀ p ∈ l, ∃ tag missed, p.body = .notice (.appointment tag missed)
  flags : ∀ i ≠ 2, t.nu.pendingFlags.getLsbD i = u.nu.pendingFlags.getLsbD i

theorem Reminds.raise {u t : State} (h : Reminds u t) (tag missed : Nat) :
    Reminds u (raiseNotice (.appointment tag missed) t) where
  active := by rw [raiseNotice_ps, h.active]
  last := raiseNotice_noticesLast _ h.active h.last
  queue := by
    obtain ⟨l, hl, hb⟩ := h.queue
    rcases raiseNotice_queue (.appointment tag missed) h.active h.last with hq | hq
    · exact ⟨l, hq.trans hl, hb⟩
    · refine ⟨l ++ [t.noticePost (.appointment tag missed)], ?_, fun p hp => ?_⟩
      · rw [hq, hl, List.append_assoc]
      · rcases List.mem_append.1 hp with hp | hp
        · exact hb p hp
        · exact ⟨tag, missed, congrArg TxPost.body (List.mem_singleton.1 hp)⟩
  flags i hi := by
    rw [raiseNotice_pendingFlags, h.flags i hi, decide_eq_false fun h => hi h.2, Bool.or_false]

theorem appointmentCheck_reminds {u : State} (hp : u.ps.state = .active) (hq : NoticesLast u) :
    Reminds u (appointmentCheck u) :=
  appointmentCheck_keeps (P := Reminds u)
    (fun _ _ ⟨active, last, queue, flags⟩ => ⟨active, last, queue, flags⟩)
    (fun _ tag missed h => h.raise tag missed)
    ⟨hp, hq, ⟨[], (List.append_nil _).symm, by simp⟩, fun _ _ => rfl⟩

/-! ### The greeting (R157, R192, R202) -/

/-- The least claim announced on an empty queue, and the listen period begun (R157). -/
def leastClaimed (s : State) : State :=
  { s with
    lif := { s.lif with queue := [⟨1, s.lif.own, 15, .claim (leastClaim s.settings)⟩] }
    bu := { s.bu with
      announced := some (leastClaim s.settings), released := leastClaim s.settings
      handedAt := some s.now, listenEnd := some (s.now + 629146) } }

theorem budgetActive_eq {s : State} (h : s.lif.queue = []) :
    budgetActive s = recomputeAtStart (leastClaimed s) := by
  unfold budgetActive announce handPost joinQueue
  simp only [h, State.withBu_lif, List.any_nil, Bool.and_false]
  rfl

theorem budgetActive_listening {s : State} (hq : s.lif.queue = []) (hr : s.bu.raise = none) :
    HandsCaps (leastClaimed s) (budgetActive s) ∧
      (s.bu.holding = true → Withheld (budgetActive s)) := by
  rw [budgetActive_eq hq]
  exact recomputeAtStart_listening ⟨rfl, hr, rfl⟩

/-- The posts of the greeting: the CLAIM and HELLO behind it (R157, R202). -/
def greeting (s : State) : List TxPost :=
  [⟨1, s.lif.own, 15, .claim (leastClaim s.settings)⟩,
    ⟨2, s.lif.own, 15, .hello s.lif.own s.ps.startKind s.ss.liveSlots⟩]

/-- What the greeting leaves: the least claim, its two posts, and no share while the guard holds. -/
structure Greeted (s g : State) : Prop where
  ps : g.ps = { s.ps with state := .active }
  cal : g.cal = s.cal
  bu : g.bu = (leastClaimed s).bu
  queue : g.lif.queue = greeting s
  own : g.lif.own = s.lif.own
  settings : g.settings = s.settings
  nu : g.nu = s.nu
  withheld : s.bu.holding = true → Withheld g

theorem greeted_spec {s : State} (hq : s.lif.queue = []) (hr : s.bu.raise = none) :
    Greeted s (greeted s) := by
  obtain ⟨caps, held⟩ := budgetActive_listening (s := s.withPs { s.ps with state := .active }) hq hr
  unfold greeted sendHello
  generalize budgetActive (s.withPs { s.ps with state := .active }) = b at caps held
  have queue : b.lif.queue = [⟨1, s.lif.own, 15, .claim (leastClaim s.settings)⟩] := by
    rw [caps.lif]
    rfl
  have hello : b.post 2 Config.allStations (.hello b.lif.own b.ps.startKind b.ss.liveSlots) =
      ⟨2, s.lif.own, 15, .hello s.lif.own s.ps.startKind s.ss.liveSlots⟩ := by
    rw [State.post, caps.lif, caps.ps, caps.ss]
    rfl
  rw [hello, handPost_behind rfl (by simp [queue]) ?behind]
  case behind =>
    rw [queue]
    refine List.forall_mem_singleton.2 ?_
    show headerValue 1 4 s.lif.own 15 ≤ headerValue 2 8 s.lif.own 15
    unfold headerValue
    omega
  exact
    { ps := caps.ps
      cal := (congrArg State.cal caps).trans rfl
      bu := caps.bu
      queue := by rw [State.withLif_lif, queue]; rfl
      own := (congrArg LineIf.own caps.lif :)
      settings := caps.settings
      nu := caps.nu
      withheld := fun h => have ⟨c, e, d, f⟩ := held h; ⟨c, e, d, f⟩ }

theorem Greeted.noticesLast {s g : State} (h : Greeted s g) : NoticesLast g := by
  unfold NoticesLast
  rw [h.queue, h.own]
  refine List.forall_mem_cons.2 ⟨?_, List.forall_mem_singleton.2 ?_⟩
  · show headerValue 1 4 s.lif.own 15 ≤ headerValue 2 9 s.lif.own _
    unfold headerValue
    omega
  · show headerValue 2 8 s.lif.own 15 ≤ headerValue 2 9 s.lif.own _
    unfold headerValue
    omega

/-! ### RESUME (R45, R177) -/

/-- The report that RESUME carries at the entry to ACTIVE (R45, R177). -/
def startReport (s : State) : ResumeReport where
  kind := s.ps.startKind
  settingsValid := s.ps.settingsValid
  record := s.ps.record
  batteryLowSeen := s.ps.lowSeen
  cell := s.ps.cell
  dayTurns := s.cal.dayTurns
  freed := s.ps.freed
  damaged := s.ps.damaged

/-- The part right before RESUME is raised: the Calendar's share of the entry is done, and the record and
battery-low-seen are clear (R45, R177). -/
def readied (g : State) : State :=
  (calendarActive g).withPs { (calendarActive g).ps with record := none, lowSeen := false }

section
variable (g : State)
theorem readied_lif : (readied g).lif = g.lif := rfl
theorem readied_settings : (readied g).settings = g.settings := rfl
theorem readied_nu : (readied g).nu = g.nu := rfl
theorem readied_power : (readied g).ps.state = g.ps.state := rfl
theorem readied_cal :
    (readied g).cal = { g.cal with lastDay := g.cal.today, keepDay := none } := rfl
end

section
variable {s g : State} (h : Greeted s g)
include h

theorem Greeted.resume : raiseResume (calendarActive g) =
    raiseNotice (.resume (startReport s)) (readied g) := by
  have report : resumeReport (calendarActive g).ps = startReport s := by
    rw [calendarActive, State.withCal_ps, State.withPs_ps, h.ps, h.cal]
    rfl
  rw [← report]
  rfl

theorem Greeted.active : (readied g).ps.state = .active := by rw [readied_power, h.ps]

theorem Greeted.noticePost (n : Notice) : (readied g).noticePost n = s.noticePost n := by
  rw [State.noticePost, readied_lif, readied_settings, h.own, h.settings]
  rfl

theorem Greeted.readied_last : NoticesLast (readied g) := h.noticesLast

theorem Greeted.resume_active : (raiseResume (calendarActive g)).ps.state = .active := by
  rw [h.resume, raiseNotice_ps, h.active]

theorem Greeted.resume_last : NoticesLast (raiseResume (calendarActive g)) := by
  rw [h.resume]
  exact raiseNotice_noticesLast _ h.active h.readied_last

/-- RESUME stands behind the greeting where it is enabled. -/
theorem Greeted.resume_queue : ∃ l, (raiseResume (calendarActive g)).lif.queue = greeting s ++ l ∧
    (∀ p ∈ l, p = s.noticePost (.resume (startReport s))) ∧
    (s.nu.mask.getLsbD 0 = true → s.noticePost (.resume (startReport s)) ∈ l) := by
  have queue : (readied g).lif.queue = greeting s := h.queue
  have mask : (readied g).nu.mask = s.nu.mask := congrArg Notices.mask h.nu
  rw [h.resume]
  by_cases hm : s.nu.mask.getLsbD 0 = true
  · refine ⟨[s.noticePost (.resume (startReport s))], ?_, by simp, by simp⟩
    rw [raiseNotice_joins _ h.active h.readied_last (by rw [mask]; exact hm)
      (by rw [queue]; exact Nat.lt_of_sub_eq_succ rfl), queue, h.noticePost]
  · refine ⟨[], ?_, by simp, fun hk => absurd hk hm⟩
    rw [raiseNotice_masked _ (by rw [mask]; exact Bool.not_eq_true _ ▸ hm), List.append_nil]
    exact queue
end

section
variable {s : State} (h : Greeted s (greeted s))
include h

/-- The queue at the end of the entry to ACTIVE: the greeting, RESUME where it is enabled, and the
APPOINTMENT notices of entries that are due. -/
theorem enterActive_queue : ∃ l, (enterActive s).lif.queue = greeting s ++ l ∧
    (∀ p ∈ l, p = s.noticePost (.resume (startReport s)) ∨
      ∃ tag missed, p.body = .notice (.appointment tag missed)) ∧
    (s.nu.mask.getLsbD 0 = true → s.noticePost (.resume (startReport s)) ∈ l) := by
  obtain ⟨l, hl, resume, enabled⟩ := h.resume_queue
  obtain ⟨m, hm, reminds⟩ := (appointmentCheck_reminds h.resume_active h.resume_last).queue
  refine ⟨l ++ m, ?_, fun p hp => ?_, fun hk => List.mem_append_left m (enabled hk)⟩
  · rw [enterActive_eq, hm, hl, List.append_assoc]
  · exact (List.mem_append.1 hp).imp (resume p) (reminds p)

/-- RESUME's flag is pending, and no other but APPOINTMENT's has changed. -/
theorem enterActive_flag {i : Nat} (hi : i ≠ 2) : (enterActive s).nu.pendingFlags.getLsbD i =
    (s.nu.pendingFlags.getLsbD i || decide (i = 0)) := by
  have first : i < 12 ∧ i = (Notice.resume (startReport s)).kind.number ↔ i = 0 := by
    show i < 12 ∧ i = 0 ↔ i = 0
    omega
  rw [enterActive_eq, (appointmentCheck_reminds h.resume_active h.resume_last).flags i hi, h.resume,
    raiseNotice_pendingFlags, readied_nu, h.nu, decide_eq_decide.2 first]

theorem enterActive_cal : (enterActive s).cal = { s.cal with
    lastDay := s.cal.today, keepDay := none, appointments := (enterActive s).cal.appointments } := by
  rw [enterActive_eq, appointmentCheck_cal, h.resume, raiseNotice_cal, readied_cal, h.cal]
end

section
variable {s t : State} (h : Clocks s t)
include h
theorem Clocks.bu : t.bu = s.bu := (congrArg State.bu h).trans rfl
theorem Clocks.rd : t.rd = s.rd := (congrArg State.rd h).trans rfl
theorem Clocks.se : t.se = s.se := (congrArg State.se h).trans rfl
end

theorem raiseResume_frame (g : State) : (raiseResume (calendarActive g)).bu = g.bu ∧
    (raiseResume (calendarActive g)).rd = g.rd ∧ (raiseResume (calendarActive g)).se = g.se := by
  rw [raiseResume, raiseNotice_bu, raiseNotice_rd, raiseNotice_se]
  exact ⟨rfl, rfl, rfl⟩

/-- The entry to ACTIVE leaves the Budget Unit, the Rumble Driver and the Sound Engine as the greeting
does. -/
theorem enterActive_frame (s : State) : (enterActive s).bu = (greeted s).bu ∧
    (enterActive s).rd = (greeted s).rd ∧ (enterActive s).se = (greeted s).se := by
  have checked := appointmentCheck_clocks (raiseResume (calendarActive (greeted s)))
  rw [enterActive_eq, checked.bu, checked.rd, checked.se]
  exact raiseResume_frame _

/-- Settles O42: the recomputation hands caps alone (`greeted_spec`), and the posts keep the order in which
they are handed (`enterActive_queue`). -/
theorem entryToActiveClaimsGreetsAndReports : Obligations.EntryToActiveClaimsGreetsAndReports := by
  intro s _ hq hr least days t
  have h := greeted_spec hq hr
  obtain ⟨bu, rd, se⟩ := enterActive_frame s
  obtain ⟨l, queue, bodies, resume⟩ := enterActive_queue h
  have cal := enterActive_cal h
  refine ⟨enterActive_ps s, bu.trans h.bu, fun p hp entered a sum room hover => ?_, ?_,
    fun hold => ⟨?_, ?_, fun hpos => ⟨?_, ?_⟩⟩, by rw [cal], by rw [cal], by rw [cal], ?_, ?_,
    fun hm => ?_, ?_, enterActive_ss s⟩
  · rw [queue, greeting] at hp
    simp only [List.cons_append, List.nil_append, List.mem_cons] at hp
    rcases hp with rfl | rfl | hp
    · cases hover
    · cases hover
    · rcases bodies p hp with rfl | ⟨tag, missed, hbody⟩
      · cases hover
      · cases hbody.symm.trans hover
  · rw [enterActive_flag h (by decide), decide_eq_false (by decide), Bool.or_false]
  · exact (congrArg Rumble.dBudget rd).trans (h.withheld hold).dBudget
  · exact (congrArg Rumble.dEff rd).trans (h.withheld hold).dEff
  · rw [se, (h.withheld hold).gCeiling, h.settings, ceilingFor_zero hpos]
  · have cut := (h.withheld hold).gEff
    rw [(h.withheld hold).gCeiling, h.settings, ceilingFor_zero hpos] at cut
    rw [se, Nat.le_zero.1 cut]
  · rw [queue]; rfl
  · rw [queue]; rfl
  · rw [queue]
    exact List.mem_append_right _ (resume hm)
  · rw [enterActive_flag h (by decide), decide_eq_true rfl, Bool.or_true]

end Sys2Proof.Machine
end

section
/-! SUPPORT. The Beat Tracker and Tick Generator: what a tick leaves alone, how the ticks of an interval fill
its period, and the rules for a BEAT and for the two timers (R57 to R68). -/

namespace Sys2Proof.Machine

/-! ### What a tick leaves alone (R67, R68) -/

@[simp] theorem recomputeSince_btg (s₀ s : State) : (recomputeSince s₀ s).btg = s.btg := by
  unfold recomputeSince
  split
  · rfl
  · exact (recompute_budgets s).btg

@[simp] theorem report_btg (s : State) : (report s).btg = s.btg :=
  (recomputeSince_btg s _).trans (takeReport_rumbles s).btg

@[simp] theorem budgetFollow_btg (s₀ s : State) : (budgetFollow s₀ s).btg = s.btg := by
  unfold budgetFollow
  dsimp only
  split
  · exact (report_btg _).trans (recomputeSince_btg s₀ s)
  · exact recomputeSince_btg s₀ s

/-- The generator after one issued tick (R68). -/
def BeatGen.ticked (b : BeatGen) : BeatGen :=
  { b with tickCounter := (b.tickCounter + 1) % 4294967296 }

/-- The tick counter has risen, and the tick is not handed on yet (R67, R68). -/
def State.counted (s : State) : State := s.withBtg s.btg.ticked

section
variable {s : State}

theorem issueTick_active (h : s.ps.state = .active) : issueTick s =
    grant (budgetFollow s.counted (rumbleTick (soundTick s.counted))) := by
  simp only [issueTick, State.withBtg_ps, h]
  rfl

theorem issueTick_doze (h : s.ps.state = .doze) : issueTick s = heatTick s.counted := by
  simp only [issueTick, State.withBtg_ps, h]
  rfl

theorem issueTick_unheard (h : s.ps.state = .starting ∨ s.ps.state = .keep) :
    issueTick s = s.counted := by
  rcases h with h | h
  all_goals
    simp only [issueTick, State.withBtg_ps, h]
    rfl

end

/-- Whatever blocks take a tick, of the generator it raises the tick counter alone. -/
@[simp] theorem issueTick_btg (s : State) : (issueTick s).btg = s.btg.ticked := by
  cases h : s.ps.state with
  | active =>
    rw [issueTick_active h, grant, State.withPfu_btg, budgetFollow_btg, (rumbleTick_rumbles _).btg,
      (soundTick_sounds _).btg, State.counted, State.withBtg_btg]
  | doze => rw [issueTick_doze h, (heatTick_rumbles _).btg, State.counted, State.withBtg_btg]
  | starting => rw [issueTick_unheard (.inl h), State.counted, State.withBtg_btg]
  | keep => rw [issueTick_unheard (.inr h), State.counted, State.withBtg_btg]

/-! ### Owed ticks (R62) -/

theorem repeat_issueTick_comm (n : Nat) (s : State) :
    Nat.repeat issueTick n (issueTick s) = issueTick (Nat.repeat issueTick n s) := by
  induction n with
  | zero => rfl
  | succ n ih => exact congrArg issueTick ih

theorem catchUp_eq_repeat (n : Nat) (s : State) : catchUp n s = Nat.repeat issueTick n s := by
  induction n generalizing s with
  | zero => rfl
  | succ n ih => exact (ih (issueTick s)).trans (repeat_issueTick_comm n s)

/-- The owed ticks change the tick counter alone in the generator. -/
theorem catchUp_btg (n : Nat) (s : State) : (catchUp n s).btg =
    { s.btg with tickCounter := (catchUp n s).btg.tickCounter } := by
  induction n generalizing s with
  | zero => rfl
  | succ n ih =>
    rw [catchUp, ih (issueTick s), issueTick_btg]
    rfl

/-- The tick after `n` owed ones finds the counter `n` higher, up to its wrap at 2^32 (R68). -/
theorem catchUp_tickCounter (n : Nat) (s : State) :
    ((catchUp n s).btg.tickCounter + 1) % 4294967296 =
      (s.btg.tickCounter + n + 1) % 4294967296 := by
  induction n generalizing s with
  | zero => rfl
  | succ n ih =>
    rw [catchUp, ih (issueTick s), issueTick_btg]
    show ((s.btg.tickCounter + 1) % 4294967296 + n + 1) % 4294967296 = _
    omega

/-! ### Intervals (R61, R63) -/

/-- The ticks before index `m` of an interval share the period's quotient, and the first `p % n` of them are
one count longer. -/
theorem sum_tickLength (p n m : Nat) :
    ((List.range m).map (tickLength p n)).sum = m * (p / n) + min m (p % n) := by
  induction m with
  | zero => simp
  | succ m ih =>
    rw [List.range_succ, List.map_append, List.sum_append, ih, List.map_singleton,
      List.sum_singleton, tickLength, Nat.succ_mul]
    split <;> omega

theorem sum_tickLength_interval (p : Nat) {n : Nat} (hn : 0 < n) :
    ((List.range n).map (tickLength p n)).sum = p := by
  rw [sum_tickLength, min_eq_right (Nat.mod_lt p hn).le, Nat.div_add_mod]

theorem loaded_eq (b : BeatGen) (n j : Nat) : b.loaded n j =
    { b with
      nextIndex := j + 1
      timer := tickLength b.interval n j
      timerHeld := decide (b.tracker = .locked ∧ n ≤ j + 1) } := by
  rw [BeatGen.loaded, Bool.decide_and]
  rfl

theorem loaded_locked {b : BeatGen} (n j : Nat) (h : b.tracker = .locked) : b.loaded n j =
    { b with
      nextIndex := j + 1
      timer := tickLength b.interval n j
      timerHeld := decide (n ≤ j + 1) } := by
  rw [loaded_eq]
  simp only [h, true_and]

theorem loaded_free {b : BeatGen} (n j : Nat) (h : b.tracker = .free) : b.loaded n j =
    { b with nextIndex := j + 1, timer := tickLength b.interval n j, timerHeld := false } := by
  rw [loaded_eq]
  simp [h]

section
variable {s : State}

/-- An interval begins in LOCKED: a single tick is its last one, and the timer is held (R62). -/
theorem beginInterval_locked (h : s.btg.tracker = .locked) :
    beginInterval s = issueTick { s with btg := { s.btg with
      interval := s.btg.period, nextIndex := 1
      timer := tickLength s.btg.period s.settings.ticks 0
      timerHeld := decide (s.settings.ticks ≤ 1) } } := by
  rw [beginInterval, loaded_locked _ _ (by exact h)]
  rfl

/-- A free interval begins: its timer runs through the last tick (R65). -/
theorem beginInterval_free (h : s.btg.tracker = .free) :
    beginInterval s = issueTick { s with btg := { s.btg with
      interval := s.btg.period, nextIndex := 1
      timer := tickLength s.btg.period s.settings.ticks 0, timerHeld := false } } := by
  rw [beginInterval, loaded_free _ _ (by exact h)]
  rfl

end

@[simp] theorem beginInterval_btg (s : State) : (beginInterval s).btg = s.btg.begun s.settings.ticks :=
  issueTick_btg _

/-! ### The tests of a BEAT (R57, R58, R60) -/

section
variable {source : Nat} {payload : List Byte} {s : State}

theorem handBeat_dropped (h : s.ps.state ≠ .active ∨ payload.length ≠ 1) :
    handBeat source payload s = s := by
  unfold handBeat
  by_cases hs : s.ps.state = .active
  · rw [if_pos hs]
    match payload, h.resolve_left (absurd hs) with
    | [], _ => rfl
    | _ :: _ :: _, _ => rfl
  · rw [if_neg hs]

variable {b : Byte} (hs : s.ps.state = .active)
include hs

theorem handBeat_foreign (h : source ≠ s.settings.beatStation) :
    handBeat source [b] s = count .foreignBeats s := by
  simp only [handBeat, beatFrame, if_pos hs, if_pos h]

theorem handBeat_duplicate (h : source = s.settings.beatStation)
    (hb : s.btg.lastCount = some b.toNat) :
    handBeat source [b] s = count .beatDuplicates s := by
  simp only [handBeat, beatFrame, if_pos hs, if_neg (not_not_intro h), if_pos hb]

theorem handBeat_locked {last : Nat} (h : source = s.settings.beatStation) (hb : last ≠ b.toNat)
    (hlast : s.btg.lastCount = some last) (ht : s.btg.tracker = .locked) :
    handBeat source [b] s = beatLocked b.toNat last s := by
  have hnew : ¬ s.btg.lastCount = some b.toNat := fun hk => hb (Option.some.inj (hlast ▸ hk))
  simp only [handBeat, beatFrame, if_pos hs, if_neg (not_not_intro h), if_neg hnew, ht]
  rw [hlast, Option.getD_some]

theorem handBeat_free (h : source = s.settings.beatStation) (hb : s.btg.lastCount ≠ some b.toNat)
    (ht : s.btg.tracker = .free) : handBeat source [b] s = beatFree b.toNat s := by
  simp only [handBeat, beatFrame, if_pos hs, if_neg (not_not_intro h), if_neg hb, ht]

end

/-! ### The beats that are taken (R59, R62, R66) -/

/-- P moves by a quarter of the difference for a step of at most four frames (R59). -/
theorem measured_eq (p capture : Nat) {k : Nat} (hk : 1 ≤ k) : measured p capture k =
    if k ≤ 4 then
      (max 10486 (min (p + Int.tdiv ((capture / k : Nat) - (p : Int)) 4) 34953)).toNat
    else p := by
  simp only [measured, hk, true_and]
  rfl

theorem frameStep_pos {new last : Nat} (hnew : new < 256) (hlast : last < 256) (h : last ≠ new) :
    1 ≤ frameStep new last := by
  unfold frameStep
  omega

section
variable {s : State} {frame last : Nat}

/-- A beat taken in LOCKED: the owed ticks, then tick 0 of an interval of the measured period (R62). -/
theorem beatLocked_eq (ht : s.btg.tracker = .locked) {p : Nat}
    (hp : measured s.btg.period s.btg.capture (frameStep frame last) = p) :
    beatLocked frame last s =
      let u := Nat.repeat issueTick (s.settings.ticks - s.btg.nextIndex) s
      issueTick { u with btg := { u.btg with
        period := p, interval := p, lastCount := some frame, capture := 0, nextIndex := 1
        timer := tickLength p s.settings.ticks 0, timerHeld := decide (s.settings.ticks ≤ 1) } } := by
  have hbtg := catchUp_btg (s.settings.ticks - s.btg.nextIndex) s
  have hset := (catchUp_aside (s.settings.ticks - s.btg.nextIndex) s).settings
  rw [← catchUp_eq_repeat]
  unfold beatLocked
  generalize catchUp (s.settings.ticks - s.btg.nextIndex) s = u at hbtg hset ⊢
  have hperiod : u.btg.period = s.btg.period := by rw [hbtg]
  have hcapture : u.btg.capture = s.btg.capture := by rw [hbtg]
  have htracker : u.btg.tracker = .locked := by rw [hbtg]; exact ht
  dsimp only
  rw [hperiod, hcapture, hp, beginInterval_locked (by exact htracker), State.withBtg_settings, hset]
  rfl

theorem beatLocked_tracker (ht : s.btg.tracker = .locked) :
    (beatLocked frame last s).btg.tracker = .locked := by
  unfold beatLocked
  dsimp only
  rw [beginInterval_btg, State.withBtg_btg, catchUp_btg]
  exact ht

theorem beatLocked_tickCounter : (beatLocked frame last s).btg.tickCounter =
    (s.btg.tickCounter + (s.settings.ticks - s.btg.nextIndex) + 1) % 4294967296 := by
  rw [← catchUp_tickCounter, beatLocked, beginInterval_btg]
  rfl

/-- A beat taken in FREE: tick 0 of an interval of the present period, LOCKED (R66). -/
theorem beatFree_eq : beatFree frame s = issueTick { s with btg := { s.btg with
    tracker := .locked, interval := s.btg.period, lastCount := some frame, capture := 0
    nextIndex := 1, timer := tickLength s.btg.period s.settings.ticks 0
    timerHeld := decide (s.settings.ticks ≤ 1) } } := by
  rw [beatFree, beginInterval_locked rfl]
  rfl

end

/-- Settles O45: the tests one after another (`handBeat_dropped` to `handBeat_free`), and the two beats that
are taken as `beatLocked_eq` and `beatFree_eq` spell them. -/
theorem beatIsDroppedOrTaken : Obligations.BeatIsDroppedOrTaken := by
  intro source payload s run n
  refine ⟨fun h => congrArg Host.Outcome.next (handBeat_dropped h), ?_⟩
  rintro b hs rfl
  refine ⟨fun h => congrArg Host.Outcome.next (handBeat_foreign hs h),
    fun h hb => congrArg Host.Outcome.next (handBeat_duplicate hs h hb), ?_, ?_⟩
  · intro last hrange h hb hlast ht u k moved p
    have taken : run = .next (beatLocked b.toNat last s) :=
      congrArg Host.Outcome.next (handBeat_locked hs h hb hlast ht)
    have step : 1 ≤ frameStep b.toNat last := frameStep_pos b.isLt hrange hb
    refine ⟨taken.trans (congrArg Host.Outcome.next (beatLocked_eq ht (measured_eq _ _ step))),
      fun t hrun => ?_⟩
    obtain rfl : beatLocked b.toNat last s = t := Host.Outcome.next.inj (taken.symm.trans hrun)
    exact ⟨beatLocked_tracker ht, beatLocked_tickCounter⟩
  · exact fun h hb ht => congrArg Host.Outcome.next ((handBeat_free hs h hb ht).trans beatFree_eq)

/-! ### The two timers (R63 to R65) -/

section
variable {s : State}

theorem timerExpiry_idle (h : s.ps.state = .keep ∨ s.btg.timerHeld = true) : timerExpiry s = s := by
  unfold timerExpiry
  rcases h with h | h <;> simp [State.powered, h]

/-- A running timer that runs out issues the next tick, or begins an interval after the last one. -/
theorem timerExpiry_running (hs : s.ps.state ≠ .keep) (hh : s.btg.timerHeld = false) :
    timerExpiry s = if s.btg.nextIndex < s.settings.ticks then issueNext (elapse s.btg.timer s)
      else beginInterval (elapse s.btg.timer s) :=
  if_pos (by simp [State.powered, hs, hh])

theorem issueNext_eq (s : State) : issueNext s = issueTick { s with btg := { s.btg with
    nextIndex := s.btg.nextIndex + 1
    timer := tickLength s.btg.interval s.settings.ticks s.btg.nextIndex
    timerHeld := decide (s.btg.tracker = .locked ∧ s.settings.ticks ≤ s.btg.nextIndex + 1) } } := by
  rw [issueNext, loaded_eq]
  rfl

theorem lossExpiry_locked (h : s.btg.tracker = .locked) : lossExpiry s =
    beginInterval ((elapse (4 * s.btg.interval - s.btg.capture) s).withBtg
      { (elapse (4 * s.btg.interval - s.btg.capture) s).btg with
        tracker := .free, capture := 4 * s.btg.interval }) := if_pos h

theorem lossExpiry_free (h : s.btg.tracker = .free) : lossExpiry s = s :=
  if_neg (by rw [h]; decide)

end

/-- Settles O46: the quotient and the remainder of the period make the tick lengths
(`sum_tickLength_interval`); a timer's rule is its own case over `issueNext_eq` and `beginInterval_free`. -/
theorem timersIssueTicks : Obligations.TimersIssueTicks := by
  refine ⟨fun p n hn => ⟨sum_tickLength_interval p hn, fun _ => rfl⟩, ?_⟩
  intro s n u lost p ticked
  refine ⟨fun h => congrArg Host.Outcome.next (timerExpiry_idle h), fun hs hh hn => ?_,
    fun hs hh hn ht => ?_, fun ht => ?_, fun ht => congrArg Host.Outcome.next (lossExpiry_free ht),
    issueTick_active, issueTick_doze, issueTick_unheard, issueTick_btg s⟩
  · exact congrArg Host.Outcome.next (((timerExpiry_running hs hh).trans (if_pos hn)).trans
      (issueNext_eq u))
  · refine congrArg Host.Outcome.next (((timerExpiry_running hs hh).trans (if_neg hn.not_gt)).trans ?_)
    rw [beginInterval_free (by exact ht), ← hh]
    rfl
  · exact congrArg Host.Outcome.next ((lossExpiry_locked ht).trans (beginInterval_free rfl))

end Sys2Proof.Machine
end

section
/-! SUPPORT. The Pattern Fetch Unit's operations, one rule each: a fetch record after a write, the ask for
steps, the directory cache, the arbiter's grant, a lookup's end and a delivery (R72 to R82). -/

namespace Sys2Proof.Machine

/-! ### Fetch records (R77) -/

theorem fetchRec_withFetchRec (s : State) {p : Nat} (hp : p < 5) (r : FetchRec) :
    (s.withFetchRec p r).fetchRec p = r := getAt_setAt_same _ _ _ hp

theorem withFetchRec_withFetchRec (s : State) (p : Nat) (r r' : FetchRec) :
    (s.withFetchRec p r).withFetchRec p r' = s.withFetchRec p r' := by
  simp only [State.withFetchRec, State.withPfu_pfu, setAt_setAt]
  rfl

@[simp] theorem State.withFetchRec_cache (s : State) (p : Nat) (r : FetchRec) :
    (s.withFetchRec p r).pfu.cache = s.pfu.cache := rfl

@[simp] theorem State.withFetchRec_port (s : State) (p : Nat) (r : FetchRec) :
    (s.withFetchRec p r).pfu.port = s.pfu.port := rfl

/-! ### The ask for steps (R79) -/

/-- A request flies while the transaction on the port is the play's own. -/
theorem inFlight_iff {port : Option Transfer} {p n : Nat} : inFlight port p n = true ↔
    ∃ t, port = some t ∧
      ((∃ i, t.job = .directory p i n) ∨ ∃ j c, t.job = .steps p n j c) := by
  unfold inFlight
  cases port with
  | none => simp
  | some t => cases h : t.job with
    | settings => simp [h]
    | directory q i m => simp [h]
    | steps q m j c => simp [h]

theorem wantsSteps_iff {port : Option Transfer} {p : Nat} {r : FetchRec} :
    wantsSteps port p r = true ↔ r.state = .opened ∧ r.waiting = none ∧
      ¬ inFlight port p r.playNo = true ∧ r.cursor ≠ none ∧
      (r.buffer.length ≤ 4 ∨ r.firstDone = false) := by
  simp [wantsSteps, and_assoc, Option.isSome_iff_ne_none]

theorem askSteps_asks {p : Nat} {s : State} (h : wantsSteps s.pfu.port p (s.fetchRec p) = true) :
    askSteps p s = s.withFetchRec p { s.fetchRec p with waiting := some .step } := if_pos h

theorem askSteps_quiet {p : Nat} {s : State} (h : ¬ wantsSteps s.pfu.port p (s.fetchRec p) = true) :
    askSteps p s = s := if_neg h

/-! ### Opening a record (R77) -/

section
variable {s : State} {p : Nat}

/-- A record that opens without a request of its play asks for its first fetch. -/
theorem openRec_asks (hp : p < 5) (e : DirEntry) (hw : (s.fetchRec p).waiting = none)
    (hb : (s.fetchRec p).buffer = []) (hf : ¬ inFlight s.pfu.port p (s.fetchRec p).playNo = true) :
    openRec p e s = s.withFetchRec p { s.fetchRec p with
      state := .opened, entry := some e, cursor := some (0, e.loopCount), waiting := some .step } := by
  have hrec := fetchRec_withFetchRec s hp { s.fetchRec p with
    state := .opened, entry := some e, cursor := some (0, e.loopCount) }
  rw [openRec, askSteps_asks, hrec, withFetchRec_withFetchRec]
  rw [hrec, wantsSteps_iff]
  exact ⟨rfl, hw, hf, Option.some_ne_none _, .inl (by simp [hb])⟩

/-- A record opens without an ask while a request of its play's number flies. -/
theorem openRec_flying (hp : p < 5) (e : DirEntry)
    (hf : inFlight s.pfu.port p (s.fetchRec p).playNo = true) :
    openRec p e s = s.withFetchRec p { s.fetchRec p with
      state := .opened, entry := some e, cursor := some (0, e.loopCount) } := by
  rw [openRec, askSteps_quiet]
  rw [fetchRec_withFetchRec s hp, wantsSteps_iff]
  exact fun h => h.2.2.1 hf

end

/-! ### Play starts (R76, R77) -/

/-- The record of a play that begins. -/
def freshRec (pattern playNo : Nat) : FetchRec :=
  { fetchRecStart with playNo := playNo, pattern := pattern }

/-- The cached entry of a pattern is read: it becomes the most recently used. -/
def cacheHit (pattern : Nat) (s : State) : State :=
  s.withPfu { s.pfu with cache := touchCache s.pfu.cache pattern }

section
variable {s : State} {p pattern : Nat} (playNo : Nat)

theorem startPlay_miss (hp : p < 5) (h : cached s.pfu.cache pattern = none) :
    startPlay p pattern playNo s = (grant (s.withFetchRec p { freshRec pattern playNo with
      state := .lookup, waiting := some .directory }), none) := by
  rw [startPlay]
  simp only [State.withFetchRec_cache, h, fetchRec_withFetchRec s hp, withFetchRec_withFetchRec]
  rfl

theorem startPlay_hit {e : DirEntry} (h : cached s.pfu.cache pattern = some e)
    (hk : e.kind = playerKind p) : startPlay p pattern playNo s =
      (grant (openRec p e ((cacheHit pattern s).withFetchRec p (freshRec pattern playNo))),
        some (.valid e)) := by
  rw [startPlay]
  simp only [State.withFetchRec_cache, h, lookupCached, if_pos hk]
  rfl

theorem startPlay_other {e : DirEntry} (h : cached s.pfu.cache pattern = some e)
    (hk : e.kind ≠ playerKind p) : startPlay p pattern playNo s =
      ((cacheHit pattern s).withFetchRec p (freshRec pattern playNo), some .badPattern) := by
  rw [startPlay]
  simp only [State.withFetchRec_cache, h, lookupCached, if_neg hk]
  rfl

/-- The play's record opens, and it asks for its first fetch. -/
theorem startPlay_asks (hp : p < 5) {e : DirEntry} (h : cached s.pfu.cache pattern = some e)
    (hk : e.kind = playerKind p) (hf : ¬ inFlight s.pfu.port p playNo = true) :
    startPlay p pattern playNo s = (grant ((cacheHit pattern s).withFetchRec p
      { freshRec pattern playNo with
        state := .opened, entry := some e, cursor := some (0, e.loopCount), waiting := some .step }),
      some (.valid e)) := by
  have hrec := fetchRec_withFetchRec (cacheHit pattern s) hp (freshRec pattern playNo)
  rw [startPlay_hit playNo h hk, openRec_asks hp e (by rw [hrec]; rfl) (by rw [hrec]; rfl)
    (by rw [hrec]; exact hf), hrec, withFetchRec_withFetchRec]

/-- The play's record opens while a request of its number still flies. -/
theorem startPlay_flying (hp : p < 5) {e : DirEntry} (h : cached s.pfu.cache pattern = some e)
    (hk : e.kind = playerKind p) (hf : inFlight s.pfu.port p playNo = true) :
    startPlay p pattern playNo s = (grant ((cacheHit pattern s).withFetchRec p
      { freshRec pattern playNo with
        state := .opened, entry := some e, cursor := some (0, e.loopCount) }), some (.valid e)) := by
  have hrec := fetchRec_withFetchRec (cacheHit pattern s) hp (freshRec pattern playNo)
  rw [startPlay_hit playNo h hk, openRec_flying hp e (by rw [hrec]; exact hf), hrec,
    withFetchRec_withFetchRec]

end

/-! ### Steps leaving the buffer (R83) -/

section
variable {s : State} {p : Nat}

theorem nextStep_step {x : Step} {rest : List Step} (h : (s.fetchRec p).buffer = x :: rest) :
    nextStep p s =
      (.step x, askSteps p (s.withFetchRec p { s.fetchRec p with buffer := rest })) := by
  simp only [nextStep, h]

theorem nextStep_ended (h : (s.fetchRec p).buffer = []) (hc : (s.fetchRec p).cursor = none) :
    nextStep p s = (.ended, s) := by
  simp [nextStep, h, hc]

theorem nextStep_starved (h : (s.fetchRec p).buffer = []) (hc : (s.fetchRec p).cursor ≠ none) :
    nextStep p s = (.starved, count .starves s) := by
  simp [nextStep, h, Option.isSome_iff_ne_none.2 hc]

end

/-! ### The arbiter (R80) -/

section
variable {x : Fetch}

theorem waits_eq_false {s : State} {p : Nat} (h : (s.fetchRec p).waiting = none) : s.pfu.waits p = false :=
  Option.isSome_eq_false_iff.2 (Option.isNone_iff_eq_none.2 h)

theorem nextPlayer_rumble (h : x.waits 0 = true) : nextPlayer x = some 0 := if_pos h

/-- The voices' turns: the `d`-th after the last one granted, with none before it waiting. -/
theorem nextPlayer_voice {d : Nat} (hd : d < 4) (h0 : x.waits 0 = false)
    (hw : x.waits ((x.lastVoice + 1 + d) % 4 + 1) = true)
    (hb : ∀ e < d, x.waits ((x.lastVoice + 1 + e) % 4 + 1) = false) :
    nextPlayer x = some ((x.lastVoice + 1 + d) % 4 + 1) := by
  have order : voiceOrder x.lastVoice = (List.range 4).map fun e => (x.lastVoice + 1 + e) % 4 := by
    simp [voiceOrder, List.range_succ]
    omega
  rw [nextPlayer, if_neg (by simp [h0]), order]
  have found : (List.range 4).find? (fun e => x.waits ((x.lastVoice + 1 + e) % 4 + 1)) = some d := by
    rw [List.find?_range_eq_some]
    exact ⟨hw, List.mem_range.2 hd, fun e he => by simp [hb e he]⟩
  rw [List.find?_map]
  simp only [Function.comp_def, found]
  rfl

theorem nextPlayer_none (h : ∀ q < 5, x.waits q = false) : nextPlayer x = none := by
  have hv (v : Nat) : x.waits (v % 4 + 1) = false := h _ (by omega)
  simp [nextPlayer, voiceOrder, h 0 (by omega), hv]

end

section
variable {s : State}

theorem grant_busy (h : s.pfu.port ≠ none) : grant s = s := by
  rw [grant, Fetch.grant, if_pos (Option.isSome_iff_ne_none.2 h)]
  rfl

theorem grant_nothing (hs : s.pfu.settingsWaiting = false) (h : nextPlayer s.pfu = none) :
    grant s = s := by
  simp only [grant, Fetch.grant, hs, h]
  split <;> rfl

theorem grant_settings (hp : s.pfu.port = none) (hs : s.pfu.settingsWaiting = true) :
    grant s = s.withPfu { s.pfu with
      port := some { job := .settings, address := 0, bytes := 64 }, settingsWaiting := false } := by
  simp [grant, Fetch.grant, hp, hs]

theorem grant_player {p : Nat} (hp : s.pfu.port = none) (hs : s.pfu.settingsWaiting = false)
    (h : nextPlayer s.pfu = some p) : grant s = s.withPfu (s.pfu.granted s.settings p) := by
  simp [grant, Fetch.grant, hp, hs, h]

/-- A grant puts the transaction on the port and takes the request off its record (R79, R80). -/
theorem withPfu_granted {p : Nat} {t : Transfer} {done : Bool}
    (ht : grantJob s.settings p (s.fetchRec p) = some t)
    (hd : ((s.fetchRec p).firstDone || (s.fetchRec p).waiting == some .step) = done) :
    s.withPfu (s.pfu.granted s.settings p) = ({ s with pfu := { s.pfu with
      port := some t, lastVoice := if p = 0 then s.pfu.lastVoice else p - 1 } } : State).withFetchRec p
        { s.fetchRec p with waiting := none, firstDone := done } := by
  subst hd
  rw [← ht]
  rfl

theorem grantJob_directory (st : Settings) (p : Nat) {r : FetchRec} (h : r.waiting = some .directory) :
    grantJob st p r = some { job := .directory p r.pattern r.playNo
                             address := st.dirOffset + 10 * r.pattern, bytes := 10 } := by
  simp only [grantJob, h]

theorem grantJob_step (st : Settings) (p : Nat) {r : FetchRec} {e : DirEntry} {j left : Nat}
    (h : r.waiting = some .step) (he : r.entry = some e) (hc : r.cursor = some (j, left)) :
    grantJob st p r = some { job := .steps p r.playNo j (fetchCount r e.stepCount j)
                             address := e.bodyOffset + 3 * j
                             bytes := 3 * fetchCount r e.stepCount j } := by
  simp only [grantJob, h, he, hc]

end

/-! ### A transaction on the port (R72) -/

theorem chipSelectLow_iff {x : Fetch} : x.chipSelectLow = true ↔ x.port ≠ none :=
  Option.isSome_iff_ne_none

theorem bitsOf_mod (w n : Nat) : bitsOf w (n % 2 ^ w) = bitsOf w n := by
  refine List.map_congr_left fun i hi => ?_
  have hi : i < w := List.mem_range.1 hi
  rw [Nat.testBit_mod_two_pow, decide_eq_true (by omega), Bool.true_and]

/-- A number's bits are its high bits and then its `w` low ones. -/
theorem bitsOf_add (v w n : Nat) : bitsOf (v + w) n = bitsOf v (n / 2 ^ w) ++ bitsOf w n := by
  induction w generalizing n with
  | zero => simp [bitsOf]
  | succ w ih =>
    rw [← Nat.add_assoc, bitsOf_succ, ih, bitsOf_succ w, ← List.append_assoc, Nat.div_div_eq_div_mul,
      Nat.pow_succ, Nat.mul_comm 2]

theorem bitsOf_byteOf (n : Nat) : bitsOf 8 (byteOf n).toNat = bitsOf 8 n := by
  rw [byteOf, BitVec.toNat_ofNat, bitsOf_mod]

theorem sentBits_eq (x : Transfer) : x.sentBits =
    (List.range 8).map (fun i => Nat.testBit 0x03 (7 - i)) ++
      (List.range 24).map (fun i => x.address.testBit (23 - i)) := by
  have address : bitsOf 24 x.address = bitsOf 8 (x.address / 65536) ++
      (bitsOf 8 (x.address / 256) ++ bitsOf 8 x.address) := by
    rw [bitsOf_add 8 16, bitsOf_add 8 8]
    norm_num
  calc x.sentBits = bitsOf 8 0x03 ++ bitsOf 24 x.address := by
        rw [address, ← bitsOf_byteOf (x.address / 65536), ← bitsOf_byteOf (x.address / 256),
          ← bitsOf_byteOf x.address, ← List.append_nil (bitsOf 8 (byteOf x.address).toNat)]
        rfl
    _ = _ := rfl

theorem clockPeriods_eq (x : Transfer) : x.clockPeriods = 32 + 8 * x.bytes := by
  rw [Transfer.clockPeriods, Transfer.sentBits, bitsOfBytes_length]
  rfl

/-! ### The directory cache (R75) -/

section
variable {c : List (Nat × DirEntry)} {i : Nat}

theorem cached_none_iff : cached c i = none ↔ i ∉ c.map Prod.fst := by
  simp only [cached, Option.map_eq_none_iff, List.find?_eq_none, beq_iff_eq, List.mem_map, not_exists,
    not_and]

/-- A pattern stands once in the cache: the lookup finds its entry, and it alone has the number. -/
theorem cached_of_mem {old : DirEntry} (hn : (c.map Prod.fst).Nodup) (h : (i, old) ∈ c) :
    cached c i = some old ∧ c.filter (fun x => x.1 == i) = [(i, old)] := by
  induction c with
  | nil => cases h
  | cons x rest ih =>
    rw [List.map_cons, List.nodup_cons] at hn
    obtain ⟨hx, hrest⟩ := hn
    rcases List.mem_cons.1 h with rfl | h
    · have none : rest.filter (fun x => x.1 == i) = [] := by
        rw [List.filter_eq_nil_iff]
        intro y hy hi
        exact hx (List.mem_map.2 ⟨y, hy, beq_iff_eq.1 hi⟩)
      exact ⟨by simp [cached], by simp [none]⟩
    · have hi : x.1 ≠ i := fun hi => hx (List.mem_map.2 ⟨(i, old), h, hi.symm⟩)
      simpa [cached, hi] using ih hrest h

theorem touchCache_eq {old : DirEntry} (hn : (c.map Prod.fst).Nodup) (h : (i, old) ∈ c) :
    touchCache c i = (i, old) :: c.filter fun x => x.1 != i := by
  rw [touchCache, (cached_of_mem hn h).2]
  rfl

theorem joinCache_cached (e : DirEntry) (h : i ∈ c.map Prod.fst) : joinCache c i e = touchCache c i := by
  refine if_pos (Option.isSome_iff_ne_none.2 fun hc => cached_none_iff.1 hc h)

theorem joinCache_new (e : DirEntry) (h : i ∉ c.map Prod.fst) : joinCache c i e = (i, e) :: c.take 7 :=
  if_neg (by simp [cached_none_iff.2 h])

/-- A touched cache holds the same entries in another order. -/
theorem touchCache_perm : (touchCache c i).Perm c :=
  List.filter_append_perm (fun x : Nat × DirEntry => x.1 == i) c

/-- The cache stays within 8 entries, one for each of its patterns. -/
theorem joinCache_bounded (e : DirEntry) (hl : c.length ≤ 8) (hn : (c.map Prod.fst).Nodup) :
    (joinCache c i e).length ≤ 8 ∧ ((joinCache c i e).map Prod.fst).Nodup := by
  by_cases h : i ∈ c.map Prod.fst
  · rw [joinCache_cached e h]
    exact ⟨touchCache_perm.length_eq.trans_le hl, (touchCache_perm.map Prod.fst).nodup_iff.2 hn⟩
  · rw [joinCache_new e h, List.map_cons, List.nodup_cons, List.length_cons, List.length_take]
    have sub : ((c.take 7).map Prod.fst).Sublist (c.map Prod.fst) := (List.take_sublist 7 c).map _
    exact ⟨by omega, fun hi => h (sub.subset hi), hn.sublist sub⟩

end

/-! ### Entries and steps read from the memory (R73, R74, R82, R204) -/

theorem readEntry_eq (l : List Byte) : readEntry l = {
    kindByte := byteAt l 0, loopCount := byteAt l 1, peakDuty := byteAt l 2
    bodyOffset := 65536 * byteAt l 3 + 256 * byteAt l 4 + byteAt l 5
    stepCount := 256 * byteAt l 6 + byteAt l 7, loopStart := 256 * byteAt l 8 + byteAt l 9 } := by
  have hbody : 256 * (256 * byteAt l 3 + byteAt l 4) + byteAt l 5 =
      65536 * byteAt l 3 + 256 * byteAt l 4 + byteAt l 5 := by omega
  rw [← hbody]
  rfl

theorem readSteps_length (k : PatternKind) (n : Nat) (l : List Byte) : (readSteps k n l).length = n := by
  simp [readSteps]

theorem readSteps_sound {n i : Nat} (l : List Byte) (h : i < n) : (readSteps .sound n l)[i]? =
    some (readSoundStep (byteAt l (3 * i)) (byteAt l (3 * i + 1)) (byteAt l (3 * i + 2))) := by
  simp [readSteps, h]

theorem readSteps_rumble {n i : Nat} (l : List Byte) (h : i < n) : (readSteps .rumble n l)[i]? =
    some (readRumbleStep (byteAt l (3 * i)) (byteAt l (3 * i + 1)) (byteAt l (3 * i + 2))) := by
  simp [readSteps, h]

theorem length_clamped (b : Nat) : max 1 b = if b = 0 then 1 else b := by split <;> omega

theorem level_clamped (b : Nat) : min 15 b = if 16 ≤ b then 15 else b := by split <;> omega

/-- The well formed entry of kind `k` that a raw entry spells (R73). -/
def RawEntry.entry (r : RawEntry) (k : PatternKind) : DirEntry where
  kind := k
  loopCount := r.loopCount
  peakDuty := r.peakDuty
  bodyOffset := r.bodyOffset
  stepCount := r.stepCount
  loopStart := r.loopStart

section
variable {mem : Nat} {r : RawEntry} {k : PatternKind}

theorem wellFormedEntry_some (hk : patternKind r.kindByte = some k) (hr : entryInRange mem r = true) :
    wellFormedEntry mem r = some (r.entry k) := by
  simp only [wellFormedEntry, hk, if_pos hr]
  rfl

theorem wellFormedEntry_none (h : patternKind r.kindByte = none ∨ ¬ entryInRange mem r = true) :
    wellFormedEntry mem r = none := by
  unfold wellFormedEntry
  rcases h with h | h
  · rw [h]
  · cases patternKind r.kindByte with
    | none => rfl
    | some k => exact if_neg h

theorem lookupEntry_noSuch (want : PatternKind) (h : patternKind r.kindByte = none) :
    lookupEntry mem want r = .noSuch := by
  simp only [lookupEntry, h]

theorem lookupEntry_other {want : PatternKind} (hk : patternKind r.kindByte = some k) (h : k ≠ want) :
    lookupEntry mem want r = .badPattern := by
  simp only [lookupEntry, hk, if_pos h]

theorem lookupEntry_beyond (want : PatternKind) (hk : patternKind r.kindByte ≠ none)
    (hr : ¬ entryInRange mem r = true) : lookupEntry mem want r = .badPattern := by
  obtain ⟨k, hk⟩ := Option.ne_none_iff_exists'.1 hk
  simp [lookupEntry, hk, wellFormedEntry_none (.inr hr)]

theorem lookupEntry_valid (hk : patternKind r.kindByte = some k) (hr : entryInRange mem r = true) :
    lookupEntry mem k r = .valid (r.entry k) := by
  simp [lookupEntry, hk, wellFormedEntry_some hk hr]

end

end Sys2Proof.Machine
end

section
/-! SUPPORT. The completions of directory and step fetches (R76, R78, R81). -/

namespace Sys2Proof.Machine

/-! ### A directory fetch's completion (R76) -/

/-- A directory entry read from the memory joins the cache when it is well formed (R75, R76). -/
def learnt (pattern : Nat) (raw : RawEntry) (s : State) : State :=
  match wellFormedEntry s.settings.memBytes raw with
  | some e => s.withPfu { s.pfu with cache := joinCache s.pfu.cache pattern e }
  | none => s

section
variable {s : State} {p pattern n : Nat} {bytes : List Byte} {raw : RawEntry}

theorem learnt_some {k : PatternKind} (hk : patternKind raw.kindByte = some k)
    (hr : entryInRange s.settings.memBytes raw = true) : learnt pattern raw s =
      s.withPfu { s.pfu with cache := joinCache s.pfu.cache pattern (raw.entry k) } := by
  rw [learnt, wellFormedEntry_some hk hr]

theorem learnt_none (h : patternKind raw.kindByte = none ∨
    ¬ entryInRange s.settings.memBytes raw = true) : learnt pattern raw s = s := by
  rw [learnt, wellFormedEntry_none h]

/-- The cache alone learns an entry. -/
theorem learnt_frame (pattern : Nat) (raw : RawEntry) (s : State) : learnt pattern raw s =
    s.withPfu { s.pfu with cache := (learnt pattern raw s).pfu.cache } := by
  unfold learnt
  split <;> rfl

@[simp] theorem learnt_fetchRec (q : Nat) : (learnt pattern raw s).fetchRec q = s.fetchRec q := by
  rw [learnt_frame]
  rfl

@[simp] theorem learnt_port : (learnt pattern raw s).pfu.port = s.pfu.port := by
  rw [learnt_frame]
  rfl

@[simp] theorem freePort_port : (freePort s).pfu.port = none := rfl

@[simp] theorem freePort_fetchRec (q : Nat) : (freePort s).fetchRec q = s.fetchRec q := rfl

@[simp] theorem freePort_settings : (freePort s).settings = s.settings := rfl

/-- What a directory fetch's completion makes of the record that waits for it, if it does (R76). -/
theorem finishLookup_eq : finishLookup p pattern n bytes s =
    if (s.fetchRec p).state = .lookup ∧ (s.fetchRec p).playNo = n then
      match lookupEntry s.settings.memBytes (playerKind p) (readEntry bytes) with
      | .valid e => (openRec p e (learnt pattern (readEntry bytes) s), some (.valid e))
      | l => ((learnt pattern (readEntry bytes) s).withFetchRec p
          { s.fetchRec p with state := .none }, some l)
    else (learnt pattern (readEntry bytes) s, none) := by
  rw [← learnt_fetchRec (pattern := pattern) (raw := readEntry bytes)]
  rfl

/-- The record has been left by its lookup, or a later play holds it: the result is discarded. -/
theorem directoryArrive_discarded (h : (s.fetchRec p).state ≠ .lookup ∨ (s.fetchRec p).playNo ≠ n) :
    directoryArrive p pattern n bytes s = grant (learnt pattern (readEntry bytes) (freePort s)) := by
  rw [directoryArrive, finishLookup_eq, freePort_fetchRec, if_neg (by tauto)]

variable (hl : (s.fetchRec p).state = .lookup) (hn : (s.fetchRec p).playNo = n)
include hl hn

/-- A lookup that fails closes its record and is told. -/
theorem directoryArrive_failed {l : Lookup}
    (h : lookupEntry s.settings.memBytes (playerKind p) (readEntry bytes) = l) (hv : ∀ e, l ≠ .valid e) :
    directoryArrive p pattern n bytes s = grant (handResult p l
      ((learnt pattern (readEntry bytes) (freePort s)).withFetchRec p
        { s.fetchRec p with state := .none })) := by
  rw [directoryArrive, finishLookup_eq, freePort_fetchRec, if_pos ⟨hl, hn⟩, freePort_settings, h]
  cases l with
  | valid e => exact absurd rfl (hv e)
  | noSuch => rfl
  | badPattern => rfl

/-- A valid entry opens the record, which asks for its first steps, and is told. -/
theorem directoryArrive_valid {e : DirEntry} (hp : p < 5)
    (h : lookupEntry s.settings.memBytes (playerKind p) (readEntry bytes) = .valid e)
    (hw : (s.fetchRec p).waiting = none) (hb : (s.fetchRec p).buffer = []) :
    directoryArrive p pattern n bytes s = grant (handResult p (.valid e)
      ((learnt pattern (readEntry bytes) (freePort s)).withFetchRec p { s.fetchRec p with
        state := .opened, entry := some e, cursor := some (0, e.loopCount), waiting := some .step })) := by
  rw [directoryArrive, finishLookup_eq, freePort_fetchRec, if_pos ⟨hl, hn⟩, freePort_settings, h]
  dsimp only
  rw [openRec_asks hp e (by simpa using hw) (by simpa using hb) (by simp [inFlight]), learnt_fetchRec,
    freePort_fetchRec]

end

section
variable {s : State} {bytes : List Byte}

theorem exec_directoryFetchComplete {t : Transfer} {p pattern n : Nat} (hp : s.pfu.port = some t)
    (ht : t.job = .directory p pattern n) :
    exec (.directoryFetchComplete bytes) s = .next (directoryArrive p pattern n bytes s) := by
  show execDirectoryFetchComplete bytes s = _
  simp only [execDirectoryFetchComplete, hp, ht]

/-- With another transaction in flight, or none, the completion changes nothing (log 26). -/
theorem exec_directoryFetchComplete_other
    (h : ∀ t p pattern n, s.pfu.port = some t → t.job ≠ .directory p pattern n) :
    exec (.directoryFetchComplete bytes) s = .next s := by
  show execDirectoryFetchComplete bytes s = _
  unfold execDirectoryFetchComplete
  cases hp : s.pfu.port with
  | none => rfl
  | some t => cases ht : t.job with
    | settings => simp only [ht]
    | directory p pattern n => exact absurd ht (h t p pattern n hp)
    | steps p n j c => simp only [ht]

/-! ### A step fetch's completion (R78, R81) -/

theorem exec_stepFetchComplete {t : Transfer} {p n j c : Nat} (hp : s.pfu.port = some t)
    (ht : t.job = .steps p n j c) :
    exec (.stepFetchComplete bytes) s = .next (stepsArrive p n j c bytes s) := by
  show execStepFetchComplete bytes s = _
  simp only [execStepFetchComplete, hp, ht]

theorem exec_stepFetchComplete_other
    (h : ∀ t p n j c, s.pfu.port = some t → t.job ≠ .steps p n j c) :
    exec (.stepFetchComplete bytes) s = .next s := by
  show execStepFetchComplete bytes s = _
  unfold execStepFetchComplete
  cases hp : s.pfu.port with
  | none => rfl
  | some t => cases ht : t.job with
    | settings => simp only [ht]
    | directory p pattern n => simp only [ht]
    | steps p n j c => exact absurd ht (h t p n j c hp)

/-- The cursor after a delivery: the next index, or the loop start, or EXHAUSTED (R78). -/
theorem cursorAfter_eq (e : DirEntry) (j c left : Nat) : cursorAfter e j c left =
    if j + c ≠ e.stepCount then some (j + c, left)
    else if left = 0 then none
    else some (e.loopStart, if left = 255 then 255 else left - 1) := by
  simp only [cursorAfter, Nat.pos_iff_ne_zero, ite_not]

variable {p n j c : Nat}

theorem stepsArrive_discarded (h : (s.fetchRec p).state ≠ .opened ∨ (s.fetchRec p).playNo ≠ n) :
    stepsArrive p n j c bytes s = grant (freePort s) := by
  rw [stepsArrive, freePort_fetchRec, if_neg (by tauto)]

theorem stepsArrive_delivered {e : DirEntry} {index left : Nat} (ho : (s.fetchRec p).state = .opened)
    (hn : (s.fetchRec p).playNo = n) (he : (s.fetchRec p).entry = some e)
    (hc : (s.fetchRec p).cursor = some (index, left)) :
    stepsArrive p n j c bytes s = grant (handDelivery p (askSteps p ((freePort s).withFetchRec p
      { s.fetchRec p with
        buffer := (s.fetchRec p).buffer ++ readSteps e.kind c bytes
        cursor := cursorAfter e j c left }))) := by
  rw [stepsArrive, freePort_fetchRec, if_pos ⟨ho, hn⟩, deliver]
  simp only [freePort_fetchRec, he, hc]

end

/-- Settles O47: a completion by what the record waits for (`directoryArrive_failed`,
`directoryArrive_valid`, `stepsArrive_delivered`), a play start by the cache, the arbiter by what waits,
and the cache's order from its patterns being distinct. -/
theorem fetchesCompleteAndTheArbiterTurns : Obligations.FetchesCompleteAndTheArbiterTurns := by
  intro bytes p n address size s hp result delivery
  refine ⟨?_, ?_, ?_, ?_, ?_, nextPlayer_rumble, ?_, ?_, ?_, ?_, chipSelectLow_iff, ?_, ?_, ?_⟩
  · intro pattern hport raw mem kind other inRange entry free kept r run closed
    have hrun : run = .next (directoryArrive p pattern n bytes s) :=
      exec_directoryFetchComplete hport rfl
    have hkind : playerKind p = kind := rfl
    have hother : other ≠ kind := by
      by_cases h0 : p = 0 <;> simp [other, kind, h0]
    have range (h : inRange) : entryInRange s.settings.memBytes raw = true := decide_eq_true h
    have noRange (h : ¬ inRange) : ¬ entryInRange s.settings.memBytes raw = true :=
      fun hk => h (of_decide_eq_true hk)
    have hkept {k : PatternKind} (hk : patternKind raw.kindByte = some k) (h : inRange) :
        learnt pattern raw (freePort s) = kept k := learnt_some hk (range h)
    have hfree (h : patternKind raw.kindByte = none ∨ ¬ inRange) :
        learnt pattern raw (freePort s) = free := learnt_none (h.imp_right noRange)
    rw [hrun]
    refine ⟨fun hl hn => ⟨fun hk => ?_, fun hk h => ?_, fun hk h => ?_, fun hk h hw hb => ?_⟩,
      fun hd => ⟨fun k hk h => ?_, fun h => ?_⟩⟩
    · rw [directoryArrive_failed hl hn (lookupEntry_noSuch _ hk) (by simp), hfree (.inl hk)]
      rfl
    · rw [directoryArrive_failed hl hn (lookupEntry_other hk hother) (by simp), hkept hk h]
      rfl
    · rw [directoryArrive_failed hl hn (lookupEntry_beyond _ hk (noRange h)) (by simp), hfree (.inr h)]
      rfl
    · rw [directoryArrive_valid hl hn hp (lookupEntry_valid hk (range h)) hw hb, hkept hk h]
      rfl
    · rw [directoryArrive_discarded hd, hkept hk h]
    · rw [directoryArrive_discarded hd, hfree h]
  · intro j c hport free r run
    have hrun : run = .next (stepsArrive p n j c bytes s) := exec_stepFetchComplete hport rfl
    rw [hrun]
    refine ⟨fun e index left ho hn he hc => ?_, fun hd => congrArg _ (stepsArrive_discarded hd)⟩
    rw [stepsArrive_delivered ho hn he hc, cursorAfter_eq]
    rfl
  · exact exec_directoryFetchComplete_other
  · exact exec_stepFetchComplete_other
  · intro flies r asks kind
    have hflies (m : Nat) : flies m ↔ inFlight s.pfu.port p m = true := inFlight_iff.symm
    have hasks : asks ↔ wantsSteps s.pfu.port p (s.fetchRec p) = true := by
      rw [wantsSteps_iff, ← hflies]
    refine ⟨fun pattern playNo => ?_, fun h => askSteps_asks (hasks.1 h),
      fun h => askSteps_quiet (mt hasks.2 h), fun x rest => nextStep_step, nextStep_ended,
      nextStep_starved⟩
    intro fresh start
    exact ⟨fun e hc => ⟨fun hk => ⟨fun hf => startPlay_asks playNo hp hc hk (mt (hflies playNo).2 hf),
      fun hf => startPlay_flying playNo hp hc hk ((hflies playNo).1 hf)⟩, startPlay_other playNo hc⟩,
      startPlay_miss playNo hp⟩
  · exact fun d => nextPlayer_voice
  · rintro (hport | ⟨hs, hw⟩)
    · exact grant_busy hport
    · exact grant_nothing hs (nextPlayer_none fun q hq => waits_eq_false (hw q hq))
  · exact grant_settings
  · intro hport hs hnext r on
    have hgrant := grant_player hport hs hnext
    refine ⟨fun hw => ?_, fun e j left hw he hc => ?_⟩
    · have done : (r.firstDone || r.waiting == some .step) = r.firstDone := by simp [hw]
      rw [hgrant, withPfu_granted (grantJob_directory _ p hw) done]
    · have done : (r.firstDone || r.waiting == some .step) = true := by simp [hw]
      rw [hgrant, withPfu_granted (grantJob_step _ p hw he hc) done]
      rfl
  · exact fun x _ => ⟨sentBits_eq x, clockPeriods_eq x⟩
  · intro b
    refine ⟨readEntry_eq bytes, fun k => rfl, fun count => ⟨readSteps_length .sound count bytes,
      readSteps_length .rumble count bytes, fun i hi => ?_⟩⟩
    have bit (x m : Nat) : x.testBit m = decide (x / 2 ^ m % 2 = 1) := Nat.testBit_eq_decide_div_mod_eq
    rw [readSteps_sound bytes hi, readSteps_rumble bytes hi, readSoundStep, readRumbleStep,
      length_clamped, level_clamped, bit, bit]
    exact ⟨rfl, rfl⟩
  · intro c i e hl hn others
    refine ⟨fun old h => ?_, fun h => ⟨cached_none_iff.2 h, joinCache_new e h⟩, joinCache_bounded e hl hn⟩
    have hi : i ∈ c.map Prod.fst := List.mem_map.2 ⟨_, h, rfl⟩
    exact ⟨(cached_of_mem hn h).1, (joinCache_cached e hi).trans (touchCache_eq hn h), touchCache_eq hn h⟩

end Sys2Proof.Machine
end

section
/-! SUPPORT. PLAY_SOUND: its tests, the voice it takes and the record of the new play; what a lookup result
and a delivery make of a voice (R83, R88 to R94). -/

namespace Sys2Proof.Machine

/-! ### The least of a list (R90) -/

section
variable {key : Nat → Nat} {l : List Nat}

theorem leastBy_mem {i : Nat} (h : leastBy key l = some i) : i ∈ l := by
  induction l with
  | nil => cases h
  | cons x rest ih =>
    cases hr : leastBy key rest with
    | none =>
      simp only [leastBy, hr, Option.some.injEq] at h
      exact h ▸ List.mem_cons_self
    | some j =>
      simp only [leastBy, hr] at h
      split at h
      · exact List.mem_cons_of_mem x (ih (hr.trans h))
      · exact Option.some.inj h ▸ List.mem_cons_self

/-- In a rising list, the entry whose key none undercuts and which comes first among equals. -/
theorem leastBy_eq_some {i : Nat} (hl : l.Pairwise (· < ·)) (hi : i ∈ l)
    (h : ∀ j ∈ l, key i < key j ∨ (key i = key j ∧ i ≤ j)) : leastBy key l = some i := by
  induction l with
  | nil => cases hi
  | cons x rest ih =>
    obtain ⟨hx, hrest⟩ := List.pairwise_cons.1 hl
    rcases List.mem_cons.1 hi with rfl | hi
    · cases hr : leastBy key rest with
      | none => simp only [leastBy, hr]
      | some j =>
        have hj := h j (List.mem_cons_of_mem i (leastBy_mem hr))
        simp only [leastBy, hr, if_neg (show ¬ key j < key i by omega)]
    · have hlt : key i < key x := by
        have := hx i hi
        have := h x List.mem_cons_self
        omega
      simp only [leastBy, ih hrest hi fun j hj => h j (List.mem_cons_of_mem x hj), if_pos hlt]

end

/-! ### The voice for ANY (R90) -/

section
variable {s : State}

theorem mem_voices_filter {i : Nat} {p : Nat → Bool} : i ∈ [0, 1, 2, 3].filter p ↔ i < 4 ∧ p i = true := by
  rw [show [0, 1, 2, 3] = List.range 4 from rfl, List.mem_filter, List.mem_range]

theorem voices_filter_nil {p : Nat → Bool} (h : ∀ j < 4, ¬ p j = true) : [0, 1, 2, 3].filter p = [] :=
  List.filter_eq_nil_iff.2 fun j hj => h j (List.mem_range.1 hj)

theorem voices_filter_rising (p : Nat → Bool) : ([0, 1, 2, 3].filter p).Pairwise (· < ·) :=
  List.Pairwise.filter p (by decide)

/-- The voices that fade, in their order. -/
def fadingVoices (s : State) : List Nat := [0, 1, 2, 3].filter fun i => (s.voice i).state == .releasing

/-- The voices that a play of priority `pr` may take, in their order. -/
def lowerVoices (s : State) (pr : Nat) : List Nat :=
  [0, 1, 2, 3].filter fun i => decide ((s.voice i).priority ≤ pr)

theorem anyVoice_idle {i : Nat} (pr : Nat) (hi : i < 4) (h : (s.voice i).state = .idle)
    (hb : ∀ j < i, ¬ (s.voice j).state = .idle) : anyVoice s pr = some i := by
  have found : ([0, 1, 2, 3].find? fun i => (s.voice i).state == .idle) = some i :=
    List.find?_range_eq_some.2 ⟨by simp [h], List.mem_range.2 hi, fun j hj => by simp [hb j hj]⟩
  simp only [anyVoice, found]

variable (hb : ∀ j < 4, ¬ (s.voice j).state = .idle)
include hb

theorem anyVoice_busy_eq (pr : Nat) : anyVoice s pr =
    match leastBy (fun i => (s.voice i).env) (fadingVoices s) with
    | some i => some i
    | none => leastBy (fun i => 4294967296 - playAge s.btg.tickCounter (s.voice i)) (lowerVoices s pr) := by
  have none : ([0, 1, 2, 3].find? fun i => (s.voice i).state == .idle) = none :=
    List.find?_eq_none.2 fun j hj => by simp [hb j (List.mem_range.1 hj)]
  simp only [anyVoice, none]
  rfl

/-- Without an IDLE voice the faintest fading one is taken. -/
theorem anyVoice_fading {i : Nat} (pr : Nat) (hi : i < 4) (h : (s.voice i).state = .releasing)
    (hl : ∀ j < 4, (s.voice j).state = .releasing → (s.voice i).env < (s.voice j).env ∨
      ((s.voice i).env = (s.voice j).env ∧ i ≤ j)) : anyVoice s pr = some i := by
  have least : leastBy (fun i => (s.voice i).env) (fadingVoices s) = some i := by
    refine leastBy_eq_some (voices_filter_rising _) (mem_voices_filter.2 ⟨hi, by simp [h]⟩) fun j hj => ?_
    obtain ⟨hj, hf⟩ := mem_voices_filter.1 hj
    exact hl j hj (beq_iff_eq.1 hf)
  rw [anyVoice_busy_eq hb, least]

variable (hf : ∀ j < 4, ¬ (s.voice j).state = .releasing)
include hf

/-- Without a fading voice the oldest play of a priority not above the request's gives its voice. -/
theorem anyVoice_oldest {i pr : Nat} (hi : i < 4) (h : (s.voice i).priority ≤ pr)
    (hl : ∀ j < 4, (s.voice j).priority ≤ pr →
      playAge s.btg.tickCounter (s.voice j) < playAge s.btg.tickCounter (s.voice i) ∨
      (playAge s.btg.tickCounter (s.voice j) = playAge s.btg.tickCounter (s.voice i) ∧ i ≤ j)) :
    anyVoice s pr = some i := by
  have bound (v : Voice) : playAge s.btg.tickCounter v < 4294967296 := Nat.mod_lt _ (by decide)
  have nil : fadingVoices s = [] := voices_filter_nil fun j hj => by simpa using hf j hj
  have oldest : leastBy (fun i => 4294967296 - playAge s.btg.tickCounter (s.voice i)) (lowerVoices s pr) =
      some i := by
    refine leastBy_eq_some (voices_filter_rising _) (mem_voices_filter.2 ⟨hi, by simp [h]⟩) fun j hj => ?_
    obtain ⟨hj, hp⟩ := mem_voices_filter.1 hj
    have older := hl j hj (of_decide_eq_true hp)
    have := bound (s.voice i)
    have := bound (s.voice j)
    omega
  rw [anyVoice_busy_eq hb, nil, oldest]
  rfl

theorem anyVoice_none {pr : Nat} (h : ∀ j < 4, pr < (s.voice j).priority) : anyVoice s pr = none := by
  have fading : fadingVoices s = [] := voices_filter_nil fun j hj => by simpa using hf j hj
  have lower : lowerVoices s pr = [] := voices_filter_nil fun j hj => by simpa using h j hj
  rw [anyVoice_busy_eq hb, fading, lower]
  rfl

end

/-! ### The tests of PLAY_SOUND (R88 to R90) -/

theorem waveformOf_isSome {n : Nat} : (waveformOf n).isSome = true ↔ n < 3 := by
  match n with
  | 0 | 1 | 2 => simp [waveformOf]
  | n + 3 => simp [waveformOf]

theorem waveformOk_iff {f : VoiceFields} :
    VoiceFields.waveformOk f = true ↔ ∀ w, f.waveform = some w → w < 3 := by
  unfold VoiceFields.waveformOk
  cases f.waveform with
  | none => simp
  | some n => simp [waveformOf_isSome]

theorem entryBeyond_iff {st : Settings} {i : Nat} : entryBeyond st i = true ↔
    65536 * st.memUnits ≤ st.dirOffset + 10 * i + 9 := decide_eq_true_iff

section
variable {a : Ask} {voice pattern priority : Nat} {endNotice : Bool} {f : VoiceFields} {s : State}

theorem exec_playSound (h : Heard s a .playSound) :
    exec (.playSound a voice pattern priority endNotice f) s =
      .next (servePlaySound a voice pattern priority endNotice f s) :=
  exec_heard (e := ⟨a, .playSound voice pattern priority endNotice f⟩) rfl h

theorem servePlaySound_badArg
    (h : 5 ≤ voice ∨ (∃ w, f.waveform = some w ∧ 3 ≤ w) ∨ s.settings.dirCount ≤ pattern) :
    servePlaySound a voice pattern priority endNotice f s = reply a .playSound .badArg .none s := by
  unfold servePlaySound
  dsimp only
  split
  · rfl
  · next hv =>
    refine if_pos (h.elim (fun h => absurd (.inl h) hv) fun h => h.elim (fun h => ?_) id)
    obtain ⟨w, hw, h3⟩ := h
    exact absurd (.inr fun ok => absurd (waveformOk_iff.1 ok w hw) (by omega)) hv

section
variable (h : ¬ (5 ≤ voice ∨ (∃ w, f.waveform = some w ∧ 3 ≤ w) ∨ s.settings.dirCount ≤ pattern))
include h

theorem servePlaySound_tested : servePlaySound a voice pattern priority endNotice f s =
    if entryBeyond s.settings pattern then reply a .playSound .noSuch .none s
    else match chooseVoice s voice (playPriority priority) with
      | none => reply a .playSound .busy .none s
      | some i => takeVoice a i pattern (playPriority priority) endNotice (VoiceFields.clamped f) s := by
  have ok : VoiceFields.waveformOk f = true :=
    waveformOk_iff.2 fun w hw => by_contra fun h3 => h (.inr (.inl ⟨w, hw, by omega⟩))
  exact (if_neg (not_or_intro (fun hv => h (.inl hv)) (not_not_intro ok))).trans
    (if_neg fun hp => h (.inr (.inr hp)))

theorem servePlaySound_noSuch (hb : 65536 * s.settings.memUnits ≤ s.settings.dirOffset + 10 * pattern + 9) :
    servePlaySound a voice pattern priority endNotice f s = reply a .playSound .noSuch .none s := by
  rw [servePlaySound_tested h, if_pos (entryBeyond_iff.2 hb)]

variable (hb : ¬ 65536 * s.settings.memUnits ≤ s.settings.dirOffset + 10 * pattern + 9)
include hb

theorem servePlaySound_busy (hc : chooseVoice s voice (min priority 3) = none) :
    servePlaySound a voice pattern priority endNotice f s = reply a .playSound .busy .none s := by
  rw [servePlaySound_tested h, if_neg (mt entryBeyond_iff.1 hb), playPriority, hc]

theorem servePlaySound_takes {i : Nat} (hc : chooseVoice s voice (min priority 3) = some i) :
    servePlaySound a voice pattern priority endNotice f s =
      takeVoice a i pattern (min priority 3) endNotice (VoiceFields.clamped f) s := by
  rw [servePlaySound_tested h, if_neg (mt entryBeyond_iff.1 hb), playPriority, hc]

end

theorem chooseVoice_any (pr : Nat) : chooseVoice s 4 pr = anyVoice s pr := if_pos rfl

theorem chooseVoice_named {pr : Nat} (hv : voice < 4)
    (h : (s.voice voice).state = .idle ∨ (s.voice voice).priority ≤ pr) :
    chooseVoice s voice pr = some voice := by
  rw [chooseVoice, if_neg (by omega), if_pos h]

theorem chooseVoice_held {pr : Nat} (hv : voice < 4) (h : ¬ (s.voice voice).state = .idle)
    (hp : pr < (s.voice voice).priority) : chooseVoice s voice pr = none := by
  rw [chooseVoice, if_neg (by omega), if_neg (not_or_intro h (by omega))]

end

/-! ### The taking of a voice (R91 to R93) -/

/-- The play that a voice holds is told as over: an owed lookup reply CANCELLED, or a confirmed play's end
REPLACED (R93, R111). -/
def voiceLeft (i : Nat) (s : State) : State :=
  match (s.voice i).owed with
  | some o => replyOwed o .playSound .cancelled .none s
  | none =>
    if (s.voice i).state ≠ .idle ∧ (s.voice i).endNotice = true then
      raiseTo (s.voice i).requester
        (.cueEnd i (s.voice i).playNo (s.voice i).pattern .replaced) s
    else s

/-- A voice after a started play: a result that the cache gives is answered at once (R76, R92). -/
def voiceStarted (i : Nat) : State × Option Lookup → State
  | (t, none) => t
  | (t, some l) => soundResult i l t

section
variable {s : State} {i : Nat}

/-- The old play's end as it is told, apart from the voice's record. -/
theorem withVoice_voiceLeft (w : Voice) : (cancelVoiceOwed i (endCue i .replaced s)).withVoice i w =
    (voiceLeft i s).withVoice i w := by
  have hvoice : (endCue i .replaced s).voice i = s.voice i := voice_of_se (endCue_se i _ s) i
  rw [cancelVoiceOwed, voiceLeft, hvoice, endCue_eq]
  cases (s.voice i).owed with
  | none => simp only [true_and]
  | some o => simp [replyOwed_withVoice, withVoice_withVoice]

/-- The voice whose play is over owes no reply (R93). -/
theorem voice_cancelVoiceOwed (hi : i < 4) : (cancelVoiceOwed i (endCue i .replaced s)).voice i =
    { s.voice i with owed := none } := by
  have hvoice : (endCue i .replaced s).voice i = s.voice i := voice_of_se (endCue_se i _ s) i
  rw [cancelVoiceOwed, hvoice]
  cases ho : (s.voice i).owed with
  | none =>
    dsimp only
    rw [hvoice, ← ho]
  | some o =>
    dsimp only
    rw [replyOwed_withVoice, voice_withVoice _ hi]

/-- The taking of a voice forgets which reply its old play owed. -/
theorem Voice.taken_owed (v : Voice) (o : Option Owed) (a : Ask) (pattern priority : Nat) (endNotice : Bool)
    (tick : Nat) (f : PendingChange) : ({ v with owed := o } : Voice).taken a pattern priority endNotice tick f =
      v.taken a pattern priority endNotice tick f := by
  unfold taken applyChange
  cases v.change.transpose <;> rfl

/-- The taking of a voice: the old play told as over, the new record, and its start (R91). -/
theorem takeVoice_eq (hi : i < 4) (a : Ask) (pattern priority : Nat) (endNotice : Bool)
    (f : PendingChange) : takeVoice a i pattern priority endNotice f s =
      voiceStarted i (startPlay (i + 1) pattern (((s.voice i).playNo + 1) % 256)
        ((voiceLeft i s).withVoice i
          ((s.voice i).taken a pattern priority endNotice s.btg.tickCounter f))) := by
  have hbtg : (cancelVoiceOwed i (endCue i .replaced s)).btg = s.btg :=
    ((endCue_sounds i _ s).trans (cancelVoiceOwed_sounds i _)).btg
  unfold takeVoice
  dsimp only
  rw [voice_cancelVoiceOwed hi, Voice.taken_owed, hbtg, withVoice_voiceLeft, voice_withVoice _ hi]
  rfl

/-! ### A lookup's result (R92) -/

theorem soundResult_unowed (l : Lookup) (h : (s.voice i).owed = none) : soundResult i l s = s := by
  simp only [soundResult, h]

variable {o : Owed} (h : (s.voice i).owed = some o)
include h

theorem soundResult_valid (e : DirEntry) : soundResult i (.valid e) s =
    replyOwed o .playSound .done
      (.soundPlay i (s.voice i).playNo (s.voice i).priority (s.voice i).inUse)
      (s.withVoice i { s.voice i with owed := none }) := by
  simp only [soundResult, h]

/-- A failed lookup puts the voice at rest and is told. -/
theorem soundResult_failed (hi : i < 4) {l : Lookup} {c : Code}
    (hl : (l = .noSuch ∧ c = .noSuch) ∨ (l = .badPattern ∧ c = .badPattern)) : soundResult i l s =
      replyOwed o .playSound c .none
        (s.withVoice i ({ s.voice i with owed := none } : Voice).resting) := by
  have rest (v : Voice) : restVoice i (s.withVoice i v) = s.withVoice i v.resting := by
    rw [restVoice_eq, voice_withVoice _ hi, withVoice_withVoice]
  rcases hl with ⟨rfl, rfl⟩ | ⟨rfl, rfl⟩
  all_goals simp only [soundResult, h, rest]

end

/-! ### A delivery (R83, R94) -/

section
variable {s : State} {i : Nat}

theorem askSteps_se (p : Nat) (s : State) : (askSteps p s).se = s.se := (askSteps_rumbles p s).se

/-- The first delivered step begins in a voice that waits for it. -/
theorem soundDelivery_begins {note length level : Nat} {again : Bool} {more : List Step}
    (hv : (s.voice i).state = .starting ∨ (s.voice i).state = .starved)
    (hb : (s.fetchRec (i + 1)).buffer = .sound note length level again :: more) :
    soundDelivery i s =
      (askSteps (i + 1) (s.withFetchRec (i + 1) { s.fetchRec (i + 1) with buffer := more })).withVoice i
        (({ s.voice i with state := .playing, ticksLeft := length } : Voice).beginNote note level again) := by
  have hvoice (r : FetchRec) : (askSteps (i + 1) (s.withFetchRec (i + 1) r)).voice i = s.voice i :=
    voice_of_se (askSteps_se _ _) i
  rw [soundDelivery, if_pos ⟨hv, by simp [hb]⟩, takeSoundStep, nextStep_step hb]
  simp only [beginSoundStep, hvoice]

theorem soundDelivery_waits (h : (s.fetchRec (i + 1)).buffer = [] ∨
    ((s.voice i).state ≠ .starting ∧ (s.voice i).state ≠ .starved)) : soundDelivery i s = s := by
  refine if_neg fun ⟨hv, hb⟩ => ?_
  rcases h with h | ⟨h1, h2⟩
  · exact hb (by simp [h])
  · exact hv.elim h1 h2

end

/-- Settles O48: the tests in order (`servePlaySound_badArg` to `servePlaySound_busy`), the voice that
`chooseVoice` finds, and the record that `takeVoice_eq` gives it. -/
theorem playSoundIsRefusedOrTakesAVoice : Obligations.PlaySoundIsRefusedOrTakesAVoice := by
  intro a voice pattern priority endNotice f s heard run no pr prio idle fading age bad beyond takes
  have hrun : run = .next (servePlaySound a voice pattern priority endNotice f s) := exec_playSound heard
  have taken {i : Nat} (hb : ¬ bad) (hy : ¬ beyond) (hi : i < 4)
      (hc : chooseVoice s voice pr = some i) : takes i := by
    show run = .next _
    rw [hrun, servePlaySound_takes hb hy hc, takeVoice_eq hi]
    rfl
  have busy (hb : ¬ bad) (hy : ¬ beyond) (hc : chooseVoice s voice pr = none) : run = .next (no .busy) := by
    rw [hrun, servePlaySound_busy hb hy hc]
  refine ⟨fun hb => ?_, fun hb hy => ?_, fun hb hy hv h => taken hb hy hv (chooseVoice_named hv h),
    fun hb hy hv hi hp => busy hb hy (chooseVoice_held hv hi hp), ?_, ?_, ?_⟩
  · rw [hrun, servePlaySound_badArg hb]
  · rw [hrun, servePlaySound_noSuch hb hy]
  · rintro hb hy rfl i hi h hj
    exact taken hb hy hi ((chooseVoice_any pr).trans (anyVoice_idle pr hi h hj))
  · rintro hb hy rfl hidle
    refine ⟨fun i hi h hl => taken hb hy hi ((chooseVoice_any pr).trans (anyVoice_fading hidle pr hi h hl)),
      fun hfading => ⟨fun i hi h hl => taken hb hy hi
        ((chooseVoice_any pr).trans (anyVoice_oldest hidle hfading hi h hl)),
        fun h => busy hb hy ((chooseVoice_any pr).trans (anyVoice_none hidle hfading h))⟩⟩
  · intro i hi v r rest
    exact ⟨fun l => soundResult_unowed l, fun o ho => ⟨soundResult_valid ho,
      soundResult_failed ho hi (.inl ⟨rfl, rfl⟩), soundResult_failed ho hi (.inr ⟨rfl, rfl⟩)⟩,
      fun note length level again more => soundDelivery_begins, soundDelivery_waits⟩

end Sys2Proof.Machine
end

section
/-! SUPPORT. PLAY_RUMBLE and STEADY_RUMBLE: their tests, the taking of the player, the play's start, and how
the Budget Unit follows the player's steps (R118 to R122, R125, R127, R132, R145, R153). -/

namespace Sys2Proof.Machine

/-! ### The Budget Unit follows (R145, R153) -/

section
variable {s₀ s : State}

theorem budgetInputs_eq_iff : budgetInputs s₀ = budgetInputs s ↔
    s₀.se.gTarget = s.se.gTarget ∧ s₀.se.gEff = s.se.gEff ∧ s₀.rd.dRes = s.rd.dRes ∧
      s₀.rd.dEff = s.rd.dEff := by
  simp only [budgetInputs, Prod.mk.injEq]

theorem recomputeSince_same (h : budgetInputs s₀ = budgetInputs s) : recomputeSince s₀ s = s := if_pos h

theorem recomputeSince_changed (h : budgetInputs s₀ ≠ budgetInputs s) : recomputeSince s₀ s = recompute s :=
  if_neg h

theorem recomputeSince_budgets (s₀ s : State) : Budgets s (recomputeSince s₀ s) := by
  by_cases h : budgetInputs s₀ = budgetInputs s
  · rw [recomputeSince_same h]
    rfl
  · rw [recomputeSince_changed h]
    exact recompute_budgets s

/-- Of the Rumble Driver a recomputation may change the duty cap and the duty in use alone (R148). -/
theorem recomputeSince_rd (s₀ s : State) : (recomputeSince s₀ s).rd = { s.rd with
    dBudget := (recomputeSince s₀ s).rd.dBudget, dEff := (recomputeSince s₀ s).rd.dEff } :=
  (congrArg State.rd (recomputeSince_budgets s₀ s)).trans rfl

theorem reportable_iff {t : State} : t.reportable = true ↔ 0 < t.rd.dRes ∧ t.ps.state = .active ∧
    t.bu.raise = none ∧ t.bu.listenEnd = none := by
  simp [State.reportable, and_assoc]

theorem budgetFollow_unreported
    (h : ¬ (s.rd.dRes ≠ s₀.rd.dRes ∧ (recomputeSince s₀ s).reportable = true)) :
    budgetFollow s₀ s = recomputeSince s₀ s := if_neg h

theorem budgetFollow_reported
    (h : s.rd.dRes ≠ s₀.rd.dRes ∧ (recomputeSince s₀ s).reportable = true) :
    budgetFollow s₀ s = report (recomputeSince s₀ s) := if_pos h

/-- With no duty reserved there is nothing to report (R153). -/
theorem budgetFollow_unreserved (h : s.rd.dRes = 0) : budgetFollow s₀ s = recomputeSince s₀ s := by
  refine budgetFollow_unreported fun ⟨_, hr⟩ => ?_
  have pos := (reportable_iff.1 hr).1
  rw [recomputeSince_rd] at pos
  exact pos.ne' h

end

/-! ### Refusals (R118, R132) -/

theorem Rumble.running_iff (r : Rumble) : r.running = true ↔
    r.player = .starting ∨ r.player = .playing ∨ r.player = .starved ∨ r.player = .steady := by
  cases h : r.player <;> simp [Rumble.running, h]

section
variable {r : Rumble} {pr : Nat}

theorem rumbleRefusal_faulted (h : r.player = .faulted) :
    rumbleRefusal r pr = some (.motorFault, faultData r.lastFault) := if_pos h

theorem rumbleRefusal_busy (h : r.player = .checking ∨ ((r.player = .starting ∨ r.player = .playing ∨
    r.player = .starved ∨ r.player = .steady) ∧ pr < r.priority)) :
    rumbleRefusal r pr = some (.busy, .none) := by
  have notFaulted : r.player ≠ .faulted := by
    intro hf
    simp [hf] at h
  rw [rumbleRefusal, if_neg notFaulted]
  rcases h with h | ⟨h, hp⟩
  · exact if_pos h
  · have stronger : (r.running && decide (pr < r.priority)) = true := by
      rw [r.running_iff.2 h, decide_eq_true hp]
      rfl
    rw [if_pos stronger, ite_self]

theorem rumbleRefusal_none (hf : r.player ≠ .faulted) (hc : r.player ≠ .checking)
    (hp : r.player = .starting ∨ r.player = .playing ∨ r.player = .starved ∨ r.player = .steady →
      r.priority ≤ pr) : rumbleRefusal r pr = none := by
  have weaker : ¬ (r.running && decide (pr < r.priority)) = true := by
    rw [Bool.and_eq_true, decide_eq_true_iff]
    exact fun ⟨h, hlt⟩ => absurd (hp (r.running_iff.1 h)) (by omega)
  rw [rumbleRefusal, if_neg hf, if_neg hc, if_neg weaker]

end

/-! ### The taking of the player (R119, R127) -/

/-- The play that the player holds is told as over: an owed lookup reply CANCELLED, or a confirmed play's
end, REPLACED or with the reason that its braking recorded (R120, R127). -/
def rumbleLeft (s : State) : State :=
  match s.rd.owed with
  | some o => replyOwed o .playRumble .cancelled .none s
  | none =>
    if ((s.rd.player = .starting ∨ s.rd.player = .playing ∨ s.rd.player = .starved ∨
        s.rd.player = .steady) ∨ s.rd.player = .braking) ∧ s.rd.endNotice = true then
      raiseTo s.rd.requester (.rumbleEnd s.rd.playNo s.rd.kind
        (match s.rd.kind with | .pattern => some s.rd.pattern | .steady => none)
        (if s.rd.player = .braking then s.rd.endReason.getD .replaced else .replaced)) s
    else s

section
variable {s : State}

theorem endRumble_owed (why : EndReason) {o : Owed} (h : s.rd.owed = some o) : endRumble why s = s := by
  simp [endRumble, h]

theorem endRumble_unowed (h : s.rd.owed = none) : endRumble .replaced s = rumbleLeft s := by
  have hkind : (if s.rd.kind = .pattern then some s.rd.pattern else none) =
      match s.rd.kind with | .pattern => some s.rd.pattern | .steady => none := by
    cases s.rd.kind <;> rfl
  unfold endRumble rumbleLeft
  rw [h]
  dsimp only
  rw [hkind]
  refine if_congr ?_ rfl rfl
  rw [Bool.and_eq_true, Bool.and_eq_true, Rumble.holdsPlay_iff, h]
  simp

theorem endRumble_rd (why : EndReason) (s : State) : (endRumble why s).rd = s.rd := by
  unfold endRumble
  dsimp only
  split
  · exact raiseTo_rd ..
  · rfl

/-- The old play's end as it is told, and the player that owes no reply. -/
theorem cancelRumbleOwed_endRumble (s : State) : cancelRumbleOwed (endRumble .replaced s) =
    (rumbleLeft s).withRd { s.rd with owed := none } := by
  rw [cancelRumbleOwed_eq, endRumble_rd]
  refine congrArg (State.withRd · _) ?_
  cases h : s.rd.owed with
  | none =>
    rw [endRumble_unowed h, rumbleCancelled, h]
  | some o => rw [endRumble_owed _ h, rumbleCancelled, rumbleLeft, h]

/-- The player taken for a new play: its record closed, its drive off, no duty reserved (R119). -/
theorem takePlayer_eq (a : Ask) (kind : PlayKind) (pattern priority : Nat) (endNotice : Bool) (s : State) :
    takePlayer a kind pattern priority endNotice s = recomputeSince s
      ((closeRec 0 (rumbleLeft s)).withRd (s.rd.taken a.source kind pattern priority endNotice)) := by
  unfold takePlayer
  rw [cancelRumbleOwed_endRumble]
  exact budgetFollow_unreserved rfl

theorem takePlayer_playNo (a : Ask) (kind : PlayKind) (pattern priority : Nat) (endNotice : Bool)
    (s : State) : (takePlayer a kind pattern priority endNotice s).rd.playNo = (s.rd.playNo + 1) % 256 := by
  rw [takePlayer_eq, recomputeSince_rd]
  rfl

theorem takePlayer_raiseEnded (a : Ask) (kind : PlayKind) (pattern priority : Nat) (endNotice : Bool)
    (s : State) : (takePlayer a kind pattern priority endNotice s).rd.raiseEnded = false := by
  rw [takePlayer_eq, recomputeSince_rd]
  rfl

end

/-! ### PLAY_RUMBLE (R118 to R120) -/

section
variable {a : Ask} {pattern priority : Nat} {endNotice : Bool} {s : State}

theorem exec_playRumble (h : Heard s a .playRumble) :
    exec (.playRumble a pattern priority endNotice) s =
      .next (servePlayRumble a pattern priority endNotice s) :=
  exec_heard (e := ⟨a, .playRumble pattern priority endNotice⟩) rfl h

theorem servePlayRumble_badArg (h : s.settings.dirCount ≤ pattern) :
    servePlayRumble a pattern priority endNotice s = reply a .playRumble .badArg .none s := if_pos h

variable (hp : pattern < s.settings.dirCount)
include hp

theorem servePlayRumble_noSuch
    (hb : 65536 * s.settings.memUnits ≤ s.settings.dirOffset + 10 * pattern + 9) :
    servePlayRumble a pattern priority endNotice s = reply a .playRumble .noSuch .none s :=
  (if_neg (by omega)).trans (if_pos (entryBeyond_iff.2 hb))

variable (hb : ¬ 65536 * s.settings.memUnits ≤ s.settings.dirOffset + 10 * pattern + 9)
include hb

theorem servePlayRumble_refused {c : Code} {d : ReplyData}
    (h : rumbleRefusal s.rd (min priority 3) = some (c, d)) :
    servePlayRumble a pattern priority endNotice s = reply a .playRumble c d s := by
  simp only [servePlayRumble, if_neg hp.not_ge, if_neg (mt entryBeyond_iff.1 hb), playPriority, h]

/-- A player's record after a started play: a result that the cache gives is answered at once (R76, R120). -/
def rumbleStarted : State × Option Lookup → State
  | (t, none) => t
  | (t, some l) => grant (budgetFollow t (rumbleResult l t))

theorem servePlayRumble_takes (h : rumbleRefusal s.rd (min priority 3) = none) :
    servePlayRumble a pattern priority endNotice s =
      let u := takePlayer a .pattern pattern (min priority 3) endNotice s
      rumbleStarted (startPlay 0 pattern ((s.rd.playNo + 1) % 256)
        (u.withRd { u.rd with owed := some (owedTo a) })) := by
  simp only [servePlayRumble, if_neg hp.not_ge, if_neg (mt entryBeyond_iff.1 hb), playPriority, h,
    State.withRd_rd, takePlayer_playNo]
  rfl

end

/-! ### STEADY_RUMBLE (R125) -/

section
variable {a : Ask} {duty duration priority : Nat} {endNotice : Bool} {s : State}

theorem exec_steadyRumble (h : Heard s a .steadyRumble) :
    exec (.steadyRumble a duty duration priority endNotice) s =
      .next (serveSteadyRumble a duty duration priority endNotice s) :=
  exec_heard (e := ⟨a, .steadyRumble duty duration priority endNotice⟩) rfl h

theorem serveSteadyRumble_refused {c : Code} {d : ReplyData}
    (h : rumbleRefusal s.rd (min priority 3) = some (c, d)) :
    serveSteadyRumble a duty duration priority endNotice s = reply a .steadyRumble c d s := by
  simp only [serveSteadyRumble, playPriority, h]

theorem serveSteadyRumble_takes (h : rumbleRefusal s.rd (min priority 3) = none) :
    serveSteadyRumble a duty duration priority endNotice s =
      let u := takePlayer a .steady s.rd.pattern (min priority 3) endNotice s
      budgetFollow u (tryStart (reply a .steadyRumble .done
        (.steadyPlay ((s.rd.playNo + 1) % 256) duty duration (min priority 3)) (u.withRd { u.rd with
          steadyDuty := duty, duration := if duration = 0 then none else some duration
          dRes := duty, raiseEnded := decide (duty = 0) }))) := by
  simp only [serveSteadyRumble, playPriority, h, takePlayer_playNo, takePlayer_raiseEnded,
    Bool.false_or]
  rfl

end

/-! ### A lookup's result (R120) -/

section
variable {s : State} {o : Owed} (h : s.rd.owed = some o)
include h

theorem rumbleResult_valid (e : DirEntry) : rumbleResult (.valid e) s =
    tryStart (replyOwed o .playRumble .done (.rumblePlay s.rd.playNo s.rd.priority e.peakDuty)
      (s.withRd { s.rd with owed := none, peak := e.peakDuty, dRes := e.peakDuty
                            raiseEnded := s.rd.raiseEnded || e.peakDuty == 0 })) := by
  simp only [rumbleResult, h]
  rfl

theorem rumbleResult_failed {l : Lookup} {c : Code}
    (hl : (l = .noSuch ∧ c = .noSuch) ∨ (l = .badPattern ∧ c = .badPattern)) :
    rumbleResult l s = replyOwed o .playRumble c .none (s.withRd { s.rd with
      owed := none, player := .idle, mode := .off, dReq := 0, dRes := 0, dEff := 0 }) := by
  rcases hl with ⟨rfl, rfl⟩ | ⟨rfl, rfl⟩
  all_goals
    simp only [rumbleResult, h]
    rfl

end

/-! ### A play starts (R83, R121, R122, R125) -/

section
variable {s : State}

theorem tryStart_raising (h : s.rd.raiseEnded = false) : tryStart s = s := if_neg (by simp [h])

theorem tryStart_steady (hp : s.rd.player = .starting) (he : s.rd.raiseEnded = true)
    (ho : s.rd.owed = none) (hk : s.rd.kind = .steady) : tryStart s = refreshDuty (s.withRd { s.rd with
      player := .steady, mode := .drive, dReq := s.rd.steadyDuty }) := by
  rw [tryStart, if_pos ⟨hp, he, ho⟩, hk]

theorem takeRumbleStep_step {x : Step} {rest : List Step} (h : (s.fetchRec 0).buffer = x :: rest) :
    takeRumbleStep s =
      beginRumbleStep x (askSteps 0 (s.withFetchRec 0 { s.fetchRec 0 with buffer := rest })) := by
  rw [takeRumbleStep, nextStep_step h]

theorem tryStart_undelivered (hk : s.rd.kind = .pattern) (hb : (s.fetchRec 0).buffer = []) :
    tryStart s = s := by
  rw [tryStart, hk, hb]
  exact ite_self s

theorem tryStart_delivered (hp : s.rd.player = .starting) (he : s.rd.raiseEnded = true)
    (ho : s.rd.owed = none) (hk : s.rd.kind = .pattern) {x : Step} {rest : List Step}
    (hb : (s.fetchRec 0).buffer = x :: rest) : tryStart s =
      beginRumbleStep x (askSteps 0 (s.withFetchRec 0 { s.fetchRec 0 with buffer := rest })) := by
  rw [tryStart, if_pos ⟨hp, he, ho⟩, hk, ← takeRumbleStep_step hb]
  exact if_neg (by simp [hb])

theorem rumbleDelivery_starved (hp : s.rd.player = .starved) {x : Step} {rest : List Step}
    (hb : (s.fetchRec 0).buffer = x :: rest) : rumbleDelivery s =
      beginRumbleStep x (askSteps 0 (s.withFetchRec 0 { s.fetchRec 0 with buffer := rest })) := by
  rw [rumbleDelivery, if_pos hp, if_neg (by simp [hb]), takeRumbleStep_step hb]

theorem rumbleDelivery_empty (hp : s.rd.player = .starved) (hb : (s.fetchRec 0).buffer = []) :
    rumbleDelivery s = s := by
  rw [rumbleDelivery, if_pos hp, if_pos (by simp [hb])]

theorem takeReport_unchecked (h : s.rd.check = none) :
    takeReport s = tryStart (s.withRd { s.rd with raiseEnded := true }) := by
  simp only [takeReport, State.withRd_rd, h]

end

/-- Settles O53: the tests in order (`rumbleRefusal_faulted` to `rumbleRefusal_none`), the player as
`takePlayer_eq` leaves it, and what follows a step by whether a value changed and a report is due. -/
theorem rumbleRequestsAreRefusedOrTakeThePlayer :
    Obligations.RumbleRequestsAreRefusedOrTakeThePlayer := by
  intro a priority endNotice s pr r running fault free left taken
  have htaken (kind : PlayKind) (pattern : Nat) :
      takePlayer a kind pattern pr endNotice s = taken kind pattern := takePlayer_eq ..
  refine ⟨?_, ?_, fun o ho => ⟨rumbleResult_valid ho, fun l c => rumbleResult_failed ho⟩,
    fun _ => tryStart_raising, tryStart_steady, fun _ _ => tryStart_undelivered,
    fun duty length ramp brake rest hp he ho hk => tryStart_delivered hp he ho hk,
    fun x rest hp => rumbleDelivery_starved hp, rumbleDelivery_empty, fun hp => if_neg hp,
    takeReport_unchecked, ?_⟩
  · intro pattern heard run no beyond u
    have hrun : run = .next (servePlayRumble a pattern priority endNotice s) := exec_playRumble heard
    rw [hrun]
    refine ⟨fun hp => congrArg _ (servePlayRumble_badArg hp), fun hp hb => congrArg _
      (servePlayRumble_noSuch hp hb), fun hp hb => ⟨fun hf => congrArg _
      (servePlayRumble_refused hp hb (rumbleRefusal_faulted hf)), fun hc => congrArg _
      (servePlayRumble_refused hp hb (rumbleRefusal_busy hc)), fun ⟨hf, hc, hpr⟩ => ?_⟩⟩
    rw [servePlayRumble_takes hp hb (rumbleRefusal_none hf hc hpr), htaken]
    rfl
  · intro duty duration heard run no u
    have hrun : run = .next (serveSteadyRumble a duty duration priority endNotice s) :=
      exec_steadyRumble heard
    rw [hrun]
    refine ⟨fun hf => congrArg _ (serveSteadyRumble_refused (rumbleRefusal_faulted hf)),
      fun hc => congrArg _ (serveSteadyRumble_refused (rumbleRefusal_busy hc)), fun ⟨hf, hc, hpr⟩ => ?_⟩
    rw [serveSteadyRumble_takes (rumbleRefusal_none hf hc hpr), htaken]
    rfl
  · intro before same reports told
    have hsame (x y : State) : same x y ↔ budgetInputs x = budgetInputs y := budgetInputs_eq_iff.symm
    have hreports (t : State) : reports t ↔ s.rd.dRes ≠ before.rd.dRes ∧ t.reportable = true := by
      rw [reportable_iff]
    have follows : told (recomputeSince before s) := by
      refine ⟨fun h => budgetFollow_unreported (mt (hreports _).2 h), fun h hk => ?_, fun h hk => ?_⟩
      · rw [budgetFollow_reported ((hreports _).1 h), report, recomputeSince_same ((hsame _ _).1 hk)]
      · rw [budgetFollow_reported ((hreports _).1 h), report,
          recomputeSince_changed (mt (hsame _ _).2 hk)]
    refine ⟨fun h => ?_, fun h => ?_⟩
    · rwa [recomputeSince_same ((hsame _ _).1 h)] at follows
    · rwa [recomputeSince_changed (mt (hsame _ _).2 h)] at follows

end Sys2Proof.Machine
end

section
/-! SUPPORT. The drives stay limited in every step: D_eff stands at the effective duty, and the gain in use at
or below its ceiling and at 0 outside ACTIVE (R109, R113, R128). -/

namespace Sys2Proof.Machine

/-! ### Steps that leave the drives alone -/

/-- `t` holds what `s` holds in all that limits the drives: the Rumble Driver, the gain and its ceiling, the
settings and the power state. -/
structure DrivesAlone (s t : State) : Prop where
  rd : t.rd = s.rd
  gEff : t.se.gEff = s.se.gEff
  gCeiling : t.se.gCeiling = s.se.gCeiling
  settings : t.settings = s.settings
  state : t.ps.state = s.ps.state

theorem DrivesAlone.refl (s : State) : DrivesAlone s s := ⟨rfl, rfl, rfl, rfl, rfl⟩

theorem DrivesAlone.trans {s t u : State} (h : DrivesAlone s t) (k : DrivesAlone t u) : DrivesAlone s u :=
  ⟨k.rd.trans h.rd, k.gEff.trans h.gEff, k.gCeiling.trans h.gCeiling, k.settings.trans h.settings,
    k.state.trans h.state⟩

section
variable {s t : State}

theorem Posts.drivesAlone (h : Posts s t) : DrivesAlone s t := by
  unfold Posts at h
  constructor <;> rw [h]

theorem Stores.drivesAlone (h : Stores s t) : DrivesAlone s t := by
  unfold Stores at h
  constructor <;> rw [h]

theorem Clocks.drivesAlone (h : Clocks s t) : DrivesAlone s t := by
  unfold Clocks at h
  constructor <;> rw [h]

theorem DrivesAlone.reply (h : DrivesAlone s t) (a : Ask) (k : Kind) (c : Code) (d : ReplyData) :
    DrivesAlone s (reply a k c d t) := h.trans (reply_posts a k c d t).drivesAlone

theorem DrivesAlone.replyOwed (h : DrivesAlone s t) (o : Owed) (k : Kind) (c : Code) (d : ReplyData) :
    DrivesAlone s (replyOwed o k c d t) := h.trans (replyOwed_posts o k c d t).drivesAlone

end

/-! ### Updates of the other blocks -/

section
variable (s : State)

theorem withLif_drivesAlone (x : LineIf) : DrivesAlone s (s.withLif x) := ⟨rfl, rfl, rfl, rfl, rfl⟩
theorem withBtg_drivesAlone (x : BeatGen) : DrivesAlone s (s.withBtg x) := ⟨rfl, rfl, rfl, rfl, rfl⟩
theorem withPfu_drivesAlone (x : Fetch) : DrivesAlone s (s.withPfu x) := ⟨rfl, rfl, rfl, rfl, rfl⟩
theorem withBu_drivesAlone (x : Budget) : DrivesAlone s (s.withBu x) := ⟨rfl, rfl, rfl, rfl, rfl⟩
theorem withSs_drivesAlone (x : SaveStore) : DrivesAlone s (s.withSs x) := ⟨rfl, rfl, rfl, rfl, rfl⟩
theorem withCal_drivesAlone (x : Calendar) : DrivesAlone s (s.withCal x) := ⟨rfl, rfl, rfl, rfl, rfl⟩
theorem withNu_drivesAlone (x : Notices) : DrivesAlone s (s.withNu x) := ⟨rfl, rfl, rfl, rfl, rfl⟩
theorem withGuard_drivesAlone (x : GuardPin) : DrivesAlone s (s.withGuard x) := ⟨rfl, rfl, rfl, rfl, rfl⟩

theorem withVoice_drivesAlone (i : Nat) (v : Voice) : DrivesAlone s (s.withVoice i v) :=
  ⟨rfl, rfl, rfl, rfl, rfl⟩

theorem withFetchRec_drivesAlone (p : Nat) (r : FetchRec) : DrivesAlone s (s.withFetchRec p r) :=
  withPfu_drivesAlone s _

theorem reach_drivesAlone (d : Nat) : DrivesAlone s (reach d s) := ⟨rfl, rfl, rfl, rfl, rfl⟩

theorem setAck_drivesAlone (b : Bool) : DrivesAlone s (setAck b s) := withLif_drivesAlone s _

theorem count_drivesAlone (st : Stat) : DrivesAlone s (count st s) := (count_posts st s).drivesAlone

/-! ### The Pattern Fetch Unit -/

theorem grant_drivesAlone : DrivesAlone s (grant s) := withPfu_drivesAlone s _

theorem closeRec_drivesAlone (p : Nat) : DrivesAlone s (closeRec p s) := withFetchRec_drivesAlone s p _

theorem askSteps_drivesAlone (p : Nat) : DrivesAlone s (askSteps p s) := by
  unfold askSteps
  dsimp only
  split
  · exact withFetchRec_drivesAlone s p _
  · exact .refl s

theorem openRec_drivesAlone (p : Nat) (e : DirEntry) : DrivesAlone s (openRec p e s) :=
  (withFetchRec_drivesAlone s p _).trans (askSteps_drivesAlone _ p)

theorem startPlay_drivesAlone (p pattern playNo : Nat) :
    DrivesAlone s (startPlay p pattern playNo s).1 := by
  have fresh := withFetchRec_drivesAlone s p { fetchRecStart with playNo := playNo, pattern := pattern }
  unfold startPlay
  dsimp only
  split
  · split
    · exact ((fresh.trans (withPfu_drivesAlone _ _)).trans (openRec_drivesAlone _ p _)).trans
        (grant_drivesAlone _)
    · exact fresh.trans (withPfu_drivesAlone _ _)
  · exact (fresh.trans (withFetchRec_drivesAlone _ p _)).trans (grant_drivesAlone _)

theorem nextStep_drivesAlone (p : Nat) : DrivesAlone s (nextStep p s).2 := by
  unfold nextStep
  dsimp only
  split
  · exact (withFetchRec_drivesAlone s p _).trans (askSteps_drivesAlone _ p)
  · split
    · exact count_drivesAlone s _
    · exact .refl s

theorem deliver_drivesAlone (p j n : Nat) (bytes : List Byte) :
    DrivesAlone s (deliver p j n bytes s) := by
  unfold deliver
  dsimp only
  split
  · exact (withFetchRec_drivesAlone s p _).trans (askSteps_drivesAlone _ p)
  · exact .refl s

theorem learnt_drivesAlone (pattern : Nat) (raw : RawEntry) : DrivesAlone s (learnt pattern raw s) := by
  rw [learnt_frame]
  exact ⟨rfl, rfl, rfl, rfl, rfl⟩

theorem finishLookup_drivesAlone (p pattern playNo : Nat) (bytes : List Byte) :
    DrivesAlone s (finishLookup p pattern playNo bytes s).1 := by
  rw [finishLookup_eq]
  have seen := learnt_drivesAlone s pattern (readEntry bytes)
  split
  · split
    · exact seen.trans (openRec_drivesAlone _ p _)
    · exact seen.trans (withFetchRec_drivesAlone _ p _)
  · exact seen

/-! ### The voices of the Sound Engine -/

theorem endCue_drivesAlone (i : Nat) (why : EndReason) : DrivesAlone s (endCue i why s) := by
  rw [endCue_eq]
  split
  · exact (raiseTo_posts _ _ s).drivesAlone
  · exact .refl s

theorem restVoice_drivesAlone (i : Nat) : DrivesAlone s (restVoice i s) := withVoice_drivesAlone s i _

theorem finishVoice_drivesAlone (i : Nat) (why : EndReason) : DrivesAlone s (finishVoice i why s) :=
  (endCue_drivesAlone s i why).trans (restVoice_drivesAlone _ i)

theorem cancelVoiceOwed_drivesAlone (i : Nat) : DrivesAlone s (cancelVoiceOwed i s) := by
  unfold cancelVoiceOwed
  split
  · exact .refl s
  · exact (withVoice_drivesAlone s i _).replyOwed _ _ _ _

theorem releaseVoice_drivesAlone (i : Nat) (why : EndReason) : DrivesAlone s (releaseVoice i why s) := by
  have told := (closeRec_drivesAlone s (i + 1)).trans (withVoice_drivesAlone _ i
    { (closeRec (i + 1) s).voice i with endReason := some why })
  unfold releaseVoice
  dsimp only
  split
  · exact told.trans (finishVoice_drivesAlone _ i why)
  · exact told.trans (withVoice_drivesAlone _ i _)

theorem beginSoundStep_drivesAlone (i : Nat) (x : Step) : DrivesAlone s (beginSoundStep i x s) := by
  unfold beginSoundStep
  split
  · exact .refl s
  · exact withVoice_drivesAlone s i _

theorem takeSoundStep_drivesAlone (i : Nat) : DrivesAlone s (takeSoundStep i s) := by
  have h := nextStep_drivesAlone s (i + 1)
  unfold takeSoundStep
  split <;> rename_i h' <;> rw [h'] at h
  · exact h.trans (beginSoundStep_drivesAlone _ i _)
  · exact h.trans (releaseVoice_drivesAlone _ i _)
  · exact h.trans (withVoice_drivesAlone _ i _)

theorem soundDelivery_drivesAlone (i : Nat) : DrivesAlone s (soundDelivery i s) := by
  unfold soundDelivery
  dsimp only
  split
  · exact takeSoundStep_drivesAlone s i
  · exact .refl s

theorem envelopeTick_drivesAlone (i : Nat) : DrivesAlone s (envelopeTick i s) := by
  have moved := withVoice_drivesAlone s i (s.voice i).moveEnvelope
  unfold envelopeTick
  dsimp only
  split
  · exact moved
  · split
    · split
      · exact moved.trans (finishVoice_drivesAlone _ i _)
      · exact moved
    · exact .refl s

theorem soundStepWork_drivesAlone (i : Nat) : DrivesAlone s (soundStepWork i s) := by
  have counted := withVoice_drivesAlone s i { s.voice i with ticksLeft := (s.voice i).ticksLeft - 1 }
  unfold soundStepWork
  dsimp only
  split
  · split
    · exact counted.trans (takeSoundStep_drivesAlone _ i)
    · exact counted
  · exact .refl s

theorem voiceTick_drivesAlone (i : Nat) : DrivesAlone s (voiceTick i s) :=
  ((withVoice_drivesAlone s i _).trans (soundStepWork_drivesAlone _ i)).trans
    (envelopeTick_drivesAlone _ i)

theorem audioSample_drivesAlone : DrivesAlone s (audioSample s) := by
  unfold audioSample
  dsimp only
  split
  · split
    · exact (count_drivesAlone s .clips).trans ⟨rfl, rfl, rfl, rfl, rfl⟩
    · exact ⟨rfl, rfl, rfl, rfl, rfl⟩
  · exact ⟨rfl, rfl, rfl, rfl, rfl⟩

theorem stopVoice_drivesAlone (m : SoundStop) (i : Nat) : DrivesAlone s (stopVoice m i s) := by
  unfold stopVoice
  dsimp only
  split
  case h_1 => exact .refl s
  case h_5 =>
    split
    · exact .refl s
    · exact finishVoice_drivesAlone s i _
  all_goals
    split
    · exact ((cancelVoiceOwed_drivesAlone s i).trans (closeRec_drivesAlone _ _)).trans
        (restVoice_drivesAlone _ i)
    · split
      · exact releaseVoice_drivesAlone s i _
      · exact ((closeRec_drivesAlone s _).trans (finishVoice_drivesAlone _ i _)).trans
          (withVoice_drivesAlone _ i _)

theorem soundResult_drivesAlone (i : Nat) (l : Lookup) : DrivesAlone s (soundResult i l s) := by
  have confirmed := withVoice_drivesAlone s i { s.voice i with owed := none }
  unfold soundResult
  dsimp only
  split
  · exact .refl s
  · split
    · exact confirmed.replyOwed _ _ _ _
    · exact (confirmed.trans (restVoice_drivesAlone _ i)).replyOwed _ _ _ _
    · exact (confirmed.trans (restVoice_drivesAlone _ i)).replyOwed _ _ _ _

theorem takeVoice_drivesAlone (a : Ask) (i pattern priority : Nat) (endNotice : Bool)
    (f : PendingChange) : DrivesAlone s (takeVoice a i pattern priority endNotice f s) := by
  have started (v : Voice) (n : Nat) := (((endCue_drivesAlone s i .replaced).trans
    (cancelVoiceOwed_drivesAlone _ i)).trans (withVoice_drivesAlone _ i v)).trans
    (startPlay_drivesAlone _ (i + 1) pattern n)
  unfold takeVoice
  dsimp only
  split <;> rename_i h
  · exact (congrArg (DrivesAlone s) (congrArg Prod.fst h)).mp (started _ _)
  · exact ((congrArg (DrivesAlone s) (congrArg Prod.fst h)).mp (started _ _)).trans
      (soundResult_drivesAlone _ i _)

/-! ### The line, and the claim record (R144, R149 to R151) -/

theorem announce_drivesAlone (c : Nat) : DrivesAlone s (announce c s) :=
  (withBu_drivesAlone s _).trans (announce_posts c s).drivesAlone

theorem examineOver_drivesAlone : DrivesAlone s (examineOver s) := by
  obtain ⟨flag, h⟩ := examineOver_posts s
  exact (withBu_drivesAlone s _).trans h.drivesAlone

theorem decideClaim_drivesAlone : DrivesAlone s (decideClaim s) := by
  rcases decideClaim_cases s with h | h | h <;> rw [h]
  · exact .refl s
  · exact (withBu_drivesAlone s _).trans (announce_drivesAlone _ _)
  · exact (withBu_drivesAlone s _).trans (announce_drivesAlone _ _)

theorem refuseRequest_drivesAlone (e : Entry) (c : Code) : DrivesAlone s (refuseRequest e c s) := by
  unfold refuseRequest
  split
  · exact .refl s
  · exact (DrivesAlone.refl s).reply _ _ _ _

theorem startSending_drivesAlone : DrivesAlone s (startSending s) := by
  unfold startSending
  split
  · split
    · exact .refl s
    · exact withLif_drivesAlone s _
  · exact .refl s

theorem leaveSilent_drivesAlone : DrivesAlone s (leaveSilent s) := by
  unfold leaveSilent
  split
  · exact .refl s
  · next t _ =>
    exact (((reach_drivesAlone s t).trans (withLif_drivesAlone _ _)).trans
      (count_drivesAlone _ _)).trans (raiseNotice_posts _ _).drivesAlone

/-! ### The Calendar, the Save Store and the starts -/

theorem crystalCount_drivesAlone : DrivesAlone s (crystalCount s) := (crystalCount_clocks s).drivesAlone

theorem idleExpiry_drivesAlone : DrivesAlone s (idleExpiry s) := by
  unfold idleExpiry
  split
  · exact .refl s
  · next w _ =>
    have reached := reach_drivesAlone s (w.lastActivity + idleCounts s.settings)
    dsimp only
    split
    · exact .refl s
    · exact reached.trans (withSs_drivesAlone _ _)
    · exact (reached.trans (abandonStream_stores w _).drivesAlone).trans
        (raiseTo_posts _ _ _).drivesAlone

theorem sampleCell_drivesAlone (mv : Nat) : DrivesAlone s (sampleCell mv s) := by
  unfold sampleCell
  dsimp only
  split
  · exact DrivesAlone.trans (t := s.withPs { s.ps with cell := _, cellCount := 0, lowSeen := _ })
      ⟨rfl, rfl, rfl, rfl, rfl⟩ (raiseNotice_posts _ _).drivesAlone
  · exact ⟨rfl, rfl, rfl, rfl, rfl⟩

theorem scrubBegin_drivesAlone : DrivesAlone s (scrubBegin s) := by
  have checked (l : List Nat) : ∀ u, DrivesAlone u (l.foldl scrubCheckSlot u) := by
    induction l with
    | nil => exact .refl
    | cons k rest ih =>
      refine fun u => DrivesAlone.trans ?_ (ih _)
      unfold scrubCheckSlot
      split
      · exact (damageSlot_stores _ _ u).drivesAlone
      · exact .refl u
  exact (withSs_drivesAlone s _).trans (checked _ _)

theorem askSettings_drivesAlone : DrivesAlone s (askSettings s) :=
  (withPfu_drivesAlone s _).trans (grant_drivesAlone _)

theorem lineDoze_drivesAlone : DrivesAlone s (lineDoze s) :=
  (withLif_drivesAlone s _).trans (foldl_refuseRequest_posts _ _).drivesAlone

theorem readied_drivesAlone : DrivesAlone s (readied s) := ⟨rfl, rfl, rfl, rfl, rfl⟩

theorem raiseResume_drivesAlone : DrivesAlone s (raiseResume (calendarActive s)) :=
  (readied_drivesAlone s).trans (raiseNotice_posts _ (readied s)).drivesAlone

end

/-! ### What keeps the drives limited -/

/-- The step from `s` to `t` keeps the limits on the drives. -/
def KeepsDrives (s t : State) : Prop := DriveLimited s → DriveLimited t

/-- Outside ACTIVE the gain in use is 0 (R108, R113). -/
def Muted (s : State) : Prop := s.ps.state ≠ .active → s.se.gEff = 0

section
variable {s t u : State}

theorem KeepsDrives.refl (s : State) : KeepsDrives s s := id

theorem KeepsDrives.trans (h : KeepsDrives s t) (k : KeepsDrives t u) : KeepsDrives s u := fun hs => k (h hs)

theorem DriveLimited.muted (h : DriveLimited s) : Muted s := h.2.2

theorem muted_of_active (h : s.ps.state = .active) : Muted s := fun hn => absurd h hn

theorem DrivesAlone.muted (h : DrivesAlone s t) (hs : Muted s) : Muted t := fun hn =>
  h.gEff.trans (hs (h.state ▸ hn))

theorem DrivesAlone.keeps (h : DrivesAlone s t) : KeepsDrives s t := by
  unfold KeepsDrives DriveLimited
  rw [h.rd, h.gEff, h.gCeiling, h.settings, h.state]
  exact id

theorem KeepsDrives.reply (h : KeepsDrives s t) (a : Ask) (k : Kind) (c : Code) (d : ReplyData) :
    KeepsDrives s (reply a k c d t) := h.trans ((DrivesAlone.refl t).reply a k c d).keeps

theorem KeepsDrives.replyOwed (h : KeepsDrives s t) (o : Owed) (k : Kind) (c : Code) (d : ReplyData) :
    KeepsDrives s (replyOwed o k c d t) := h.trans ((DrivesAlone.refl t).replyOwed o k c d).keeps

theorem KeepsDrives.granted (h : KeepsDrives s t) : KeepsDrives s (grant t) :=
  h.trans (grant_drivesAlone t).keeps

end

/-! ### The effective duty (R128) -/

section
variable (st : Settings) {p : PowerState} {r : Rumble}

theorem effectiveDuty_undriven (h : p ≠ .active ∨ r.mode ≠ .drive) : effectiveDuty st p r = 0 :=
  if_neg fun ⟨hp, hm⟩ => h.elim (· hp) (· hm)

theorem effectiveDuty_clear (hp : p = .active) (hm : r.mode = .drive) (hg : r.guard = .clear) :
    effectiveDuty st p r = min r.dReq r.dBudget := by
  rw [effectiveDuty, if_pos ⟨hp, hm⟩, hg]

theorem effectiveDuty_tripped (hp : p = .active) (hm : r.mode = .drive) (hg : r.guard = .tripped) :
    effectiveDuty st p r = min (min r.dReq r.dBudget) st.guardDuty := by
  rw [effectiveDuty, if_pos ⟨hp, hm⟩, hg]

end

section
variable {s : State}

/-- What R128 reads of the Rumble Driver, and what it gives. -/
def Rumble.duties (r : Rumble) : Nat × DriveMode × GuardState × Nat × Nat :=
  (r.dEff, r.mode, r.guard, r.dReq, r.dBudget)

/-- A change of the Rumble Driver in what R128 does not read. -/
theorem withRd_keepsDrives {r : Rumble} (h : r.duties = s.rd.duties := by rfl) :
    KeepsDrives s (s.withRd r) := by
  obtain ⟨dEff, mode, guard, dReq, dBudget⟩ : r.dEff = s.rd.dEff ∧ r.mode = s.rd.mode ∧
      r.guard = s.rd.guard ∧ r.dReq = s.rd.dReq ∧ r.dBudget = s.rd.dBudget := by
    simpa only [Rumble.duties, Prod.mk.injEq] using h
  refine fun ⟨duty, gain⟩ => ⟨?_, gain⟩
  show r.dEff = effectiveDuty s.settings s.ps.state r
  rw [dEff, duty, effectiveDuty, effectiveDuty, mode, guard, dReq, dBudget]

/-- Outside DRIVE a duty in use of 0 is the effective one. -/
theorem withRd_still_keepsDrives {r : Rumble} (hm : r.mode ≠ .drive) (hd : r.dEff = 0) :
    KeepsDrives s (s.withRd r) :=
  fun ⟨_, gain⟩ => ⟨hd.trans (effectiveDuty_undriven _ (.inr hm)).symm, gain⟩

/-- D_eff is recomputed from its inputs, whatever they became. -/
theorem refreshDuty_keepsDrives (r : Rumble) (s : State) : KeepsDrives s (refreshDuty (s.withRd r)) :=
  fun ⟨_, gain⟩ => ⟨rfl, gain⟩

end

/-! ### The Rumble Driver -/

section
variable (s : State)

theorem endRumble_drivesAlone (why : EndReason) : DrivesAlone s (endRumble why s) := by
  unfold endRumble
  dsimp only
  split
  · exact (raiseTo_posts _ _ s).drivesAlone
  · exact .refl s

theorem cancelRumbleOwed_keepsDrives : KeepsDrives s (cancelRumbleOwed s) := by
  unfold cancelRumbleOwed
  split
  · exact .refl s
  · exact KeepsDrives.replyOwed withRd_keepsDrives _ _ _ _

theorem restRumble_keepsDrives (p : PlayerState) : KeepsDrives s (restRumble p s) :=
  withRd_still_keepsDrives DriveMode.noConfusion rfl

theorem finishBraking_keepsDrives : KeepsDrives s (finishBraking s) :=
  (endRumble_drivesAlone s _).keeps.trans (restRumble_keepsDrives _ _)

theorem enterBraking_keepsDrives (why : EndReason) : KeepsDrives s (enterBraking why s) := by
  have braked (r : Rumble) (hm : r.mode = .brake) (hd : r.dEff = 0) :
      KeepsDrives s ((closeRec 0 s).withRd r) :=
    (closeRec_drivesAlone s 0).keeps.trans (withRd_still_keepsDrives (by rw [hm]; exact nofun) hd)
  unfold enterBraking
  dsimp only
  split
  · exact (braked _ rfl rfl).trans (finishBraking_keepsDrives _)
  · exact braked _ rfl rfl

theorem beginRumbleStep_keepsDrives (x : Step) : KeepsDrives s (beginRumbleStep x s) := by
  unfold beginRumbleStep
  split
  · exact .refl s
  · exact refreshDuty_keepsDrives _ s

theorem takeRumbleStep_keepsDrives : KeepsDrives s (takeRumbleStep s) := by
  have h := nextStep_drivesAlone s 0
  unfold takeRumbleStep
  split <;> rename_i h' <;> rw [h'] at h
  · exact h.keeps.trans (beginRumbleStep_keepsDrives _ _)
  · exact h.keeps.trans (enterBraking_keepsDrives _ _)
  · exact h.keeps.trans withRd_keepsDrives

theorem tryStart_keepsDrives : KeepsDrives s (tryStart s) := by
  unfold tryStart
  split
  · split
    · exact refreshDuty_keepsDrives _ s
    · split
      · exact .refl s
      · exact takeRumbleStep_keepsDrives s
  · exact .refl s

theorem rumbleDelivery_keepsDrives : KeepsDrives s (rumbleDelivery s) := by
  unfold rumbleDelivery
  split
  · split
    · exact .refl s
    · exact takeRumbleStep_keepsDrives s
  · exact tryStart_keepsDrives s

theorem endCheck_keepsDrives (c : MotorCheck) (o : CheckOutcome) (why : Option FailReason)
    (cur : Option Nat) (fault : Option (FaultCause × Nat)) (after : PlayerState) :
    KeepsDrives s (endCheck c o why cur fault after s) :=
  (withRd_still_keepsDrives (s := s) DriveMode.noConfusion rfl).replyOwed _ _ _ _

theorem failCheck_keepsDrives (why : FailReason) : KeepsDrives s (failCheck why s) := by
  unfold failCheck
  split
  · exact .refl s
  · exact endCheck_keepsDrives s _ _ _ _ _ _

theorem takeReport_keepsDrives : KeepsDrives s (takeReport s) := by
  have ended : KeepsDrives s (s.withRd { s.rd with raiseEnded := true }) := withRd_keepsDrives
  unfold takeReport
  dsimp only
  split
  · split
    · exact ended
    · split
      · exact ended.trans (failCheck_keepsDrives _ _)
      · exact ended.trans (refreshDuty_keepsDrives _ _)
  · exact ended.trans (tryStart_keepsDrives _)

theorem rumbleResult_keepsDrives (l : Lookup) : KeepsDrives s (rumbleResult l s) := by
  have confirmed : KeepsDrives s (s.withRd { s.rd with owed := none }) := withRd_keepsDrives
  unfold rumbleResult
  dsimp only
  split
  · exact .refl s
  · split
    · exact ((confirmed.trans withRd_keepsDrives).replyOwed _ _ _ _).trans (tryStart_keepsDrives _)
    · exact (confirmed.trans (restRumble_keepsDrives _ _)).replyOwed _ _ _ _
    · exact (confirmed.trans (restRumble_keepsDrives _ _)).replyOwed _ _ _ _

theorem stopPlayer_keepsDrives (coast : Bool) : KeepsDrives s (stopPlayer coast s) := by
  unfold stopPlayer
  split
  case h_4 =>
    split
    · exact finishBraking_keepsDrives s
    · exact .refl s
  case h_1 | h_2 | h_3 => exact .refl s
  all_goals
    split
    · exact ((cancelRumbleOwed_keepsDrives s).trans (closeRec_drivesAlone _ 0).keeps).trans
        (restRumble_keepsDrives _ _)
    · split
      · exact ((((endRumble_drivesAlone s _).trans (closeRec_drivesAlone _ 0)).keeps).trans
          withRd_keepsDrives).trans (restRumble_keepsDrives _ _)
      · exact enterBraking_keepsDrives s _

theorem rumbleStepWork_keepsDrives : KeepsDrives s (rumbleStepWork s) := by
  unfold rumbleStepWork
  dsimp only
  split
  · split
    · exact KeepsDrives.trans withRd_keepsDrives (takeRumbleStep_keepsDrives _)
    · split
      · exact withRd_keepsDrives
      · exact refreshDuty_keepsDrives _ s
  · split
    · exact .refl s
    · split
      · exact KeepsDrives.trans withRd_keepsDrives (enterBraking_keepsDrives _ _)
      · exact withRd_keepsDrives
  · split
    · exact KeepsDrives.trans withRd_keepsDrives (finishBraking_keepsDrives _)
    · exact withRd_keepsDrives
  all_goals exact .refl s

theorem examineGuard_keepsDrives : KeepsDrives s (examineGuard s) := by
  have trip := ((refreshDuty_keepsDrives { s.rd with guard := .tripped } s).trans
    (count_drivesAlone _ .guardTrips).keeps).trans
    (raiseNotice_posts (.motorGuard .tripped s.rd.heat) _).drivesAlone.keeps
  unfold examineGuard
  dsimp only
  split
  · split
    · exact trip.trans (failCheck_keepsDrives _ _)
    · exact trip
  · split
    · exact (refreshDuty_keepsDrives _ s).trans (raiseNotice_posts _ _).drivesAlone.keeps
    · exact .refl s

theorem heatTick_keepsDrives : KeepsDrives s (heatTick s) :=
  KeepsDrives.trans withRd_keepsDrives (examineGuard_keepsDrives _)

theorem rumbleTick_keepsDrives : KeepsDrives s (rumbleTick s) :=
  (rumbleStepWork_keepsDrives s).trans (heatTick_keepsDrives _)

theorem overcurrent_keepsDrives (cur : Nat) : KeepsDrives s (overcurrent cur s) := by
  unfold overcurrent
  dsimp only
  split
  · exact (endCheck_keepsDrives s _ _ _ _ _ _).trans (raiseNotice_posts _ _).drivesAlone.keeps
  · exact ((((endRumble_drivesAlone s _).trans (closeRec_drivesAlone _ 0)).keeps.trans
      withRd_keepsDrives).trans (restRumble_keepsDrives _ _)).trans
      (raiseNotice_posts _ _).drivesAlone.keeps

theorem senseSample_keepsDrives (cur : Nat) : KeepsDrives s (senseSample cur s) := by
  unfold senseSample
  dsimp only
  split
  · split
    · exact overcurrent_keepsDrives s _
    · split
      · exact .refl s
      · split
        · exact .refl s
        · split
          · exact withRd_keepsDrives
          · exact .refl s
  · exact .refl s

theorem finishCheck_keepsDrives (c : MotorCheck) : KeepsDrives s (finishCheck c s) := by
  unfold finishCheck
  dsimp only
  split
  · exact failCheck_keepsDrives s _
  · split
    · exact endCheck_keepsDrives s _ _ _ _ _ _
    · exact endCheck_keepsDrives s _ _ _ _ _ _
    · exact endCheck_keepsDrives s _ _ _ _ _ _
    · exact .refl s

end

/-! ### The recomputation hands limits (R109, R145, R148) -/

/-- The caps cut the gain, and D_eff is recomputed under them. -/
theorem handCaps_limited {s : State} (h : Muted s) : DriveLimited (handCaps s) := by
  refine ⟨rfl, min_le_right _ _, fun hn => ?_⟩
  show min s.se.gEff (gainCeiling s) = 0
  rw [h hn, Nat.zero_min]

theorem recomputeOnce_limited {s : State} (h : Muted s) : DriveLimited (recomputeOnce s) :=
  (decideClaim_drivesAlone _).keeps ((examineOver_drivesAlone _).keeps (handCaps_limited h))

theorem recomputeOnceAtStart_limited {s : State} (h : Muted s) : DriveLimited (recomputeOnceAtStart s) :=
  (decideClaim_drivesAlone _).keeps (handCaps_limited h)

theorem recomputeUpTo_limited {pass : State → State} (h : ∀ s, Muted s → DriveLimited (pass s)) (n : Nat)
    {s : State} (hs : Muted s) : DriveLimited (recomputeUpTo pass (n + 1) s) := by
  induction n generalizing s with
  | zero =>
    rw [recomputeUpTo, recomputeUpTo, ite_self]
    exact h s hs
  | succ n ih =>
    rw [recomputeUpTo]
    split
    · exact h s hs
    · exact ih (h s hs).muted

theorem recompute_limited {s : State} (h : Muted s) : DriveLimited (recompute s) :=
  recomputeUpTo_limited (fun _ => recomputeOnce_limited) 7 h

theorem recomputeAtStart_limited {s : State} (h : Muted s) : DriveLimited (recomputeAtStart s) :=
  recomputeUpTo_limited (fun _ => recomputeOnceAtStart_limited) 7 h

section
variable (s : State)

theorem recompute_keepsDrives : KeepsDrives s (recompute s) := fun h => recompute_limited h.muted

theorem recomputeWith_keepsDrives (b : Budget) : KeepsDrives s (recomputeWith b s) :=
  (withBu_drivesAlone s b).keeps.trans (recompute_keepsDrives _)

theorem recomputeSince_keepsDrives (s₀ : State) : KeepsDrives s (recomputeSince s₀ s) := by
  unfold recomputeSince
  split
  · exact .refl s
  · exact recompute_keepsDrives s

theorem report_keepsDrives : KeepsDrives s (report s) :=
  (takeReport_keepsDrives s).trans (recomputeSince_keepsDrives _ s)

theorem budgetFollow_keepsDrives (s₀ : State) : KeepsDrives s (budgetFollow s₀ s) := by
  unfold budgetFollow
  dsimp only
  split
  · exact (recomputeSince_keepsDrives s s₀).trans (report_keepsDrives _)
  · exact recomputeSince_keepsDrives s s₀

end

/-! ### Ticks and beats -/

/-- The gain moves toward a goal at or below its ceiling (R108). -/
theorem slew_gEff_le {x : Sound} (h : x.gEff ≤ x.gCeiling) : x.slew.gEff ≤ x.slew.gCeiling := by
  show (if x.gEff < min x.gTarget x.gCeiling then min (x.gEff + 8) (min x.gTarget x.gCeiling)
    else max (x.gEff - 8) (min x.gTarget x.gCeiling)) ≤ x.gCeiling
  split <;> omega

theorem soundTick_keepsDrives {s : State} (hp : s.ps.state = .active) : KeepsDrives s (soundTick s) := by
  have voices := (((voiceTick_drivesAlone s 0).trans (voiceTick_drivesAlone _ 1)).trans
    (voiceTick_drivesAlone _ 2)).trans (voiceTick_drivesAlone _ 3)
  unfold soundTick
  dsimp only
  generalize voiceTick 3 (voiceTick 2 (voiceTick 1 (voiceTick 0 s))) = u at voices
  intro h
  obtain ⟨duty, gain, _⟩ := voices.keeps h
  exact ⟨duty, slew_gEff_le gain, muted_of_active (voices.state.trans hp)⟩

section
variable (s : State)

theorem issueTick_keepsDrives : KeepsDrives s (issueTick s) := by
  have counted := (withBtg_drivesAlone s
    { s.btg with tickCounter := (s.btg.tickCounter + 1) % 4294967296 }).keeps
  unfold issueTick
  dsimp only
  split
  · next h =>
    exact (((counted.trans (soundTick_keepsDrives h)).trans (rumbleTick_keepsDrives _)).trans
      (budgetFollow_keepsDrives _ _)).granted
  · exact counted.trans (heatTick_keepsDrives _)
  · exact counted
  · exact counted

theorem beginInterval_keepsDrives : KeepsDrives s (beginInterval s) :=
  (withBtg_drivesAlone s _).keeps.trans (issueTick_keepsDrives _)

theorem issueNext_keepsDrives : KeepsDrives s (issueNext s) :=
  (withBtg_drivesAlone s _).keeps.trans (issueTick_keepsDrives _)

theorem catchUp_keepsDrives (n : Nat) : KeepsDrives s (catchUp n s) := by
  induction n generalizing s with
  | zero => exact .refl s
  | succ n ih => exact (issueTick_keepsDrives s).trans (ih _)

theorem handBeat_keepsDrives (source : Nat) (payload : List Byte) :
    KeepsDrives s (handBeat source payload s) := by
  unfold handBeat
  split
  · split
    · exact .refl s
    · split
      · exact (count_drivesAlone s _).keeps
      · split
        · exact (count_drivesAlone s _).keeps
        · split
          · exact ((catchUp_keepsDrives s _).trans (withBtg_drivesAlone _ _).keeps).trans
              (beginInterval_keepsDrives _)
          · exact (withBtg_drivesAlone s _).keeps.trans (beginInterval_keepsDrives _)
  · exact .refl s

theorem elapse_drivesAlone (d : Nat) : DrivesAlone s (elapse d s) := ⟨rfl, rfl, rfl, rfl, rfl⟩

theorem timerExpiry_keepsDrives : KeepsDrives s (timerExpiry s) := by
  have passed := (elapse_drivesAlone s s.btg.timer).keeps
  unfold timerExpiry
  dsimp only
  split
  · split
    · exact passed.trans (issueNext_keepsDrives _)
    · exact passed.trans (beginInterval_keepsDrives _)
  · exact .refl s

theorem lossExpiry_keepsDrives : KeepsDrives s (lossExpiry s) := by
  unfold lossExpiry
  dsimp only
  split
  · exact ((elapse_drivesAlone s _).trans (withBtg_drivesAlone _ _)).keeps.trans
      (beginInterval_keepsDrives _)
  · exact .refl s

theorem beatDoze_keepsDrives : KeepsDrives s (beatDoze s) := by
  have free := (withBtg_drivesAlone s { s.btg with tracker := .free }).keeps
  unfold beatDoze
  dsimp only
  split
  · split
    · exact free.trans (beginInterval_keepsDrives _)
    · exact free
  · exact .refl s

/-! ### The Budget Unit's posts and timers -/

theorem handAllowance_keepsDrives (source : Nat) (payload : List Byte) :
    KeepsDrives s (handAllowance source payload s) := by
  unfold handAllowance
  split
  · split
    · exact recomputeWith_keepsDrives s _
    · exact .refl s
  · exact .refl s

theorem handClaim_keepsDrives (source : Nat) (payload : List Byte) :
    KeepsDrives s (handClaim source payload s) := by
  unfold handClaim
  split
  · split
    · exact recomputeWith_keepsDrives s _
    · exact .refl s
  · exact .refl s

theorem allowanceExpiry_keepsDrives : KeepsDrives s (allowanceExpiry s) := by
  unfold allowanceExpiry
  split
  · exact .refl s
  · split
    · exact (reach_drivesAlone s _).keeps.trans (recomputeWith_keepsDrives _ _)
    · exact .refl s

theorem peerExpiry_keepsDrives (station : Nat) : KeepsDrives s (peerExpiry station s) := by
  unfold peerExpiry
  split
  · exact .refl s
  · exact (reach_drivesAlone s _).keeps.trans (recomputeWith_keepsDrives _ _)

theorem releaseRaise_keepsDrives (r : Raise) (t : Nat) : KeepsDrives s (releaseRaise r t s) := by
  have capped (b : Budget) : KeepsDrives s (examineOver (handCaps (s.withBu b))) := fun h =>
    (examineOver_drivesAlone _).keeps (handCaps_limited ((withBu_drivesAlone s b).muted h.muted))
  unfold releaseRaise
  dsimp only
  split
  · exact ((capped _).trans (announce_drivesAlone _ _).keeps).trans (recompute_keepsDrives _)
  · exact (capped _).trans (recompute_keepsDrives _)

theorem settleExpiry_keepsDrives : KeepsDrives s (settleExpiry s) := by
  unfold settleExpiry
  split
  · exact .refl s
  · next r _ =>
    split
    · exact .refl s
    · next t _ =>
      have released := (reach_drivesAlone s (t + Config.settleCounts)).keeps.trans
        (releaseRaise_keepsDrives _ r t)
      dsimp only
      split
      · exact (released.trans (report_keepsDrives _)).granted
      · exact released.granted

theorem listenExpiry_keepsDrives : KeepsDrives s (listenExpiry s) := by
  unfold listenExpiry
  split
  · exact .refl s
  · next t _ =>
    have ended := (reach_drivesAlone s t).keeps.trans (recomputeWith_keepsDrives (reach t s)
      { (reach t s).bu with listenEnd := none })
    dsimp only
    split
    · exact (ended.trans (report_keepsDrives _)).granted
    · exact ended.granted

theorem refreshExpiry_keepsDrives : KeepsDrives s (refreshExpiry s) := by
  unfold refreshExpiry
  split
  · next t ann _ _ =>
    have reached := reach_drivesAlone s (t + Config.refreshCounts)
    dsimp only
    split
    · exact (reached.trans (announce_drivesAlone _ _)).keeps
    · split
      · exact (reached.trans (announce_drivesAlone _ _)).keeps
      · exact ((reached.trans (withBu_drivesAlone _ _)).trans (announce_drivesAlone _ _)).keeps.trans
          (recompute_keepsDrives _)
  · exact .refl s

theorem ageExpiry_keepsDrives : KeepsDrives s (ageExpiry s) := by
  unfold ageExpiry
  split
  · exact .refl s
  · split
    · exact .refl s
    · exact (reach_drivesAlone s _).keeps.trans (recomputeWith_keepsDrives _ _)

theorem budgetDoze_keepsDrives : KeepsDrives s (budgetDoze s) :=
  (recomputeWith_keepsDrives s _).trans
    ((withBu_drivesAlone _ _).trans (announce_drivesAlone _ _)).keeps

theorem reportClaim_keepsDrives (p : TxPost) (acked : Bool) : KeepsDrives s (reportClaim p acked s) := by
  unfold reportClaim
  split
  · exact .refl s
  · split
    · unfold claimAcked
      dsimp only
      split
      · exact recomputeWith_keepsDrives s _
      · exact (withBu_drivesAlone s _).keeps
    · unfold claimFailed
      split
      · exact (announce_drivesAlone s _).keeps
      · exact .refl s

theorem sendFailed_keepsDrives (st : Stat) (p : TxPost) : KeepsDrives s (sendFailed st p s) :=
  ((count_drivesAlone s st).trans (withLif_drivesAlone _ _)).keeps.trans (reportClaim_keepsDrives _ p false)

theorem endSending_keepsDrives (read : List BitSamples) : KeepsDrives s (endSending read s) := by
  cases h : s.lif.sending with
  | none =>
    rw [endSending_idle h]
    exact .refl s
  | some p =>
    have told (st : Stat) (x : LineIf) := (count_drivesAlone s st).trans (withLif_drivesAlone _ x)
    rcases endSending_cases (read := read) h with ⟨-, e⟩ | ⟨-, e⟩ | ⟨-, e⟩ | ⟨-, e⟩ <;> rw [e]
    · exact ((told _ _).trans (returnPost_posts p _).drivesAlone).keeps
    · exact sendFailed_keepsDrives s _ p
    · exact sendFailed_keepsDrives s _ p
    · exact (told _ _).keeps.trans (reportClaim_keepsDrives _ p true)

/-! ### Fetches -/

theorem directoryArrive_keepsDrives (p pattern playNo : Nat) (bytes : List Byte) :
    KeepsDrives s (directoryArrive p pattern playNo bytes s) := by
  have looked := ((withPfu_drivesAlone s _).trans
    (finishLookup_drivesAlone (freePort s) p pattern playNo bytes)).keeps
  unfold directoryArrive
  split <;> rename_i h <;> rw [h] at looked
  · exact looked.granted
  · refine (looked.trans ?_).granted
    unfold handResult
    split
    · exact (rumbleResult_keepsDrives _ _).trans (budgetFollow_keepsDrives _ _)
    · exact (soundResult_drivesAlone _ _ _).keeps

theorem stepsArrive_keepsDrives (p playNo j n : Nat) (bytes : List Byte) :
    KeepsDrives s (stepsArrive p playNo j n bytes s) := by
  have freed : KeepsDrives s (freePort s) := (withPfu_drivesAlone s _).keeps
  unfold stepsArrive
  dsimp only
  split
  · refine ((freed.trans (deliver_drivesAlone _ p j n bytes).keeps).trans ?_).granted
    unfold handDelivery
    split
    · exact (rumbleDelivery_keepsDrives _).trans (budgetFollow_keepsDrives _ _)
    · exact (soundDelivery_drivesAlone _ _).keeps
  · exact freed.granted

/-! ### Requests -/

theorem takePlayer_keepsDrives (a : Ask) (kind : PlayKind) (pattern priority : Nat) (endNotice : Bool) :
    KeepsDrives s (takePlayer a kind pattern priority endNotice s) :=
  ((((endRumble_drivesAlone s _).keeps.trans (cancelRumbleOwed_keepsDrives _)).trans
    (closeRec_drivesAlone _ 0).keeps).trans
    (withRd_still_keepsDrives DriveMode.noConfusion rfl)).trans (budgetFollow_keepsDrives _ _)

theorem servePlayRumble_keepsDrives (a : Ask) (pattern priority : Nat) (endNotice : Bool) :
    KeepsDrives s (servePlayRumble a pattern priority endNotice s) := by
  have refused (c : Code) (d : ReplyData) := ((DrivesAlone.refl s).reply a .playRumble c d).keeps
  unfold servePlayRumble
  dsimp only
  split
  · exact refused _ _
  · split
    · exact refused _ _
    · split
      · exact refused _ _
      · have taken := takePlayer_keepsDrives s a .pattern pattern (playPriority priority) endNotice
        generalize takePlayer a .pattern pattern (playPriority priority) endNotice s = u at taken
        have started := taken.trans ((withRd_keepsDrives
          (r := { u.rd with owed := some (owedTo a) })).trans (startPlay_drivesAlone _ 0 pattern u.rd.playNo).keeps)
        split <;> rename_i h
        · exact (congrArg (KeepsDrives s) (congrArg Prod.fst h)).mp started
        · exact (((congrArg (KeepsDrives s) (congrArg Prod.fst h)).mp started).trans
            ((rumbleResult_keepsDrives _ _).trans (budgetFollow_keepsDrives _ _))).granted

theorem serveSteadyRumble_keepsDrives (a : Ask) (duty duration priority : Nat) (endNotice : Bool) :
    KeepsDrives s (serveSteadyRumble a duty duration priority endNotice s) := by
  unfold serveSteadyRumble
  dsimp only
  split
  · exact ((DrivesAlone.refl s).reply _ _ _ _).keeps
  · have taken := takePlayer_keepsDrives s a .steady s.rd.pattern (playPriority priority) endNotice
    generalize takePlayer a .steady s.rd.pattern (playPriority priority) endNotice s = u at taken
    exact (((taken.trans withRd_keepsDrives).reply _ _ _ _).trans
      (tryStart_keepsDrives _)).trans (budgetFollow_keepsDrives _ _)

theorem serveStopRumble_keepsDrives (a : Ask) (mode : Nat) :
    KeepsDrives s (serveStopRumble a mode s) := by
  unfold serveStopRumble
  split
  · exact ((DrivesAlone.refl s).reply _ _ _ _).keeps
  · exact (((stopPlayer_keepsDrives s _).reply _ _ _ _).trans (budgetFollow_keepsDrives _ _)).granted

theorem serveMotorCheck_keepsDrives (a : Ask) : KeepsDrives s (serveMotorCheck a s) := by
  unfold serveMotorCheck
  split
  · exact KeepsDrives.trans withRd_keepsDrives (budgetFollow_keepsDrives _ _)
  · exact ((DrivesAlone.refl s).reply _ _ _ _).keeps

theorem servePlaySound_drivesAlone (a : Ask) (voice pattern priority : Nat) (endNotice : Bool)
    (f : VoiceFields) : DrivesAlone s (servePlaySound a voice pattern priority endNotice f s) := by
  have refused (c : Code) := (DrivesAlone.refl s).reply a .playSound c .none
  unfold servePlaySound
  dsimp only
  split
  · exact refused _
  · split
    · exact refused _
    · split
      · exact refused _
      · split
        · exact refused _
        · exact takeVoice_drivesAlone s _ _ _ _ _ _

theorem serveVoiceSet_drivesAlone (a : Ask) (voice : Nat) (f : VoiceFields) :
    DrivesAlone s (serveVoiceSet a voice f s) := by
  unfold serveVoiceSet
  split
  · exact (DrivesAlone.refl s).reply _ _ _ _
  · exact (withVoice_drivesAlone s voice _).reply _ _ _ _

theorem serveMasterLevel_keepsDrives (a : Ask) (level : Nat) :
    KeepsDrives s (serveMasterLevel a level s) :=
  (DrivesAlone.keeps (t := s.withSe { s.se with master := min level 63, gTarget := 4 * min level 63 })
    ⟨rfl, rfl, rfl, rfl, rfl⟩).trans (recomputeSince_keepsDrives _ s) |>.reply _ _ _ _

theorem serveStopSound_drivesAlone (a : Ask) (voice mode : Nat) :
    DrivesAlone s (serveStopSound a voice mode s) := by
  have stopped (m : SoundStop) (l : List Nat) :
      ∀ s, DrivesAlone s (l.foldl (fun s i => stopVoice m i s) s) := by
    induction l with
    | nil => exact .refl
    | cons i rest ih => exact fun s => (stopVoice_drivesAlone s m i).trans (ih _)
  unfold serveStopSound
  split
  · exact (DrivesAlone.refl s).reply _ _ _ _
  · split
    · exact (DrivesAlone.refl s).reply _ _ _ _
    · exact (stopped _ _ s).reply _ _ _ _

theorem serveSaveClose_drivesAlone (a : Ask) (n mode : Nat) :
    DrivesAlone s (serveSaveClose a n mode s) := by
  unfold serveSaveClose closeCommit
  dsimp only
  repeat' split
  all_goals refine DrivesAlone.reply ?_ _ _ _ _
  all_goals first
    | exact .refl s
    | exact withSs_drivesAlone s _

theorem serveClockSet_drivesAlone (a : Ask) (time : Nat) (zone : Option Int) (hour : Option Nat) :
    DrivesAlone s (serveClockSet a time zone hour s) := by
  unfold serveClockSet
  split
  · exact ((withCal_drivesAlone s _).trans (appointmentCheck_clocks _).drivesAlone).reply _ _ _ _
  · exact (DrivesAlone.refl s).reply _ _ _ _

end

/-- No service lets the drives above their limits. -/
theorem serve_keepsDrives (e : Entry) (s : State) : KeepsDrives s (serve e s) := by
  obtain ⟨a, r⟩ := e
  have answered (k : Kind) (c : Code) (d : ReplyData) {t : State} (h : DrivesAlone s t) :
      KeepsDrives s (reply a k c d t) := (h.reply a k c d).keeps
  have answers (k : Kind) (c : Code) (d : ReplyData) := answered k c d (.refl s)
  cases r
  case ident => exact answers _ _ _
  case playSound => exact (servePlaySound_drivesAlone s _ _ _ _ _ _).keeps
  case stopSound => exact (serveStopSound_drivesAlone s _ _ _).keeps
  case voiceSet => exact (serveVoiceSet_drivesAlone s _ _ _).keeps
  case masterLevel => exact serveMasterLevel_keepsDrives s _ _
  case playRumble => exact servePlayRumble_keepsDrives s _ _ _ _
  case steadyRumble => exact serveSteadyRumble_keepsDrives s _ _ _ _ _
  case stopRumble => exact serveStopRumble_keepsDrives s _ _
  case motorCheck => exact serveMotorCheck_keepsDrives s _
  case saveOpen =>
    simp only [serve, serveSaveOpen]
    split
    · exact answers _ _ _
    · exact answered _ _ _ (withSs_drivesAlone s _)
  case saveData => exact (serveSaveData_stores _ _ _ s).drivesAlone.keeps
  case saveClose => exact (serveSaveClose_drivesAlone s _ _ _).keeps
  case saveRead =>
    simp only [serve, serveSaveRead]
    split
    · exact answers _ _ _
    · exact answered _ _ _ (withSs_drivesAlone s _)
  case saveErase =>
    simp only [serve, serveSaveErase]
    repeat' split
    all_goals exact answered _ _ _ ⟨rfl, rfl, rfl, rfl, rfl⟩
  case saveInfo =>
    simp only [serve, serveSaveInfo]
    split <;> exact answers _ _ _
  case clockSet => exact (serveClockSet_drivesAlone s _ _ _ _).keeps
  case clockRead => exact answers _ _ _
  case clockAccept =>
    simp only [serve, serveClockAccept]
    split
    · exact answered _ _ _ (withCal_drivesAlone s _)
    · exact answers _ _ _
  case clockTrim => exact answered _ _ _ (withCal_drivesAlone s _)
  case appointSet =>
    simp only [serve, serveAppointSet]
    repeat' split
    all_goals exact answered _ _ _ ⟨rfl, rfl, rfl, rfl, rfl⟩
  case appointClear =>
    simp only [serve, serveAppointClear]
    repeat' split
    all_goals exact answered _ _ _ ⟨rfl, rfl, rfl, rfl, rfl⟩
  case appointList =>
    simp only [serve, serveAppointList]
    split <;> exact answers _ _ _
  case noticeEnable =>
    simp only [serve, serveNoticeEnable]
    split
    · exact answers _ _ _
    · exact answered _ _ _ (withNu_drivesAlone s _)
  case noticeRead => exact answered _ _ _ (withNu_drivesAlone s _)
  case statsRead =>
    simp only [serve, serveStatsRead]
    split
    · exact answers _ _ _
    · exact answered _ _ _ (withNu_drivesAlone s _)
  case misfit =>
    simp only [serve, serveMisfit]
    split
    · exact .refl s
    · exact answers _ _ _

section
variable (s : State)

theorem drainInbox_keepsDrives : KeepsDrives s (drainInbox s) := by
  unfold drainInbox
  generalize s.lif.inbox.length = n
  induction n generalizing s with
  | zero => exact .refl s
  | succ n ih =>
    unfold handOn
    split
    · exact .refl s
    · next e rest _ =>
      split
      · exact ((withLif_drivesAlone s _).keeps.trans (serve_keepsDrives e _)).trans (ih _)
      · exact .refl s

theorem enterRequest_keepsDrives (e : Entry) : KeepsDrives s (enterRequest e s) := by
  unfold enterRequest
  split
  · exact (refuseRequest_drivesAlone s e _).keeps
  · exact (refuseRequest_drivesAlone s e _).keeps
  · split
    · exact .refl s
    · exact (withLif_drivesAlone s _).keeps.trans (drainInbox_keepsDrives _)

theorem request_keepsDrives (a : Ask) (r : Request) : KeepsDrives s (request a r s) := by
  unfold request
  split
  · exact enterRequest_keepsDrives s _
  · exact .refl s

/-! ### Starts, power modes and KEEP: each sets the drives within their limits -/

/-- In ACTIVE a recomputation sets the limits, whatever stood before. -/
theorem budgetActive_limited (h : s.ps.state = .active) : DriveLimited (budgetActive s) := by
  unfold budgetActive
  dsimp only
  refine recomputeAtStart_limited (muted_of_active ?_)
  rw [State.withBu_ps, (announce_drivesAlone _ _).state]
  exact h

theorem enterActive_limited : DriveLimited (enterActive s) :=
  (appointmentCheck_clocks _).drivesAlone.keeps <| (raiseResume_drivesAlone _).keeps <|
    (sendHello_posts _).drivesAlone.keeps <| budgetActive_limited (s.withPs _) rfl

theorem wake_limited : DriveLimited (wake s) := recompute_limited (muted_of_active rfl)

/-- The blocks' steps at the entry to DOZE put the gain at 0 and the drive at rest (R113, R136). -/
theorem rumbleDoze_limited {s : State} (hg : s.se.gEff = 0) : DriveLimited (rumbleDoze s) := by
  have hse : (rumbleDoze s).se = s.se := (congrArg State.se (rumbleDoze_rumbles s)).trans rfl
  rw [DriveLimited, rumbleDoze_rd, hse, hg]
  exact ⟨(effectiveDuty_undriven _ (.inr DriveMode.noConfusion)).symm, Nat.zero_le _, fun _ => rfl⟩

theorem enterDoze_limited : DriveLimited (enterDoze s) :=
  drainInbox_keepsDrives _ <| budgetDoze_keepsDrives _ <| beatDoze_keepsDrives _ <|
    (storeDoze_stores _).drivesAlone.keeps <| rumbleDoze_limited <|
    congrArg Sound.gEff (soundDoze_frame _)

theorem actMode_keepsDrives (m : PowerMode) : KeepsDrives s (actMode m s) := by
  unfold actMode
  split
  · split
    · exact fun _ => enterDoze_limited s
    · exact .refl s
  · split
    · exact fun _ => wake_limited s
    · exact .refl s
  · exact fun _ => enterDoze_limited _

theorem handMode_keepsDrives (source target : Nat) (m : PowerMode) :
    KeepsDrives s (handMode source target m s) := by
  unfold handMode
  split
  · exact actMode_keepsDrives s m
  · exact .refl s

/-- The core domain's start values stand within the limits (R165). -/
theorem coreStart_limited (own : Nat) : DriveLimited (coreStart own s) :=
  ⟨(effectiveDuty_undriven _ (.inr DriveMode.noConfusion)).symm, Nat.le_refl 0, fun _ => rfl⟩

theorem beginStart_limited (own mv : Nat) : DriveLimited (beginStart own mv s) := by
  have cored := coreStart_limited (s.withPs s.ps.started) own
  refine (askSettings_drivesAlone _).keeps <| (sampleCell_drivesAlone _ mv).keeps <|
    (withGuard_drivesAlone _ _).keeps ?_
  split
  · exact DrivesAlone.keeps (s := coreStart own (s.withPs s.ps.started)) ⟨rfl, rfl, rfl, rfl, rfl⟩ cored
  · exact cored

theorem railLost_limited (mv : Nat) : DriveLimited (railLost mv s) :=
  (sampleCell_drivesAlone _ mv).keeps (coreStart_limited _ _)

theorem keepReset_limited : DriveLimited (keepReset s) :=
  ⟨(effectiveDuty_undriven _ (.inr DriveMode.noConfusion)).symm, Nat.le_refl 0, fun _ => rfl⟩

/-- In STARTING the effective duty is 0 under any settings. -/
theorem takeSettings_keepsDrives (hp : s.ps.state = .starting) (st : Settings) (valid : Bool) :
    KeepsDrives s (takeSettings st valid s) := by
  have still (x : Settings) : effectiveDuty x s.ps.state s.rd = 0 :=
    effectiveDuty_undriven x (.inl (by rw [hp]; exact nofun))
  exact fun ⟨duty, gain⟩ => ⟨duty.trans ((still _).trans (still st).symm), gain⟩

theorem settingsArrive_keepsDrives (hp : s.ps.state = .starting) (bytes : List Byte) :
    KeepsDrives s (settingsArrive bytes s) := by
  unfold settingsArrive
  dsimp only
  split
  · exact fun _ => (grant_drivesAlone _).keeps (enterActive_limited _)
  · exact ((((withPfu_drivesAlone s _).keeps.trans (takeSettings_keepsDrives (freePort s) hp _ _)).trans
      ((withBtg_drivesAlone _ _).keeps.trans (beginInterval_keepsDrives _))).trans
      (scrubBegin_drivesAlone _).keeps).granted

/-! ### Posts that are received -/

theorem route_keepsDrives (p : RxPost) : KeepsDrives s (route p s) := by
  unfold route
  split
  · exact handBeat_keepsDrives s _ _
  · exact handAllowance_keepsDrives s _ _
  · exact handClaim_keepsDrives s _ _
  · split
    · exact .refl s
    · exact handMode_keepsDrives s _ _ _
  · split
    · exact .refl s
    · exact enterRequest_keepsDrives s _

theorem receive_keepsDrives (began : Bool) (samples : List BitSamples) :
    KeepsDrives s (receive began samples s) := by
  have left (st : Stat) (b : Bool) := ((count_drivesAlone s st).trans (setAck_drivesAlone _ b)).keeps
  unfold receive
  split
  · exact (setAck_drivesAlone s _).keeps
  · split
    · exact left _ _
    · split
      · exact (setAck_drivesAlone s _).keeps
      · unfold takePost
        split
        · exact left _ _
        · split
          · exact left _ _
          · exact (left _ _).trans (route_keepsDrives _ _)

theorem idle_drivesAlone : DrivesAlone s (idle s) := by
  unfold idle
  dsimp only
  split
  · split
    · exact ⟨rfl, rfl, rfl, rfl, rfl⟩
    · exact DrivesAlone.trans (t := { elapse 1 s with crystal := 0 }) ⟨rfl, rfl, rfl, rfl, rfl⟩
        (crystalCount_drivesAlone _)
  · split
    · exact crystalCount_drivesAlone s
    · exact .refl s

end

/-! ### Every step -/

/-- No command lets the drives above their limits. -/
theorem exec_keepsDrives {c : Instr} {s t : State} (h : exec c s = .next t) : KeepsDrives s t := by
  cases c <;> cases h
  case beat => exact handBeat_keepsDrives s _ _
  case allowance => exact handAllowance_keepsDrives s _ _
  case claim => exact handClaim_keepsDrives s _ _
  case powerModeDoze => exact handMode_keepsDrives s _ _ _
  case powerModeAwake => exact handMode_keepsDrives s _ _ _
  case powerModeOffSoon => exact handMode_keepsDrives s _ _ _
  case receivePost => exact receive_keepsDrives s _ _
  case transmitStart => exact (startSending_drivesAlone s).keeps
  case postSendEnd => exact endSending_keepsDrives s _
  case silentEnd => exact (leaveSilent_drivesAlone s).keeps
  case readDataHandover => exact (readHandover_stores s).drivesAlone.keeps
  case readPageVerifyComplete => exact (readVerify_stores s).drivesAlone.keeps
  case pageCopyComplete =>
    exact (copyComplete_stores s).drivesAlone.keeps.trans (drainInbox_keepsDrives _)
  case streamIdleTimeout => exact (idleExpiry_drivesAlone s).keeps
  case startScrubComplete =>
    split
    · exact .refl s
    · split
      · exact fun _ => enterActive_limited _
      · exact .refl s
  case secondStep => exact (secondStep_clocks s).drivesAlone.keeps
  case tickTimerExpiry => exact timerExpiry_keepsDrives s
  case lossTimeout => exact lossExpiry_keepsDrives s
  case audioSample =>
    split
    · exact (audioSample_drivesAlone s).keeps
    · exact .refl s
  case motorSenseSample =>
    exact (senseSample_keepsDrives s _).trans (budgetFollow_keepsDrives _ s)
  case motorCheckDriveEnd =>
    split
    · exact .refl s
    · split
      · exact .refl s
      · exact ((reach_drivesAlone s _).keeps.trans (finishCheck_keepsDrives _ _)).trans
          (budgetFollow_keepsDrives _ _)
  case settingsReadComplete =>
    split
    · exact .refl s
    · split
      · next hk => exact settingsArrive_keepsDrives s hk.2 _
      · exact .refl s
  case directoryFetchComplete =>
    split
    · exact .refl s
    · split
      · exact directoryArrive_keepsDrives s _ _ _ _
      · exact .refl s
      · exact .refl s
  case stepFetchComplete =>
    split
    · exact .refl s
    · split
      · exact stepsArrive_keepsDrives s _ _ _ _ _
      · exact .refl s
      · exact .refl s
  case allowanceStale => exact allowanceExpiry_keepsDrives s
  case peerClaimExpiry => exact peerExpiry_keepsDrives s _
  case settleEnd => exact settleExpiry_keepsDrives s
  case listenEnd => exact listenExpiry_keepsDrives s
  case claimRefresh => exact refreshExpiry_keepsDrives s
  case claimAgeExpiry => exact ageExpiry_keepsDrives s
  case railGood =>
    split
    · exact fun _ => beginStart_limited s _ _
    · exact .refl s
  case railFail =>
    split
    · exact fun _ => railLost_limited s _
    · exact .refl s
  case keepDomainReset => exact fun _ => keepReset_limited s
  case keepSupplyRestored =>
    split
    · exact .refl s
    · exact DrivesAlone.keeps ⟨rfl, rfl, rfl, rfl, rfl⟩
  case coinCellSample =>
    split
    · exact (sampleCell_drivesAlone s _).keeps
    · exact .refl s
  case guardPinChange => exact (withGuard_drivesAlone s _).keeps
  case guardDebounceEnd =>
    split
    · exact .refl s
    · exact ((reach_drivesAlone s _).trans (withGuard_drivesAlone _ _)).keeps
  all_goals exact request_keepsDrives s _ _

theorem step_keepsDrives {s t : State} (h : step s = .next t) : KeepsDrives s t := by
  unfold step at h
  split at h
  · cases h
    exact (idle_drivesAlone s).keeps
  · next c rest _ => exact fun hs => exec_keepsDrives h hs

/-- Settles O6: a step leaves the drives alone, recomputes D_eff and cuts the gain, or puts both at rest; and
R128's formula case by case. -/
theorem everyStepKeepsTheDrivesLimited : Obligations.EveryStepKeepsTheDrivesLimited := by
  refine ⟨fun s t hs h => step_keepsDrives h hs, fun st p r => ⟨fun h => ?_, effectiveDuty_clear st,
    effectiveDuty_tripped st⟩⟩
  refine effectiveDuty_undriven st (h.imp_right fun hm => ?_)
  rcases hm with hm | hm <;> rw [hm] <;> exact nofun

end Sys2Proof.Machine
end

section
/-! SUPPORT. The ends of a voice's play, one rule each, and STOP_SOUND by each voice's state (R93, R102, R110,
R111). -/

namespace Sys2Proof.Machine

/-! ### A voice's record beside posts and fetch records -/

section
variable (s : State)

theorem formNotice_withSe (target : Nat) (n : Notice) (x : Sound) :
    formNotice target n (s.withSe x) = (formNotice target n s).withSe x := by
  by_cases h : (s.serving && s.nu.mask.getLsbD n.kind.number) = true
  · have formed : formNotice target n s = _ := if_pos h
    rw [formed]
    exact (if_pos h).trans (handPost_withSe _ s x)
  · have left : formNotice target n s = s := if_neg h
    rw [left]
    exact if_neg h

theorem raiseTo_withSe (target : Nat) (n : Notice) (x : Sound) :
    raiseTo target n (s.withSe x) = (raiseTo target n s).withSe x :=
  formNotice_withSe (flagNotice n s) target n x

theorem raiseTo_withVoice (target : Nat) (n : Notice) (i : Nat) (v : Voice) :
    raiseTo target n (s.withVoice i v) = (raiseTo target n s).withVoice i v := by
  rw [State.withVoice, raiseTo_withSe, State.withVoice, raiseTo_se]

theorem closeRec_withVoice (p i : Nat) (v : Voice) :
    closeRec p (s.withVoice i v) = (closeRec p s).withVoice i v := rfl

theorem voice_closeRec (p i : Nat) : (closeRec p s).voice i = s.voice i := rfl

theorem withVoice_self (i : Nat) : s.withVoice i (s.voice i) = s := by
  have same : setAt s.se.voices i (s.voice i) = s.se.voices := by
    ext j hj
    by_cases hij : i = j
    · subst hij
      simp [setAt, State.voice, getAt, hj]
    · simp [setAt, hij]
  rw [State.withVoice, same]
  rfl

end

/-! ### A confirmed play ends (R111) -/

/-- The end of voice `i`'s play is told where its request wanted CUE_END. -/
def cueTold (i : Nat) (v : Voice) (why : EndReason) (s : State) : State :=
  if v.endNotice = true then raiseTo v.requester (.cueEnd i v.playNo v.pattern why) s else s

theorem cueTold_se (i : Nat) (v : Voice) (why : EndReason) (s : State) : (cueTold i v why s).se = s.se := by
  unfold cueTold
  split
  · exact raiseTo_se ..
  · rfl

theorem cueTold_withVoice (i j : Nat) (v w : Voice) (why : EndReason) (s : State) :
    cueTold i v why (s.withVoice j w) = (cueTold i v why s).withVoice j w := by
  unfold cueTold
  split
  · exact raiseTo_withVoice ..
  · rfl

section
variable {s : State} {i : Nat} (why : EndReason)

theorem endCue_confirmed (hv : (s.voice i).state ≠ .idle) (ho : (s.voice i).owed = none) :
    endCue i why s = cueTold i (s.voice i) why s := by
  rw [endCue_eq, cueTold]
  exact if_congr (by simp [hv, ho]) rfl rfl

/-- A confirmed play ends: it is told, and the voice is at rest. -/
theorem finishVoice_confirmed (hv : (s.voice i).state ≠ .idle) (ho : (s.voice i).owed = none) :
    finishVoice i why s = (cueTold i (s.voice i) why s).withVoice i (s.voice i).resting := by
  rw [finishVoice, restVoice_eq, endCue_confirmed why hv ho, voice_of_se (cueTold_se ..)]

/-- An owed lookup reply is answered CANCELLED beside the voice's record (R93). -/
theorem cancelVoiceOwed_owed {o : Owed} (ho : (s.voice i).owed = some o) : cancelVoiceOwed i s =
    (replyOwed o .playSound .cancelled .none s).withVoice i { s.voice i with owed := none } := by
  simp only [cancelVoiceOwed, ho, replyOwed_withVoice]

variable (hi : i < 4)
include hi

/-- With a level above 0 the voice closes its record and lets its envelope fall (R102, R110). -/
theorem releaseVoice_fading (h : 0 < (s.voice i).env) : releaseVoice i why s =
    (closeRec (i + 1) s).withVoice i { s.voice i with
      endReason := some why, state := .releasing, stage := .release } := by
  simp only [releaseVoice, voice_closeRec, voice_withVoice _ hi, if_neg h.ne', withVoice_withVoice]

/-- At level 0 its play ends at once (R102, R110). -/
theorem releaseVoice_silent (h : (s.voice i).env = 0) (hv : (s.voice i).state ≠ .idle)
    (ho : (s.voice i).owed = none) : releaseVoice i why s =
      (cueTold i (s.voice i) why (closeRec (i + 1) s)).withVoice i
        { (s.voice i).resting with endReason := some why } := by
  have told : (closeRec (i + 1) s |>.withVoice i { s.voice i with endReason := some why }).voice i =
      { s.voice i with endReason := some why } := voice_withVoice _ hi _
  simp only [releaseVoice, voice_closeRec, told, if_pos h]
  rw [finishVoice_confirmed why (by rw [told]; exact hv) (by rw [told]; exact ho), told,
    cueTold_withVoice, withVoice_withVoice]
  rfl

end

/-! ### A stop reaches a voice (R110) -/

section
variable {s : State} {i : Nat}

/-- The voice holds a play that is not fading: STARTING, PLAYING or STARVED. -/
def Voice.sounding (v : Voice) : Prop := v.state = .starting ∨ v.state = .playing ∨ v.state = .starved

theorem Voice.sounding.ne_idle {v : Voice} (h : v.sounding) : v.state ≠ .idle := by
  rcases h with h | h | h <;> rw [h] <;> exact nofun

theorem stopVoice_idle (m : SoundStop) (h : (s.voice i).state = .idle) : stopVoice m i s = s := by
  simp only [stopVoice, h]

theorem stopVoice_fading_release (h : (s.voice i).state = .releasing) : stopVoice .release i s = s := by
  simp only [stopVoice, h]

theorem stopVoice_fading_cut (h : (s.voice i).state = .releasing) :
    stopVoice .cut i s = finishVoice i ((s.voice i).endReason.getD .stopped) s := by
  simp only [stopVoice, h]

section
variable (h : (s.voice i).sounding)
include h

theorem stopVoice_sounding_owed (m : SoundStop) (ho : (s.voice i).owed ≠ none) :
    stopVoice m i s = restVoice i (closeRec (i + 1) (cancelVoiceOwed i s)) := by
  rcases h with h | h | h <;> simp only [stopVoice, h, Option.isSome_iff_ne_none.2 ho, if_true]

theorem stopVoice_sounding_release (ho : (s.voice i).owed = none) :
    stopVoice .release i s = releaseVoice i .stopped s := by
  rcases h with h | h | h <;> simp [stopVoice, h, ho]

theorem stopVoice_sounding_cut (ho : (s.voice i).owed = none) : stopVoice .cut i s =
    (finishVoice i .stopped (closeRec (i + 1) s)).withVoice i
      { (finishVoice i .stopped (closeRec (i + 1) s)).voice i with endReason := some .stopped } := by
  rcases h with h | h | h <;> simp [stopVoice, h, ho]

/-- A play whose lookup reply is owed is CANCELLED (R93, R110). -/
theorem stopVoice_cancels (hi : i < 4) (m : SoundStop) {o : Owed} (ho : (s.voice i).owed = some o) :
    stopVoice m i s = (closeRec (i + 1) (replyOwed o .playSound .cancelled .none s)).withVoice i
      { (s.voice i).resting with owed := none } := by
  rw [stopVoice_sounding_owed h m (by simp [ho]), cancelVoiceOwed_owed ho, closeRec_withVoice,
    restVoice_eq, voice_withVoice _ hi, withVoice_withVoice]
  rfl

/-- CUT, and RELEASE at level 0, end a confirmed play at once (R110, R111). -/
theorem stopVoice_ends (hi : i < 4) (ho : (s.voice i).owed = none) {m : SoundStop}
    (hm : m = .cut ∨ (s.voice i).env = 0) : stopVoice m i s =
      (cueTold i (s.voice i) .stopped (closeRec (i + 1) s)).withVoice i
        { (s.voice i).resting with endReason := some .stopped } := by
  cases m with
  | release =>
    rw [stopVoice_sounding_release h ho]
    exact releaseVoice_silent .stopped hi (hm.resolve_left nofun) h.ne_idle ho
  | cut =>
    rw [stopVoice_sounding_cut h ho, finishVoice_confirmed (s := closeRec (i + 1) s) .stopped h.ne_idle ho,
      voice_withVoice _ hi, withVoice_withVoice, voice_closeRec]

end

end

/-! ### The voices that a stop does not reach -/

/-- The other voices than `i` stand in `t` as in `s`. -/
def OthersAlone (i : Nat) (s t : State) : Prop := ∀ j, j ≠ i → t.voice j = s.voice j

theorem OthersAlone.trans {i : Nat} {s t u : State} (h : OthersAlone i s t) (k : OthersAlone i t u) :
    OthersAlone i s u := fun j hj => (k j hj).trans (h j hj)

theorem othersAlone_of_se {s t : State} (i : Nat) (h : t.se = s.se) : OthersAlone i s t :=
  fun j _ => voice_of_se h j

section
variable (i : Nat) (s : State)

theorem withVoice_othersAlone (v : Voice) : OthersAlone i s (s.withVoice i v) :=
  fun _ hj => voice_withVoice_other s hj v

theorem finishVoice_othersAlone (why : EndReason) : OthersAlone i s (finishVoice i why s) :=
  (othersAlone_of_se i (endCue_se i why s)).trans (withVoice_othersAlone i _ _)

theorem cancelVoiceOwed_othersAlone : OthersAlone i s (cancelVoiceOwed i s) := by
  unfold cancelVoiceOwed
  split
  · exact fun _ _ => rfl
  · exact (withVoice_othersAlone i s _).trans (othersAlone_of_se i (replyOwed_se ..))

theorem releaseVoice_othersAlone (why : EndReason) : OthersAlone i s (releaseVoice i why s) := by
  have told : OthersAlone i s ((closeRec (i + 1) s).withVoice i
      { s.voice i with endReason := some why }) := withVoice_othersAlone i (closeRec (i + 1) s) _
  unfold releaseVoice
  dsimp only
  split
  · exact told.trans (finishVoice_othersAlone i _ why)
  · exact told.trans (withVoice_othersAlone i _ _)

theorem stopVoice_othersAlone (m : SoundStop) : OthersAlone i s (stopVoice m i s) := by
  have cut : OthersAlone i s (finishVoice i .stopped (closeRec (i + 1) s)) :=
    finishVoice_othersAlone i (closeRec (i + 1) s) _
  unfold stopVoice
  dsimp only
  split
  case h_1 => exact fun _ _ => rfl
  case h_5 =>
    split
    · exact fun _ _ => rfl
    · exact finishVoice_othersAlone i s _
  all_goals
    split
    · exact OthersAlone.trans (t := closeRec (i + 1) (cancelVoiceOwed i s)) (cancelVoiceOwed_othersAlone i s)
        (withVoice_othersAlone i _ _)
    · split
      · exact releaseVoice_othersAlone i s _
      · exact cut.trans (withVoice_othersAlone i _ _)

end

/-! ### STOP_SOUND served (R110) -/

section
variable {a : Ask} {voice mode : Nat} {s : State}

theorem exec_stopSound (h : Heard s a .stopSound) :
    exec (.stopSound a voice mode) s = .next (serveStopSound a voice mode s) :=
  exec_heard (e := ⟨a, .stopSound voice mode⟩) rfl h

theorem soundStopOf_of_lt (h : mode < 2) :
    soundStopOf mode = some (if mode = 0 then .release else .cut) := by
  match mode with
  | 0 | 1 => rfl

theorem soundStopOf_of_ge (h : 2 ≤ mode) : soundStopOf mode = none := by
  match mode with
  | n + 2 => rfl

theorem serveStopSound_badArg (h : 2 ≤ mode ∨ 5 ≤ voice) :
    serveStopSound a voice mode s = reply a .stopSound .badArg .none s := by
  unfold serveStopSound
  split
  · rfl
  · next m hm =>
    refine if_pos (h.resolve_left fun h2 => ?_)
    rw [soundStopOf_of_ge h2] at hm
    cases hm

/-- The part after a stop of the voices that it reaches, ALL in order (R110). -/
def soundStopped (m : SoundStop) (voice : Nat) (s : State) : State :=
  if voice = 4 then stopVoice m 3 (stopVoice m 2 (stopVoice m 1 (stopVoice m 0 s))) else stopVoice m voice s

theorem stopReach_foldl (m : SoundStop) (voice : Nat) (s : State) :
    (stopReach voice).foldl (fun s i => stopVoice m i s) s = soundStopped m voice s := by
  unfold stopReach soundStopped
  split <;> rfl

theorem countP_voice {p : Nat → Bool} (hv : voice < 4) (h : ∀ j, j ≠ voice → p j = false) :
    [voice].countP p = (List.range 4).countP p := by
  have only : (List.range 4).filter p = [voice].filter p := by
    match voice with
    | 0 | 1 | 2 | 3 => simp [List.range_succ, List.filter_cons, h]
  rw [List.countP_eq_length_filter, List.countP_eq_length_filter, only]

/-- The count over the voices reached is the count over all, since a stop leaves the others alone. -/
theorem stopReach_countP (m : SoundStop) (hv : voice < 5) :
    (stopReach voice).countP (stopCounts s (soundStopped m voice s)) = (List.range 4).countP fun i =>
      decide (((soundStopped m voice s).voice i).state ≠ (s.voice i).state) := by
  have counts (t : State) : stopCounts s t = fun i => decide ((t.voice i).state ≠ (s.voice i).state) := by
    funext i
    exact (decide_not ..).symm
  rw [counts]
  by_cases h : voice = 4
  · rw [stopReach, if_pos h]
    rfl
  · have others : ∀ j, j ≠ voice → decide (((stopVoice m voice s).voice j).state ≠ (s.voice j).state) =
        false := fun j hj => by simp [stopVoice_othersAlone voice s m j hj]
    rw [stopReach, if_neg h, soundStopped, if_neg h]
    exact countP_voice (by omega) others

theorem serveStopSound_stops (hm : mode < 2) (hv : voice < 5) :
    let t := soundStopped (if mode = 0 then .release else .cut) voice s
    serveStopSound a voice mode s = reply a .stopSound .done (.soundStop ((List.range 4).countP fun i =>
      decide ((t.voice i).state ≠ (s.voice i).state))) t := by
  simp only [serveStopSound, soundStopOf_of_lt hm, if_neg (show ¬ 5 ≤ voice by omega), stopReach_foldl,
    stopReach_countP _ hv]

end

/-- Settles O49: the voices reached and the count over them, and `stopVoice` by the voice's state. -/
theorem stopSoundActsByVoiceState : Obligations.StopSoundActsByVoiceState := by
  refine fun s => ⟨fun a voice mode heard => ?_, fun i hi => ⟨fun h => ⟨stopVoice_idle _ h, stopVoice_idle _ h⟩,
    fun o m h ho => stopVoice_cancels h hi m ho, fun h ho he => ?_,
    fun m h ho hm => stopVoice_ends h hi ho hm, stopVoice_fading_release, fun h ho => ?_⟩⟩
  · have hrun := exec_stopSound (voice := voice) (mode := mode) heard
    exact ⟨fun h => hrun.trans (congrArg _ (serveStopSound_badArg h)),
      fun hm hv => hrun.trans (congrArg _ (serveStopSound_stops hm hv))⟩
  · rw [stopVoice_sounding_release h ho, releaseVoice_fading _ hi he]
  · have active : (s.voice i).state ≠ .idle := by rw [h]; exact nofun
    rw [stopVoice_fading_cut h, finishVoice_confirmed _ active ho]
    rfl

end Sys2Proof.Machine
end

section
/-! SUPPORT. VOICE_SET and MASTER_LEVEL as their rules spell them (R88, R95, R107, R145). -/

namespace Sys2Proof.Machine

/-! ### VOICE_SET (R88, R95) -/

/-- The waveform that a choice number names, without the test of its range (R203). -/
def namedWaveform (w : Nat) : Waveform := if w = 0 then .pulse else if w = 1 then .triangle else .noise

theorem waveformOf_of_lt {w : Nat} (h : w < 3) : waveformOf w = some (namedWaveform w) := by
  match w with
  | 0 | 1 | 2 => rfl

/-- A request's settings with a waveform that is one, as R88 clamps them. -/
theorem clamped_eq {f : VoiceFields} (h : ∀ w, f.waveform = some w → w < 3) : VoiceFields.clamped f = {
    waveform := f.waveform.map namedWaveform
    duty := f.duty.map fun n => max 1 (min n 7)
    attack := f.attack.map fun n => max 1 (min n 255)
    decay := f.decay.map fun n => min n 255
    sustain := f.sustain.map fun n => min n 255
    release := f.release.map fun n => max 1 (min n 255)
    transpose := f.transpose.map fun n => max (-24) (min n 24)
    level := f.level.map fun n => min n 15 } := by
  have waveform : f.waveform.bind waveformOf = f.waveform.map namedWaveform := by
    cases hw : f.waveform with
    | none => rfl
    | some w => exact waveformOf_of_lt (h w hw)
  have below (top : Nat) : (fun n => clampNat n 0 top) = fun n => min n top :=
    funext fun n => Nat.zero_max _
  rw [VoiceFields.clamped, waveform, below, below]
  rfl

section
variable {a : Ask} {voice : Nat} {f : VoiceFields} {s : State}

theorem exec_voiceSet (h : Heard s a .voiceSet) :
    exec (.voiceSet a voice f) s = .next (serveVoiceSet a voice f s) :=
  exec_heard (e := ⟨a, .voiceSet voice f⟩) rfl h

theorem waveformOk_eq_false {f : VoiceFields} (h : ∃ w, f.waveform = some w ∧ 3 ≤ w) :
    ¬ VoiceFields.waveformOk f = true := by
  obtain ⟨w, hw, h3⟩ := h
  exact fun ok => absurd (waveformOk_iff.1 ok w hw) (by omega)

theorem serveVoiceSet_badArg (h : 4 ≤ voice ∨ ∃ w, f.waveform = some w ∧ 3 ≤ w) :
    serveVoiceSet a voice f s = reply a .voiceSet .badArg .none s :=
  if_pos (h.imp_right waveformOk_eq_false)

/-- The fields present join the pending change, and DONE carries the whole of it (R95). -/
theorem serveVoiceSet_joins (hv : voice < 4) (hw : ∀ w, f.waveform = some w → w < 3) :
    serveVoiceSet a voice f s =
      reply a .voiceSet .done (.pendingChange ((s.voice voice).change.update (VoiceFields.clamped f)))
        (s.withVoice voice
          { s.voice voice with change := (s.voice voice).change.update (VoiceFields.clamped f) }) :=
  if_neg (not_or_intro (by omega) (not_not_intro (waveformOk_iff.2 hw)))

end

/-! ### MASTER_LEVEL (R107, R145) -/

section
variable {a : Ask} {s : State} (level : Nat)

theorem exec_masterLevel (h : Heard s a .masterLevel) :
    exec (.masterLevel a level) s = .next (serveMasterLevel a level s) :=
  exec_heard (e := ⟨a, .masterLevel level⟩) rfl h

/-- The mixer with a new master level and the target that it sets (R107). -/
def Sound.mastered (x : Sound) (level : Nat) : Sound :=
  { x with master := min level 63, gTarget := 4 * min level 63 }

/-- The Budget Unit recomputes where the gain target changes (R145). -/
theorem recomputeSince_mastered : recomputeSince s (s.withSe (s.se.mastered level)) =
    if s.se.gTarget = 4 * min level 63 then s.withSe (s.se.mastered level)
    else recompute (s.withSe (s.se.mastered level)) := by
  have same : budgetInputs s = budgetInputs (s.withSe (s.se.mastered level)) ↔
      s.se.gTarget = 4 * min level 63 := by
    rw [budgetInputs_eq_iff]
    exact ⟨And.left, fun h => ⟨h, rfl, rfl, rfl⟩⟩
  exact if_congr same rfl rfl

/-- Of the Sound Engine a recomputation may change the gain and its ceiling alone (R109, R148). -/
theorem recomputeSince_se (s₀ s : State) : (recomputeSince s₀ s).se = { s.se with
    gEff := (recomputeSince s₀ s).se.gEff, gCeiling := (recomputeSince s₀ s).se.gCeiling } :=
  (congrArg State.se (recomputeSince_budgets s₀ s)).trans rfl

/-- The recomputation keeps the level, the target and the voices. -/
theorem mastered_se :
    let t := recomputeSince s (s.withSe (s.se.mastered level))
    t.se.master = min level 63 ∧ t.se.gTarget = 4 * min level 63 ∧ t.se.voices = s.se.voices := by
  have kept := recomputeSince_se s (s.withSe (s.se.mastered level))
  exact ⟨(congrArg Sound.master kept).trans rfl, (congrArg Sound.gTarget kept).trans rfl,
    (congrArg Sound.voices kept).trans rfl⟩

theorem serveMasterLevel_eq : serveMasterLevel a level s =
    let t := recomputeSince s (s.withSe (s.se.mastered level))
    reply a .masterLevel .done
      (.master (min level 63) (4 * min level 63) t.se.gEff t.se.gCeiling) t := by
  obtain ⟨master, target, _⟩ := mastered_se (s := s) level
  dsimp only
  rw [← target, ← master]
  rfl

end

/-- Settles O50: the pending change of `serveVoiceSet_joins` under R88's clamps, and the recomputation that
follows a new target. -/
theorem voiceSetAndMasterLevelAct : Obligations.VoiceSetAndMasterLevelAct := by
  refine fun a s => ⟨fun voice f heard => ⟨fun h => ?_, fun h => ?_⟩, fun level heard => ?_⟩
  · rw [exec_voiceSet heard, serveVoiceSet_badArg h]
  · obtain ⟨hv, hw⟩ := not_or.1 h
    have named : ∀ w, f.waveform = some w → w < 3 := fun w e => by_contra fun h3 => hw ⟨w, e, by omega⟩
    rw [exec_voiceSet heard, serveVoiceSet_joins (by omega) named, clamped_eq named]
    rfl
  · obtain ⟨master, target, voices⟩ := mastered_se (s := s) level
    rw [exec_masterLevel level heard, serveMasterLevel_eq]
    rw [recomputeSince_mastered] at master target voices ⊢
    exact ⟨rfl, master, target, voices⟩

end Sys2Proof.Machine
end

section
/-! SUPPORT. The audio sample: wave values and contributions, the oscillators, and the mixer's saturation
(R98, R99, R101, R104 to R106). -/

namespace Sys2Proof.Machine

/-! ### Wave values (R98) -/

section
variable {v : Voice}

theorem wave_pulse (h : v.waveform = .pulse) :
    v.wave = if v.phase / 2097152 < v.duty then 127 else -128 := by
  simp only [Voice.wave, h]

theorem wave_triangle (h : v.waveform = .triangle) :
    v.wave = if ((v.phase / 65536 : Nat) : Int) < 128 then 2 * ((v.phase / 65536 : Nat) : Int) - 128
      else 383 - 2 * ((v.phase / 65536 : Nat) : Int) := by
  simp only [Voice.wave, h]
  exact if_congr (by omega) rfl rfl

theorem wave_noise (h : v.waveform = .noise) :
    v.wave = if v.noise.toNat % 2 = 1 then 127 else -128 := by
  simp only [Voice.wave, h]
  refine if_congr ?_ rfl rfl
  rw [BitVec.getLsbD, Nat.testBit_zero, decide_eq_true_iff]

theorem wave_bounds (hp : v.phase < 16777216) : -128 ≤ v.wave ∧ v.wave ≤ 127 := by
  cases h : v.waveform with
  | pulse =>
    rw [wave_pulse h]
    split <;> omega
  | triangle =>
    rw [wave_triangle h]
    split <;> omega
  | noise =>
    rw [wave_noise h]
    split <;> omega

/-! ### Contributions (R101, R104) -/

theorem contribution_idle (h : v.state = .idle) : v.contribution = 0 := if_pos h

theorem contribution_sounding (h : v.state ≠ .idle) : v.contribution =
    Int.tdiv (v.wave * v.env * (v.stepLevel * v.level / 15 : Nat)) 1024 := if_neg h

theorem loudness_le (hs : v.stepLevel ≤ 15) (hl : v.level ≤ 15) : v.stepLevel * v.level / 15 ≤ 15 := by
  have product : v.stepLevel * v.level ≤ 15 * 15 := Nat.mul_le_mul hs hl
  omega

theorem contribution_silent (h : v.env = 0 ∨ v.stepLevel = 0 ∨ v.level = 0) : v.contribution = 0 := by
  by_cases hv : v.state = .idle
  · exact contribution_idle hv
  · rw [contribution_sounding hv]
    rcases h with h | h | h <;> simp [h]

/-- Level and loudness scale a wave value by at most 255 × 15. -/
theorem contribution_bounds (he : v.env ≤ 255) (hs : v.stepLevel ≤ 15) (hl : v.level ≤ 15)
    (hp : v.phase < 16777216) : -478 ≤ v.contribution ∧ v.contribution ≤ 474 := by
  by_cases hv : v.state = .idle
  · rw [contribution_idle hv]
    decide
  · rw [contribution_sounding hv, mul_assoc, ← Nat.cast_mul]
    have scale : v.env * (v.stepLevel * v.level / 15) ≤ 255 * 15 := Nat.mul_le_mul he (loudness_le hs hl)
    generalize v.env * (v.stepLevel * v.level / 15) = k at scale
    obtain ⟨low, high⟩ := wave_bounds hp
    generalize v.wave = w at low high
    have below : -128 * 3825 ≤ w * (k : Int) := by nlinarith
    have above : w * (k : Int) ≤ 127 * 3825 := by nlinarith
    exact ⟨Int.tdiv_le_tdiv (by decide) below, Int.tdiv_le_tdiv (by decide) above⟩

end

/-! ### The oscillators (R98, R99) -/

/-- The noise register shifts: the exclusive-or of its two lowest bits enters at the top. -/
theorem noiseShift_eq (x : BitVec 15) :
    noiseShift x = BitVec.cons (x.getLsbD 0 != x.getLsbD 1) (x.extractLsb' 1 14) := by
  unfold noiseShift
  generalize (x.getLsbD 0 != x.getLsbD 1) = top
  have entering : (if top = true then 0x4000#15 else 0#15).getLsbD 14 = top := by cases top <;> rfl
  have apart (i : Nat) (hi : i < 14) : (if top = true then 0x4000#15 else 0#15).getLsbD i = false := by
    rw [show 0x4000#15 = BitVec.twoPow 15 14 from rfl]
    split <;> simp [BitVec.getLsbD_twoPow, hi.ne']
  refine BitVec.eq_of_getLsbD_eq fun i hi => ?_
  rw [BitVec.getLsbD_or, BitVec.getLsbD_ushiftRight, BitVec.getLsbD_cons, BitVec.getLsbD_extractLsb']
  by_cases h : i = 14
  · subst h
    rw [entering, if_pos rfl, BitVec.getLsbD_of_ge x 15 (Nat.le_refl 15), Bool.false_or]
  · rw [apart i (by omega), if_neg h, Bool.or_false, decide_eq_true (by omega : i < 14), Bool.true_and]

/-- The oscillator of a voice after a sample. -/
theorem advance_eq (v : Voice) : v.advance = { v with
    phase := (v.phase + v.increment) % 16777216
    noise := if v.phase + v.increment < 16777216 then v.noise
      else BitVec.cons (v.noise.getLsbD 0 != v.noise.getLsbD 1) (v.noise.extractLsb' 1 14) } := by
  have noise : (if 16777216 ≤ v.phase + v.increment then noiseShift v.noise else v.noise) =
      if v.phase + v.increment < 16777216 then v.noise
      else BitVec.cons (v.noise.getLsbD 0 != v.noise.getLsbD 1) (v.noise.extractLsb' 1 14) := by
    rw [← noiseShift_eq, ← ite_not]
    exact if_congr (by omega) rfl rfl
  rw [Voice.advance, ← noise]

/-! ### The mixer (R105, R106) -/

theorem mixSum_eq (x : Sound) : mixSum x = x.voices[0].contribution + x.voices[1].contribution +
    x.voices[2].contribution + x.voices[3].contribution := by
  have list : x.voices.toList = [x.voices[0], x.voices[1], x.voices[2], x.voices[3]] := by
    exact List.ext_getElem (by simp) fun i hi _ => by
      have : i = 0 ∨ i = 1 ∨ i = 2 ∨ i = 3 := by simp at hi; omega
      rcases this with rfl | rfl | rfl | rfl <;> simp
  rw [mixSum, list]
  simp only [List.map_cons, List.map_nil, List.sum_cons, List.sum_nil]
  ring

/-- The Sound Engine with its oscillators advanced (R98). -/
def Sound.advanced (x : Sound) : Sound := { x with voices := x.voices.map Voice.advance }

/-- out after it is saturated (R105). -/
def keptOut (x : Sound) : Int := max (-512) (min (mixOut x) 511)

section
variable {s : State}

theorem exec_audioSample : ∀ s, exec .audioSample s = execAudioSample s := by
  intros
  rfl

theorem exec_audioSample_powered (h : s.ps.state ≠ .keep) :
    exec .audioSample s = .next (audioSample s) := by
  have powered : s.powered = true := bne_iff_ne.2 h
  rw [exec_audioSample, execAudioSample, if_pos powered]

theorem exec_audioSample_keep (h : s.ps.state = .keep) : exec .audioSample s = .next s := by
  have unpowered : ¬ s.powered = true := fun hp => bne_iff_ne.1 hp h
  rw [exec_audioSample, execAudioSample, if_neg unpowered]

theorem audioSample_held (h : s.ps.state ≠ .active) :
    audioSample s = s.withSe { s.se.advanced with compare := 512 } := if_neg h

/-- The mixer's compare value and clip count in ACTIVE (R105, R106). -/
theorem audioSample_mixes (h : s.ps.state = .active) : audioSample s =
    let x := s.se.advanced
    let clipped := keptOut x != mixOut x
    (if clipped && s.se.clipOpen then count .clips s else s).withSe
      { x with compare := (keptOut x + 512).toNat, clipOpen := s.se.clipOpen && !clipped } := by
  rw [audioSample, if_pos h]
  rfl

section
variable (h : s.ps.state = .active)
include h

theorem audioSample_exact (hk : mixOut s.se.advanced = keptOut s.se.advanced) :
    audioSample s = s.withSe { s.se.advanced with compare := (keptOut s.se.advanced + 512).toNat } := by
  rw [audioSample_mixes h]
  simp only [hk, bne_self_eq_false, Bool.false_and, Bool.not_false, Bool.and_true, Bool.false_eq_true,
    if_false]
  rfl

/-- The first clipped sample of a tick interval counts CLIPS. -/
theorem audioSample_clipped (hk : mixOut s.se.advanced ≠ keptOut s.se.advanced)
    (ho : s.se.clipOpen = true) : audioSample s = (count .clips s).withSe
      { s.se.advanced with compare := (keptOut s.se.advanced + 512).toNat, clipOpen := false } := by
  rw [audioSample_mixes h]
  simp only [bne_iff_ne.2 hk.symm, ho, Bool.and_self, Bool.not_true, Bool.and_false, if_true]

/-- After it no sample of the interval counts. -/
theorem audioSample_counted (ho : s.se.clipOpen = false) : audioSample s =
    s.withSe { s.se.advanced with compare := (keptOut s.se.advanced + 512).toNat } := by
  have closed : s.se.advanced.clipOpen = false := ho
  rw [audioSample_mixes h]
  simp only [ho, Bool.false_and, Bool.and_false, Bool.false_eq_true, if_false]
  rw [← closed]

end

end

theorem keptOut_toNat_le (x : Sound) : (keptOut x + 512).toNat ≤ 1023 := by
  unfold keptOut
  omega

/-- Settles O51: the wave values by waveform, the contribution between the wave's scaled bounds, and the sample
of `audioSample_exact` to `audioSample_held` over the oscillators of `advance_eq`. -/
theorem audioSampleMixesTheVoices : Obligations.AudioSampleMixesTheVoices := by
  refine ⟨fun v he hs hl hp => ?_, fun v => ⟨wave_pulse, wave_triangle, wave_noise⟩, fun s => ?_⟩
  · obtain ⟨low, high⟩ := contribution_bounds he hs hl hp
    exact ⟨low, high, contribution_idle, contribution_silent, contribution_sounding⟩
  · intro voices sum out kept
    have advanced : s.se.advanced = { s.se with voices := voices } := by
      rw [Sound.advanced, funext advance_eq]
    have mixed : mixOut s.se.advanced = out := by
      rw [mixOut, mixSum_eq, advanced]
      rfl
    have saturated : keptOut s.se.advanced = kept := by rw [keptOut, mixed]
    have run (h : s.ps.state ≠ .keep) := exec_audioSample_powered h
    rw [← mixed, ← saturated]
    refine ⟨fun hp hk => ?_, fun hp hk ho => ?_, fun hp _ ho => ?_, fun _ => keptOut_toNat_le _,
      fun hp => ?_, exec_audioSample_keep⟩
    · rw [run (by rw [hp]; exact nofun), audioSample_exact hp hk, advanced]
      rfl
    · rw [run (by rw [hp]; exact nofun), audioSample_clipped hp hk ho, advanced]
      rfl
    · rw [run (by rw [hp]; exact nofun), audioSample_counted hp ho, advanced]
      rfl
    · have powered : s.ps.state ≠ .keep := by rcases hp with h | h <;> rw [h] <;> exact nofun
      have unmixed : s.ps.state ≠ .active := by rcases hp with h | h <;> rw [h] <;> exact nofun
      rw [run powered, audioSample_held unmixed, advanced]
      rfl

end Sys2Proof.Machine
end

section
/-! SUPPORT. A tick of the Sound Engine: the pending change, the beginning note and the envelope of a voice, and
a voice's tick, one rule per branch (R87, R96, R97, R100 to R103, R111). -/

namespace Sys2Proof.Machine

/-! ### A voice's own fields (R96, R97, R101, R103) -/

section
variable (v : Voice)

/-- The increment of the note that sounds after a transpose (R97). -/
def transposedIncrement (note : Nat) (transpose : Int) : Nat :=
  noteTable.getD (max 0 (min (note + transpose) 95)).toNat 0

theorem retuned_eq : v.retuned = { v with increment := transposedIncrement v.note v.transpose } := rfl

/-- The pending change replaces what it names, and a transpose recomputes the increment (R96). -/
theorem applyChange_eq : v.applyChange = { v.withSettings v.change with
    change := {}
    increment := if v.change.transpose = none then v.increment
      else transposedIncrement v.note (v.change.transpose.getD v.transpose) } := by
  rw [Voice.applyChange]
  cases h : v.change.transpose with
  | none => rfl
  | some t =>
    simp only [Option.isSome_some, if_true, retuned_eq, Voice.withSettings, h, reduceCtorEq, if_false]

theorem beginNote_tie (level : Nat) (again : Bool) : v.beginNote 127 level again = v := rfl

theorem beginNote_rest (level : Nat) (again : Bool) :
    v.beginNote 126 level again = { v with stage := .release, lastRest := true } := rfl

/-- The voice as a note sounds in it, before its envelope is triggered (R101). -/
def Voice.noted (v : Voice) (note level : Nat) : Voice := { v with
  note := note, stepLevel := level, lastRest := false, increment := transposedIncrement note v.transpose }

theorem beginNote_note {n : Nat} (hn : n ≤ 95) (level : Nat) (again : Bool) : v.beginNote n level again =
    if again = true ∨ v.lastRest = true then { v.noted n level with stage := .attack, env := 0 }
    else v.noted n level := by
  have trigger : (again || v.lastRest) = true ↔ again = true ∨ v.lastRest = true := Bool.or_eq_true_iff
  rw [Voice.beginNote, if_neg (by omega), if_neg (by omega)]
  exact if_congr trigger rfl rfl

/-- A beginning step leaves the voice's state alone. -/
theorem beginNote_state (n level : Nat) (again : Bool) : (v.beginNote n level again).state = v.state := by
  unfold Voice.beginNote
  dsimp only
  split
  · rfl
  · split
    · rfl
    · split <;> rfl

/-- The envelope work moves the level and the stage, and nothing else (R103). -/
theorem moveEnvelope_only : ∃ e st, v.moveEnvelope = { v with env := e, stage := st } := by
  unfold Voice.moveEnvelope
  split
  all_goals exact ⟨_, _, rfl⟩

theorem moveEnvelope_state : v.moveEnvelope.state = v.state := by
  obtain ⟨e, st, h⟩ := moveEnvelope_only v
  rw [h]

theorem moveEnvelope_owed : v.moveEnvelope.owed = v.owed := by
  obtain ⟨e, st, h⟩ := moveEnvelope_only v
  rw [h]

theorem cueTold_moveEnvelope (i : Nat) (why : EndReason) (s : State) :
    cueTold i v.moveEnvelope why s = cueTold i v why s := by
  obtain ⟨e, st, h⟩ := moveEnvelope_only v
  rw [h]
  rfl

end

/-! ### The envelope by its stage (R103) -/

section
variable {v : Voice}

theorem moveEnvelope_attack (h : v.stage = .attack) : v.moveEnvelope = { v with
    env := min 255 (v.env + v.attack)
    stage := if min 255 (v.env + v.attack) = 255 then .decay else .attack } := by
  simp only [Voice.moveEnvelope, h]

theorem moveEnvelope_decay (h : v.stage = .decay) : v.moveEnvelope = { v with
    env := max v.sustain (v.env - v.decay)
    stage := if max v.sustain (v.env - v.decay) = v.sustain then .sustain else .decay } := by
  simp only [Voice.moveEnvelope, h]

theorem moveEnvelope_release (h : v.stage = .release) : v.moveEnvelope = { v with
    env := v.env - v.release, stage := if v.env - v.release = 0 then .off else .release } := by
  simp only [Voice.moveEnvelope, h]

theorem moveEnvelope_sustain (h : v.stage = .sustain) : v.moveEnvelope = v := by
  simp only [Voice.moveEnvelope, h]

theorem moveEnvelope_off (h : v.stage = .off) : v.moveEnvelope = { v with env := 0 } := by
  simp only [Voice.moveEnvelope, h]

theorem moveEnvelope_rises (h : v.stage = .attack) (he : v.env + v.attack < 255) :
    v.moveEnvelope = { v with env := v.env + v.attack } := by
  rw [moveEnvelope_attack h, Nat.min_eq_right he.le, if_neg he.ne, ← h]

theorem moveEnvelope_peaks (h : v.stage = .attack) (he : 255 ≤ v.env + v.attack) :
    v.moveEnvelope = { v with env := 255, stage := .decay } := by
  rw [moveEnvelope_attack h, Nat.min_eq_left he, if_pos rfl]

theorem moveEnvelope_decays (h : v.stage = .decay) (he : v.sustain + v.decay < v.env) :
    v.moveEnvelope = { v with env := v.env - v.decay } := by
  have above : v.sustain < v.env - v.decay := by omega
  rw [moveEnvelope_decay h, Nat.max_eq_right above.le, if_neg above.ne', ← h]

theorem moveEnvelope_settles (h : v.stage = .decay) (he : v.env ≤ v.sustain + v.decay) :
    v.moveEnvelope = { v with env := v.sustain, stage := .sustain } := by
  rw [moveEnvelope_decay h, Nat.max_eq_left (by omega), if_pos rfl]

theorem moveEnvelope_falls (h : v.stage = .release) (he : v.release < v.env) :
    v.moveEnvelope = { v with env := v.env - v.release } := by
  rw [moveEnvelope_release h, if_neg (by omega), ← h]

theorem moveEnvelope_fades (h : v.stage = .release) (he : v.env ≤ v.release) :
    v.moveEnvelope = { v with env := 0, stage := .off } := by
  rw [moveEnvelope_release h, Nat.sub_eq_zero_of_le he, if_pos rfl]

end

/-! ### A voice's record beside the counts and the fetch records -/

/-- A voice with `n` ticks of its step left. -/
def Voice.withTicks (v : Voice) (n : Nat) : Voice := { v with ticksLeft := n }

/-- A step has left player `p`'s buffer, and the record may ask for more (R79, R83). -/
def stepTaken (p : Nat) (rest : List Step) (s : State) : State :=
  askSteps p (s.withFetchRec p { s.fetchRec p with buffer := rest })

theorem count_withVoice (st : Stat) (i : Nat) (v : Voice) (s : State) :
    count st (s.withVoice i v) = (count st s).withVoice i v := rfl

theorem askSteps_withVoice (p i : Nat) (v : Voice) (s : State) :
    askSteps p (s.withVoice i v) = (askSteps p s).withVoice i v := by
  by_cases h : wantsSteps s.pfu.port p (s.fetchRec p) = true
  · rw [askSteps_asks h]
    exact askSteps_asks h
  · rw [askSteps_quiet h]
    exact askSteps_quiet h

theorem stepTaken_withVoice (p i : Nat) (v : Voice) (rest : List Step) (s : State) :
    stepTaken p rest (s.withVoice i v) = (stepTaken p rest s).withVoice i v :=
  askSteps_withVoice p i v (s.withFetchRec p { s.fetchRec p with buffer := rest })

/-- A step that leaves the buffer begins in the voice (R83, R94). -/
theorem takeSoundStep_begins {s : State} {i : Nat} {note length level : Nat} {again : Bool}
    {rest : List Step} (hb : (s.fetchRec (i + 1)).buffer = .sound note length level again :: rest) :
    takeSoundStep i s = beginSoundStep i (.sound note length level again) (stepTaken (i + 1) rest s) := by
  rw [takeSoundStep, nextStep_step hb]
  rfl

/-! ### The envelope work of a voice (R103, R111) -/

section
variable (s : State) {i : Nat} (hi : i < 4) {v : Voice}
include hi

theorem envelopeTick_playing (h : v.state = .playing) :
    envelopeTick i (s.withVoice i v) = s.withVoice i v.moveEnvelope := by
  simp only [envelopeTick, voice_withVoice s hi, if_pos h, withVoice_withVoice]

theorem envelopeTick_waits (h : v.state = .idle ∨ v.state = .starting ∨ v.state = .starved) :
    envelopeTick i (s.withVoice i v) = s.withVoice i v := by
  have hp : v.state ≠ .playing := by rcases h with h | h | h <;> simp [h]
  have hr : v.state ≠ .releasing := by rcases h with h | h | h <;> simp [h]
  simp only [envelopeTick, voice_withVoice s hi, if_neg hp, if_neg hr]

section
variable (h : v.state = .releasing)
include h

theorem envelopeTick_fading (hs : v.moveEnvelope.stage ≠ .off) :
    envelopeTick i (s.withVoice i v) = s.withVoice i v.moveEnvelope := by
  have hp : v.state ≠ .playing := by simp [h]
  simp only [envelopeTick, voice_withVoice s hi, if_neg hp, if_pos h, withVoice_withVoice, if_neg hs]

/-- A fading voice that has reached level 0 ends its play (R102, R111). -/
theorem envelopeTick_over (hs : v.moveEnvelope.stage = .off) (ho : v.owed = none) :
    envelopeTick i (s.withVoice i v) =
      (cueTold i v (v.endReason.getD .finished) s).withVoice i v.moveEnvelope.resting := by
  have hp : v.state ≠ .playing := by simp [h]
  have held : (s.withVoice i v.moveEnvelope).voice i = v.moveEnvelope := voice_withVoice s hi _
  have ends := finishVoice_confirmed (s := s.withVoice i v.moveEnvelope) (i := i)
    (v.endReason.getD .finished) (by simp [held, moveEnvelope_state, h])
    (by rw [held, moveEnvelope_owed, ho])
  rw [held, cueTold_moveEnvelope, cueTold_withVoice, withVoice_withVoice] at ends
  simp only [envelopeTick, voice_withVoice s hi, if_neg hp, if_pos h, withVoice_withVoice, if_pos hs, ends]

end

end

/-! ### The step work of a voice (R100, R102) -/

section
variable (s : State) {i : Nat} (hi : i < 4) {v : Voice}
include hi

theorem soundStepWork_waits (h : v.state ≠ .playing) :
    soundStepWork i (s.withVoice i v) = s.withVoice i v := by
  simp only [soundStepWork, voice_withVoice s hi, if_neg h]

section
variable (h : v.state = .playing)
include h

theorem soundStepWork_counts (ht : 1 < v.ticksLeft) : soundStepWork i (s.withVoice i v) =
    s.withVoice i (v.withTicks (v.ticksLeft - 1)) := by
  have more : ¬ v.ticksLeft - 1 = 0 := by omega
  simp only [soundStepWork, voice_withVoice s hi, if_pos h, if_neg more, withVoice_withVoice, Voice.withTicks]

section
variable (ht : v.ticksLeft ≤ 1)
include ht

theorem soundStepWork_asks : soundStepWork i (s.withVoice i v) =
    takeSoundStep i (s.withVoice i (v.withTicks 0)) := by
  have spent : v.ticksLeft - 1 = 0 := by omega
  simp only [soundStepWork, voice_withVoice s hi, if_pos h, spent, if_true, withVoice_withVoice, Voice.withTicks]

/-- The next step of the buffer begins (R83, R94, R100). -/
theorem soundStepWork_begins {note length level : Nat} {again : Bool} {rest : List Step}
    (hb : (s.fetchRec (i + 1)).buffer = .sound note length level again :: rest) :
    soundStepWork i (s.withVoice i v) =
      (stepTaken (i + 1) rest s).withVoice i ((v.withTicks length).beginNote note level again) := by
  rw [soundStepWork_asks s hi h ht, takeSoundStep_begins (s := s.withVoice i (v.withTicks 0)) hb,
    stepTaken_withVoice, beginSoundStep, voice_withVoice _ hi, withVoice_withVoice, ← h]
  rfl

theorem soundStepWork_starves (hb : (s.fetchRec (i + 1)).buffer = [])
    (hc : (s.fetchRec (i + 1)).cursor ≠ none) : soundStepWork i (s.withVoice i v) =
      (count .starves s).withVoice i { v with ticksLeft := 0, state := .starved } := by
  have none_left := nextStep_starved (s := s.withVoice i (v.withTicks 0)) (p := i + 1) hb hc
  rw [soundStepWork_asks s hi h ht, takeSoundStep, none_left]
  dsimp only
  rw [count_withVoice, voice_withVoice _ hi, withVoice_withVoice]
  rfl

/-- At the pattern's end the voice is released with reason FINISHED (R102). -/
theorem soundStepWork_ends (hb : (s.fetchRec (i + 1)).buffer = [])
    (hc : (s.fetchRec (i + 1)).cursor = none) : soundStepWork i (s.withVoice i v) =
      releaseVoice i .finished (s.withVoice i (v.withTicks 0)) := by
  have ended := nextStep_ended (s := s.withVoice i (v.withTicks 0)) (p := i + 1) hb hc
  rw [soundStepWork_asks s hi h ht, takeSoundStep, ended]

end

end

end

/-! ### The end of a pattern, step work and envelope work together (R102, R103, R111) -/

section
variable (s : State) {i : Nat} (hi : i < 4) {v : Voice}
include hi

/-- The record of a voice whose pattern has ended and whose level is still to fall (R102). -/
def Voice.finishing (v : Voice) : Voice :=
  { v with ticksLeft := 0, endReason := some .finished, state := .releasing, stage := .release }

theorem releaseVoice_finishing (he : 0 < v.env) :
    releaseVoice i .finished (s.withVoice i (v.withTicks 0)) =
      (closeRec (i + 1) s).withVoice i v.finishing := by
  have held := voice_withVoice s hi (v.withTicks 0)
  rw [releaseVoice_fading .finished hi (by rw [held]; exact he), held, closeRec_withVoice,
    withVoice_withVoice]
  rfl

theorem releaseVoice_finished (he : v.env = 0) (hv : v.state ≠ .idle) (ho : v.owed = none) :
    releaseVoice i .finished (s.withVoice i (v.withTicks 0)) =
      (cueTold i v .finished (closeRec (i + 1) s)).withVoice i v.finishing.resting := by
  have held := voice_withVoice s hi (v.withTicks 0)
  rw [releaseVoice_silent .finished hi (by rw [held]; exact he) (by rw [held]; exact hv)
    (by rw [held]; exact ho), held, closeRec_withVoice, cueTold_withVoice, withVoice_withVoice]
  rfl

theorem envelopeTick_finishing (he : v.release < v.env) :
    envelopeTick i (releaseVoice i .finished (s.withVoice i (v.withTicks 0))) =
      (closeRec (i + 1) s).withVoice i { v.finishing with env := v.env - v.release } := by
  have falls : v.finishing.moveEnvelope = { v.finishing with env := v.env - v.release } :=
    moveEnvelope_falls rfl he
  rw [releaseVoice_finishing s hi (by omega), envelopeTick_fading _ hi rfl (by rw [falls]; exact nofun),
    falls]

/-- A level that the release step takes to 0 ends the play in the same tick, and so does level 0. -/
theorem envelopeTick_finished (he : v.env ≤ v.release) (hv : v.state ≠ .idle) (ho : v.owed = none) :
    envelopeTick i (releaseVoice i .finished (s.withVoice i (v.withTicks 0))) =
      (cueTold i v .finished (closeRec (i + 1) s)).withVoice i v.finishing.resting := by
  rcases Nat.eq_zero_or_pos v.env with h0 | h0
  · rw [releaseVoice_finished s hi h0 hv ho, envelopeTick_waits _ hi (.inl rfl)]
  · have fades : v.finishing.moveEnvelope = { v.finishing with env := 0, stage := .off } :=
      moveEnvelope_fades rfl he
    rw [releaseVoice_finishing s hi h0,
      envelopeTick_over _ hi (v := v.finishing) rfl (by rw [fades]) ho, fades]
    rfl

end

/-! ### A voice's tick (R87, R100, R102, R103) -/

theorem soundTick_eq (s : State) :
    let u := voiceTick 3 (voiceTick 2 (voiceTick 1 (voiceTick 0 s)))
    soundTick s = u.withSe { u.se with
      clipOpen := true
      gEff := if u.se.gEff < min u.se.gTarget u.se.gCeiling
        then min (u.se.gEff + 8) (min u.se.gTarget u.se.gCeiling)
        else max (u.se.gEff - 8) (min u.se.gTarget u.se.gCeiling) } := rfl

section
variable (s : State) {i : Nat} (hi : i < 4)
include hi

theorem voiceTick_waits (h : (s.voice i).applyChange.state = .idle ∨
    (s.voice i).applyChange.state = .starting ∨ (s.voice i).applyChange.state = .starved) :
    voiceTick i s = s.withVoice i (s.voice i).applyChange := by
  have hp : (s.voice i).applyChange.state ≠ .playing := by rcases h with h | h | h <;> simp [h]
  rw [voiceTick, soundStepWork_waits s hi hp, envelopeTick_waits s hi h]

theorem voiceTick_releasing (h : (s.voice i).applyChange.state = .releasing) :
    voiceTick i s = envelopeTick i (s.withVoice i (s.voice i).applyChange) := by
  rw [voiceTick, soundStepWork_waits s hi (by simp [h])]

section
variable (h : (s.voice i).applyChange.state = .playing)
include h

theorem voiceTick_counts (ht : 1 < (s.voice i).applyChange.ticksLeft) : voiceTick i s = s.withVoice i
    ((s.voice i).applyChange.withTicks ((s.voice i).applyChange.ticksLeft - 1)).moveEnvelope := by
  have playing (n : Nat) : ((s.voice i).applyChange.withTicks n).state = .playing := h
  rw [voiceTick, soundStepWork_counts s hi h ht, envelopeTick_playing s hi (playing _)]

theorem voiceTick_begins (ht : (s.voice i).applyChange.ticksLeft ≤ 1) {note length level : Nat}
    {again : Bool} {rest : List Step}
    (hb : (s.fetchRec (i + 1)).buffer = .sound note length level again :: rest) : voiceTick i s =
      (stepTaken (i + 1) rest s).withVoice i
        (((s.voice i).applyChange.withTicks length).beginNote note level again).moveEnvelope := by
  have playing : (((s.voice i).applyChange.withTicks length).beginNote note level again).state = .playing :=
    (beginNote_state ..).trans h
  rw [voiceTick, soundStepWork_begins s hi h ht hb, envelopeTick_playing _ hi playing]

end

end

/-- Settles O52: the voices' ticks by their branches (`voiceTick_waits` to `envelopeTick_finished`), after the
pending change, the beginning note and the envelope. -/
theorem tickMovesTheVoicesAndTheGain : Obligations.TickMovesTheVoicesAndTheGain := by
  refine ⟨soundTick_eq, applyChange_eq,
    fun v n level again => ⟨beginNote_tie v level again, beginNote_rest v level again,
      fun hn => beginNote_note v hn level again⟩,
    fun v => ⟨moveEnvelope_rises, moveEnvelope_peaks, moveEnvelope_decays, moveEnvelope_settles,
      moveEnvelope_sustain, moveEnvelope_falls, moveEnvelope_fades, moveEnvelope_off⟩,
    fun s i hi => ⟨voiceTick_waits s hi, voiceTick_counts s hi,
      fun note length level again rest h ht => voiceTick_begins s hi h ht,
      fun h ht hb hc => ?starves, fun h ht hb hc he => ?fades, fun h ht hb hc he ho => ?ends,
      fun h hs => (voiceTick_releasing s hi h).trans (envelopeTick_fading s hi h hs),
      fun h hs ho => ?silent⟩⟩
  case starves =>
    rw [voiceTick, soundStepWork_starves s hi h ht hb hc, envelopeTick_waits _ hi (.inr (.inr rfl))]
    rfl
  case fades =>
    rw [voiceTick, soundStepWork_ends s hi h ht hb hc, envelopeTick_finishing s hi he]
    rfl
  case ends =>
    rw [voiceTick, soundStepWork_ends s hi h ht hb hc, envelopeTick_finished s hi he (by simp [h]) ho]
    rfl
  case silent =>
    rw [voiceTick_releasing s hi h, envelopeTick_over s hi h hs ho, Voice.resting, ← hs]
    rfl

end Sys2Proof.Machine
end

section
/-! SUPPORT. The ends of a rumble play, one rule each, and STOP_RUMBLE by the player's state (R124, R126,
R127). -/

namespace Sys2Proof.Machine

/-! ### The Rumble Driver's record beside posts and fetch records -/

section
variable (s : State)

theorem formNotice_withRd (target : Nat) (n : Notice) (x : Rumble) :
    formNotice target n (s.withRd x) = (formNotice target n s).withRd x := by
  by_cases h : (s.serving && s.nu.mask.getLsbD n.kind.number) = true
  · have formed : formNotice target n s = _ := if_pos h
    rw [formed]
    exact (if_pos h).trans (handPost_withRd _ s x)
  · have left : formNotice target n s = s := if_neg h
    rw [left]
    exact if_neg h

theorem raiseTo_withRd (target : Nat) (n : Notice) (x : Rumble) :
    raiseTo target n (s.withRd x) = (raiseTo target n s).withRd x :=
  formNotice_withRd (flagNotice n s) target n x

theorem formNotice_withPfu (target : Nat) (n : Notice) (x : Fetch) :
    formNotice target n (s.withPfu x) = (formNotice target n s).withPfu x := by
  by_cases h : (s.serving && s.nu.mask.getLsbD n.kind.number) = true
  · have formed : formNotice target n s = _ := if_pos h
    rw [formed]
    exact (if_pos h).trans
      (handPost_with _ s (·.withPfu x) (fun _ _ => rfl) (fun _ _ => rfl) rfl)
  · have left : formNotice target n s = s := if_neg h
    rw [left]
    exact if_neg h

/-- A notice is raised without regard to the fetch records. -/
theorem raiseTo_closeRec (target : Nat) (n : Notice) (p : Nat) :
    raiseTo target n (closeRec p s) = closeRec p (raiseTo target n s) := by
  have raised (x : Fetch) : raiseTo target n (s.withPfu x) = (raiseTo target n s).withPfu x :=
    formNotice_withPfu (flagNotice n s) target n x
  unfold closeRec State.withFetchRec State.fetchRec
  rw [raised, raiseTo_pfu]

end

/-! ### A confirmed play ends (R127) -/

/-- The end of the player's play is told where its request wanted RUMBLE_END. -/
def rumbleTold (r : Rumble) (why : EndReason) (s : State) : State :=
  if r.endNotice = true then
    raiseTo r.requester (.rumbleEnd r.playNo r.kind
      (match r.kind with | .pattern => some r.pattern | .steady => none) why) s
  else s

theorem rumbleTold_withRd (r x : Rumble) (why : EndReason) (s : State) :
    rumbleTold r why (s.withRd x) = (rumbleTold r why s).withRd x := by
  unfold rumbleTold
  split
  · exact raiseTo_withRd ..
  · rfl

theorem rumbleTold_closeRec (r : Rumble) (why : EndReason) (p : Nat) (s : State) :
    rumbleTold r why (closeRec p s) = closeRec p (rumbleTold r why s) := by
  unfold rumbleTold
  split
  · exact raiseTo_closeRec ..
  · rfl

section
variable {s : State} (why : EndReason)

theorem endRumble_eq : endRumble why s =
    if ((s.rd.player = .starting ∨ s.rd.player = .playing ∨ s.rd.player = .starved ∨
        s.rd.player = .steady) ∨ s.rd.player = .braking) ∧ s.rd.owed = none then
      rumbleTold s.rd (if s.rd.player = .braking then s.rd.endReason.getD why else why) s
    else s := by
  have hkind : (if s.rd.kind = .pattern then some s.rd.pattern else none) =
      match s.rd.kind with | .pattern => some s.rd.pattern | .steady => none := by
    cases s.rd.kind <;> rfl
  unfold endRumble rumbleTold
  dsimp only
  rw [hkind, ← ite_and]
  refine if_congr ?_ rfl rfl
  rw [Bool.and_eq_true, Bool.and_eq_true, Rumble.holdsPlay_iff, Option.isNone_iff_eq_none]

/-- A running, confirmed play ends with the reason given. -/
theorem endRumble_running (h : s.rd.player = .starting ∨ s.rd.player = .playing ∨ s.rd.player = .starved ∨
    s.rd.player = .steady) (ho : s.rd.owed = none) : endRumble why s = rumbleTold s.rd why s := by
  have unbraked : s.rd.player ≠ .braking := by
    rcases h with h | h | h | h <;> rw [h] <;> exact nofun
  rw [endRumble_eq, if_pos ⟨.inl h, ho⟩, if_neg unbraked]

/-- A BRAKING play ends with its own reason. -/
theorem endRumble_braking (h : s.rd.player = .braking) (ho : s.rd.owed = none) :
    endRumble why s = rumbleTold s.rd (s.rd.endReason.getD why) s := by
  rw [endRumble_eq, if_pos ⟨.inr h, ho⟩, if_pos h]

theorem finishBraking_braking (h : s.rd.player = .braking) (ho : s.rd.owed = none) :
    finishBraking s = (rumbleTold s.rd (s.rd.endReason.getD .finished) s).withRd
      { s.rd with player := .idle, mode := .off, dReq := 0, dRes := 0, dEff := 0 } := by
  unfold finishBraking restRumble
  rw [endRumble_rd, endRumble_braking _ h ho]
  rfl

/-- The player's record when braking begins (R124). -/
def Rumble.braked (r : Rumble) (why : EndReason) (ticks : Nat) : Rumble :=
  { r with
    player := .braking, mode := .brake, dReq := 0, dRes := 0, dEff := 0, endReason := some why
    brakeLeft := ticks }

/-- The player brakes for the brake ticks (R124). -/
theorem enterBraking_brakes (h : 0 < s.settings.brakeTicks) : enterBraking why s =
    (closeRec 0 s).withRd (s.rd.braked why s.settings.brakeTicks) := if_neg h.ne'

/-- With brake ticks 0 the play ends at once (R124). -/
theorem enterBraking_ends (h : s.settings.brakeTicks = 0) (ho : s.rd.owed = none) : enterBraking why s =
    (rumbleTold s.rd why (closeRec 0 s)).withRd { s.rd with
      player := .idle, mode := .off, dReq := 0, dRes := 0, dEff := 0, endReason := some why
      brakeLeft := 0 } := by
  have braked : enterBraking why s =
      finishBraking ((closeRec 0 s).withRd (s.rd.braked why s.settings.brakeTicks)) := if_pos h
  have finished := finishBraking_braking
    (s := (closeRec 0 s).withRd (s.rd.braked why s.settings.brakeTicks)) rfl ho
  rw [braked, finished, rumbleTold_withRd, h]
  rfl

end

/-! ### A stop reaches the player (R126) -/

section
variable {s : State}

theorem stopPlayer_left {coast : Bool} (h : s.rd.player = .idle ∨ s.rd.player = .faulted ∨
    s.rd.player = .checking ∨ (s.rd.player = .braking ∧ coast = false)) : stopPlayer coast s = s := by
  rcases h with h | h | h | ⟨h, rfl⟩ <;> simp [stopPlayer, h]

/-- COAST ends a BRAKING play at once. -/
theorem stopPlayer_braking (h : s.rd.player = .braking) : stopPlayer true s = finishBraking s := by
  simp only [stopPlayer, h, if_true]

section
variable (h : s.rd.player = .starting ∨ s.rd.player = .playing ∨ s.rd.player = .starved ∨
  s.rd.player = .steady)
include h

theorem stopPlayer_running (coast : Bool) : stopPlayer coast s =
    if s.rd.owed.isSome = true then restRumble .idle (closeRec 0 (cancelRumbleOwed s))
    else if coast = true then restRumble .idle ((closeRec 0 (endRumble .stopped s)).withRd
      { (closeRec 0 (endRumble .stopped s)).rd with endReason := some .stopped })
    else enterBraking .stopped s := by
  rcases h with h | h | h | h <;> simp only [stopPlayer, h]

/-- An owed lookup reply is CANCELLED and the player IDLE (R120). -/
theorem stopPlayer_cancels (coast : Bool) {o : Owed} (ho : s.rd.owed = some o) : stopPlayer coast s =
    (closeRec 0 (replyOwed o .playRumble .cancelled .none s)).withRd { s.rd with
      player := .idle, mode := .off, dReq := 0, dRes := 0, dEff := 0, owed := none } := by
  rw [stopPlayer_running h, if_pos (by rw [ho]; rfl), cancelRumbleOwed_eq, rumbleCancelled, ho]
  rfl

variable (ho : s.rd.owed = none)
include ho

/-- COAST ends a running play at once. -/
theorem stopPlayer_coasts : stopPlayer true s =
    (rumbleTold s.rd .stopped (closeRec 0 s)).withRd { s.rd with
      player := .idle, mode := .off, dReq := 0, dRes := 0, dEff := 0, endReason := some .stopped } := by
  have record : (closeRec 0 (rumbleTold s.rd .stopped s)).rd = s.rd := by
    rw [← endRumble_running .stopped h ho]
    exact endRumble_rd .stopped s
  rw [stopPlayer_running h, ho, if_neg Bool.noConfusion, if_pos rfl, endRumble_running _ h ho, record,
    rumbleTold_closeRec]
  rfl

theorem stopPlayer_brakes : stopPlayer false s = enterBraking .stopped s := by
  rw [stopPlayer_running h, ho, if_neg Bool.noConfusion, if_neg Bool.noConfusion]

end

/-! ### STOP_RUMBLE served (R126) -/

variable {a : Ask} {mode : Nat}

theorem exec_stopRumble (h : Heard s a .stopRumble) :
    exec (.stopRumble a mode) s = .next (serveStopRumble a mode s) :=
  exec_heard (e := ⟨a, .stopRumble mode⟩) rfl h

theorem serveStopRumble_badArg (h : 2 ≤ mode) :
    serveStopRumble a mode s = reply a .stopRumble .badArg .none s := if_pos h

theorem serveStopRumble_stops (h : mode < 2) {t : State} (ht : stopPlayer (mode == 1) s = t) :
    serveStopRumble a mode s = grant (budgetFollow s (reply a .stopRumble .done
      (.rumbleStop (decide (t.rd.player ≠ s.rd.player)) t.rd.player) t)) := by
  have changed : (t.rd.player != s.rd.player) = decide (t.rd.player ≠ s.rd.player) := (decide_not ..).symm
  rw [← changed, ← ht]
  exact if_neg (by omega)

end

/-- Settles O54: `stopPlayer` by the player's state, and the DONE that tells what it left. -/
theorem stopRumbleActsByPlayerState : Obligations.StopRumbleActsByPlayerState := by
  intro a mode s heard run r running answered ended off
  have served : run = .next (serveStopRumble a mode s) := exec_stopRumble heard
  have stops (h : mode < 2) {t : State} (ht : stopPlayer (mode == 1) s = t) : run = answered t :=
    served.trans (congrArg _ (serveStopRumble_stops h ht))
  refine ⟨fun h => served.trans (congrArg _ (serveStopRumble_badArg h)), fun hm h => stops hm
    (stopPlayer_left (h.imp_right (.imp_right (.imp_right fun ⟨hp, h0⟩ => ⟨hp, by rw [h0]; rfl⟩)))),
    fun o hm h ho => stops hm (stopPlayer_cancels h _ ho), ?_, ?_, ?_, ?_⟩
  · rintro rfl h ho
    exact stops (by omega) (stopPlayer_coasts h ho)
  · rintro rfl h ho hb
    exact stops (by omega) ((stopPlayer_brakes h ho).trans (enterBraking_brakes _ hb))
  · rintro rfl h ho hb
    exact stops (by omega) ((stopPlayer_brakes h ho).trans (enterBraking_ends _ hb ho))
  · rintro rfl h ho
    exact stops (by omega) ((stopPlayer_braking h).trans (finishBraking_braking h ho))

end Sys2Proof.Machine
end

section
/-! SUPPORT. MOTOR_CHECK with its raise-end report, its drive and its verdict, and the motor current sense
(R131, R133 to R135). -/

namespace Sys2Proof.Machine

/-! ### A step that hands the Budget Unit nothing new (R145, R153) -/

theorem budgetFollow_same {s₀ s : State} (h : budgetInputs s₀ = budgetInputs s) : budgetFollow s₀ s = s := by
  have reserved : s.rd.dRes = s₀.rd.dRes := (budgetInputs_eq_iff.1 h).2.2.1.symm
  rw [budgetFollow_unreported fun hr => hr.1 reserved, recomputeSince_same h]

/-! ### MOTOR_CHECK (R133) -/

section
variable {s : State} {a : Ask}

theorem exec_motorCheck (h : Heard s a .motorCheck) :
    exec (.motorCheck a) s = .next (serveMotorCheck a s) :=
  exec_heard (e := ⟨a, .motorCheck⟩) rfl h

theorem serveMotorCheck_taken (hp : s.rd.player = .idle ∨ s.rd.player = .faulted) (hg : s.rd.guard = .clear) :
    serveMotorCheck a s = budgetFollow s (s.withRd { s.rd with
      player := .checking, dRes := s.settings.testDuty
      check := some {
        owed := owedTo a, cameFaulted := decide (s.rd.player = .faulted), driveStart := none
        sum := 0, count := 0 } }) := if_pos ⟨hp, hg⟩

theorem serveMotorCheck_busy
    (h : (s.rd.player ≠ .idle ∧ s.rd.player ≠ .faulted) ∨ s.rd.guard = .tripped) :
    serveMotorCheck a s = reply a .motorCheck .busy .none s := by
  refine if_neg fun ⟨hp, hg⟩ => ?_
  rcases h with ⟨hi, hf⟩ | ht
  · exact hp.elim hi hf
  · rw [hg] at ht
    cases ht

end

/-! ### The check's phases and its end (R133 to R135) -/

section
variable {s : State} {c : MotorCheck} (hc : s.rd.check = some c)
include hc

theorem failCheck_checking (why : FailReason) : failCheck why s =
    endCheck c .failed (some why) none s.rd.lastFault c.cameFrom s := by
  simp only [failCheck, hc]

section
variable (hd : c.driveStart = none)
include hd

/-- Under a cap below the test duty the report ends the check (R133). -/
theorem takeReport_unpowered (h : s.rd.dBudget < s.settings.testDuty) :
    takeReport s = failCheck .noHeadroom (s.withRd { s.rd with raiseEnded := true }) := by
  simp only [takeReport, State.withRd_rd, State.withRd_settings, hc, hd, Option.isSome_none, if_pos h]
  rfl

/-- With the test duty under the cap the report begins the drive (R133). -/
theorem takeReport_drives (h : s.settings.testDuty ≤ s.rd.dBudget) :
    takeReport s = refreshDuty (s.withRd { s.rd with
      raiseEnded := true, mode := .drive, dReq := s.settings.testDuty
      check := some { c with driveStart := some s.now } }) := by
  simp only [takeReport, State.withRd_rd, State.withRd_settings, hc, hd, Option.isSome_none,
    if_neg h.not_gt]
  rfl

end

theorem exec_motorCheckDriveEnd {t : Nat} (hd : c.driveStart = some t) :
    exec .motorCheckDriveEnd s = .next (budgetFollow (reach (t + 20972) s)
      (finishCheck c (reach (t + 20972) s))) := by
  have run : exec .motorCheckDriveEnd s = execMotorCheckDriveEnd s := rfl
  simp only [run, execMotorCheckDriveEnd, hc, hd]
  rfl

end

/-- Without a running drive the end of one changes nothing (log 26). -/
theorem exec_motorCheckDriveEnd_undriven {s : State}
    (h : ∀ c, s.rd.check = some c → c.driveStart = none) : exec .motorCheckDriveEnd s = .next s := by
  have run : exec .motorCheckDriveEnd s = execMotorCheckDriveEnd s := rfl
  rw [run, execMotorCheckDriveEnd]
  cases hc : s.rd.check with
  | none => rfl
  | some c => simp only [h c hc]

section
variable {c : MotorCheck} {s : State}

theorem finishCheck_unmeasured (h : c.count = 0) : finishCheck c s = failCheck .noHeadroom s := if_pos h

variable (h : 0 < c.count)
include h

theorem finishCheck_measured : finishCheck c s =
    match checkVerdict s.settings (min (c.sum / c.count) 511) with
    | .openMotor => endCheck c .openMotor none (some (min (c.sum / c.count) 511))
        (some (.openMotor, min (c.sum / c.count) 511)) .faulted s
    | .shortMotor => endCheck c .shortMotor none (some (min (c.sum / c.count) 511))
        (some (.shortMotor, min (c.sum / c.count) 511)) .faulted s
    | .normal => endCheck c .normal none (some (min (c.sum / c.count) 511)) none .idle s
    | .failed => s := (if_neg h.ne').trans rfl

theorem finishCheck_open (ho : min (c.sum / c.count) 511 < s.settings.openThreshold) : finishCheck c s =
    endCheck c .openMotor none (some (min (c.sum / c.count) 511))
      (some (.openMotor, min (c.sum / c.count) 511)) .faulted s := by
  rw [finishCheck_measured h, checkVerdict, if_pos ho]

variable (ho : s.settings.openThreshold ≤ min (c.sum / c.count) 511)
include ho

theorem finishCheck_short (hs : s.settings.shortThreshold < min (c.sum / c.count) 511) : finishCheck c s =
    endCheck c .shortMotor none (some (min (c.sum / c.count) 511))
      (some (.shortMotor, min (c.sum / c.count) 511)) .faulted s := by
  rw [finishCheck_measured h, checkVerdict, if_neg ho.not_gt, if_pos hs]

theorem finishCheck_normal (hs : min (c.sum / c.count) 511 ≤ s.settings.shortThreshold) : finishCheck c s =
    endCheck c .normal none (some (min (c.sum / c.count) 511)) none .idle s := by
  rw [finishCheck_measured h, checkVerdict, if_neg ho.not_gt, if_neg hs.not_gt]

end

/-! ### The motor current sense (R131, R134) -/

section
variable {s : State} {sample : Nat}

theorem senseSample_undriven (h : ¬ (s.rd.mode = .drive ∧ 0 < s.rd.dEff)) : senseSample sample s = s :=
  if_neg h

variable (h : s.rd.mode = .drive ∧ 0 < s.rd.dEff)
include h

theorem senseSample_trips (ht : s.settings.overTrip < min sample 511) :
    senseSample sample s = overcurrent (min sample 511) s := (if_pos h).trans (if_pos ht)

variable (ht : ¬ s.settings.overTrip < min sample 511)
include ht

/-- In the check's window the sample joins the sum, and before it it is left (R134). -/
theorem senseSample_checked {c : MotorCheck} {t : Nat} (hc : s.rd.check = some c)
    (hd : c.driveStart = some t) : senseSample sample s =
      if t + 10486 ≤ s.now then
        s.withRd { s.rd with
          check := some { c with sum := c.sum + min sample 511, count := c.count + 1 } }
      else s := by
  simp only [senseSample, if_pos h, if_neg ht, hc, hd]
  rfl

theorem senseSample_unchecked (hc : ∀ c, s.rd.check = some c → c.driveStart = none) :
    senseSample sample s = s := by
  simp only [senseSample, if_pos h, if_neg ht]
  split
  · rfl
  · next c hs => simp only [hc c hs]

end

section
variable {s : State} (current : Nat)

/-- An overcurrent in a check ends the check SHORT (R134, log 30). -/
theorem overcurrent_checking {c : MotorCheck} (hc : s.rd.check = some c) :
    overcurrent current s = raiseNotice (.motorFault current)
      (endCheck c .shortMotor none (some current) (some (.shortMotor, current)) .faulted s) := by
  simp only [overcurrent, hc]

/-- A confirmed running play is told to end with FAULT (R131). -/
def rumbleFaulted (s : State) : State :=
  if (s.rd.player = .starting ∨ s.rd.player = .playing ∨ s.rd.player = .starved ∨
      s.rd.player = .steady) ∧ s.rd.owed = none ∧ s.rd.endNotice = true then
    raiseTo s.rd.requester (.rumbleEnd s.rd.playNo s.rd.kind
      (match s.rd.kind with | .pattern => some s.rd.pattern | .steady => none) .fault) s
  else s

theorem endRumble_fault (hb : s.rd.player ≠ .braking) : endRumble .fault s = rumbleFaulted s := by
  rw [endRumble_eq, if_neg hb, rumbleTold, ← ite_and]
  exact if_congr (by rw [or_iff_left hb, and_assoc]) rfl rfl

/-- An overcurrent outside a check ends the play and faults the player (R131). -/
theorem overcurrent_playing (hc : s.rd.check = none) (hb : s.rd.player ≠ .braking) :
    overcurrent current s = raiseNotice (.motorFault current)
      ((closeRec 0 (rumbleFaulted s)).withRd { (closeRec 0 (rumbleFaulted s)).rd with
        player := .faulted, lastFault := some (.overcurrent, current), check := none
        mode := .off, dReq := 0, dRes := 0, dEff := 0 }) := by
  have record : (closeRec 0 (rumbleFaulted s)).rd = { s.rd with check := none } := by
    rw [← endRumble_fault hb, ← hc]
    exact endRumble_rd .fault s
  have left : (closeRec 0 (rumbleFaulted s)).rd = s.rd := by
    rw [← endRumble_fault hb]
    exact endRumble_rd .fault s
  rw [record]
  simp only [overcurrent, hc, endRumble_fault hb, left]
  rw [restRumble, State.withRd_rd, Rumble.stilled]
  rfl

end

/-- Settles O55: MOTOR_CHECK by the player and the guard, its report by the cap, its verdict by the measured
current, and a sample of the motor current by the drive, the trip and the check. -/
theorem motorCheckRunsAndTheCurrentIsSensed : Obligations.MotorCheckRunsAndTheCurrentIsSensed := by
  intro s r stopped answered origin
  refine ⟨fun a heard => ?_, fun c hc hd => ⟨fun h => ?_, takeReport_drives hc hd⟩,
    fun c t hc hd => ?_, exec_motorCheckDriveEnd_undriven, fun sample => ?_⟩
  · rw [exec_motorCheck heard]
    exact ⟨fun hp hg => congrArg _ (serveMotorCheck_taken hp hg), fun h => congrArg _ (serveMotorCheck_busy h)⟩
  · rw [takeReport_unpowered hc hd h]
    exact failCheck_checking (s := s.withRd { s.rd with raiseEnded := true }) hc _
  · intro u current run
    have ends : run = .next (budgetFollow u (finishCheck c u)) := exec_motorCheckDriveEnd hc hd
    rw [ends]
    refine ⟨fun h => ?_, fun h ho => ?_, fun h ho hs => ?_, fun h ho hs => ?_⟩
    · rw [finishCheck_unmeasured h, failCheck_checking (s := u) hc]
      rfl
    · rw [finishCheck_open (s := u) h ho]
      rfl
    · rw [finishCheck_short (s := u) h ho hs]
      rfl
    · rw [finishCheck_normal (s := u) h ho hs]
      rfl
  · intro current run driving trips ended
    have sensed {t : State} (ht : senseSample sample s = t) : run = .next (budgetFollow s t) := by
      rw [← ht]
      rfl
    have left {t : State} (ht : senseSample sample s = t) (h : budgetInputs s = budgetInputs t) :
        run = .next t := by rw [sensed ht, budgetFollow_same h]
    refine ⟨fun h => left (senseSample_undriven h) rfl, fun h ht hc hb => ?_, fun c h ht hc => ?_,
      fun c t h ht hc hd => ⟨fun hw => ?_, fun hw => ?_⟩,
      fun h ht hc => left (senseSample_unchecked h ht hc) rfl⟩
    · rw [sensed ((senseSample_trips h ht).trans (overcurrent_playing current hc hb))]
      rfl
    · rw [sensed ((senseSample_trips h ht).trans (overcurrent_checking current hc))]
      rfl
    · exact left ((senseSample_checked h ht hc hd).trans (if_pos hw)) rfl
    · exact left ((senseSample_checked h ht hc hd).trans (if_neg (by omega))) rfl

end Sys2Proof.Machine
end

section
/-! SUPPORT. A tick of the Rumble Driver: the work of each player state, the heat estimate, and the guard's
one examination (R115, R122 to R125, R127, R130, R134, R135). -/

namespace Sys2Proof.Machine

/-! ### Heat and guard (R130, R134) -/

/-- H after a tick, as R130 words it: max(0, min(H + D_eff − C, 65535)). -/
theorem heatAfter_eq (st : Settings) (r : Rumble) : heatAfter st r =
    (max 0 (min ((r.heat : Int) + r.dEff - st.coolRate) 65535)).toNat := by
  unfold heatAfter clampNat
  omega

section
variable {s : State}

theorem examineGuard_cool (h : s.rd.guard = .clear) (hh : s.rd.heat < s.settings.hTrip) :
    examineGuard s = s := by
  have other : s.rd.guard ≠ .tripped := by rw [h]; exact nofun
  rw [examineGuard, if_neg fun hk => hh.not_ge hk.2, if_neg fun hk => other hk.1]

theorem examineGuard_hot (h : s.rd.guard = .tripped) (hh : s.settings.hClear < s.rd.heat) :
    examineGuard s = s := by
  have other : s.rd.guard ≠ .clear := by rw [h]; exact nofun
  rw [examineGuard, if_neg fun hk => other hk.1, if_neg fun hk => hh.not_ge hk.2]

theorem examineGuard_clears (h : s.rd.guard = .tripped) (hh : s.rd.heat ≤ s.settings.hClear) :
    examineGuard s = raiseNotice (.motorGuard .clear s.rd.heat)
      (refreshDuty (s.withRd { s.rd with guard := .clear })) := by
  have other : s.rd.guard ≠ .clear := by rw [h]; exact nofun
  rw [examineGuard, if_neg fun hk => other hk.1, if_pos ⟨h, hh⟩]

/-- The guard trips: D_eff is cut, GUARD_TRIPS counts and MOTOR_GUARD is raised (R130). -/
def guardTripped (s : State) : State :=
  raiseNotice (.motorGuard .tripped s.rd.heat)
    (count .guardTrips (refreshDuty (s.withRd { s.rd with guard := .tripped })))

theorem guardTripped_rd (s : State) :
    (guardTripped s).rd = (refreshDuty (s.withRd { s.rd with guard := .tripped })).rd :=
  (raiseNotice_rd ..).trans (count_rd ..)

theorem guardTripped_lastFault (s : State) : (guardTripped s).rd.lastFault = s.rd.lastFault :=
  (congrArg Rumble.lastFault (guardTripped_rd s)).trans rfl

variable (h : s.rd.guard = .clear) (hh : s.settings.hTrip ≤ s.rd.heat)
include h hh

theorem examineGuard_trips (hc : ¬ ∃ c t, s.rd.check = some c ∧ c.driveStart = some t) :
    examineGuard s = guardTripped s := by
  have undriven : ¬ (s.rd.check.bind MotorCheck.driveStart).isSome = true := by
    rw [Option.isSome_iff_exists]
    rintro ⟨t, ht⟩
    obtain ⟨c, hcheck, hdrive⟩ := Option.bind_eq_some_iff.1 ht
    exact hc ⟨c, t, hcheck, hdrive⟩
  rw [examineGuard, if_pos ⟨h, hh⟩]
  exact if_neg undriven

/-- In a check's drive the trip ends the check (R134). -/
theorem examineGuard_fails {c : MotorCheck} {t : Nat} (hc : s.rd.check = some c)
    (hd : c.driveStart = some t) : examineGuard s =
      endCheck c .failed (some .guardTrip) none (guardTripped s).rd.lastFault c.cameFrom (guardTripped s) := by
  have driven : (s.rd.check.bind MotorCheck.driveStart).isSome = true := by
    rw [hc, Option.bind_some, hd]
    rfl
  have checking : (guardTripped s).rd.check = some c := by rw [guardTripped_rd]; exact hc
  rw [← failCheck_checking checking, examineGuard, if_pos ⟨h, hh⟩]
  exact if_pos driven

end

/-! ### A step begins (R123) -/

theorem beginRumbleStep_eq (s : State) (duty length : Nat) (ramp brake : Bool) :
    beginRumbleStep (.rumble duty length ramp brake) s = refreshDuty (s.withRd { s.rd with
      player := .playing, ticksLeft := length
      mode := if brake = true then .brake else .drive
      ramp := if brake = false ∧ ramp = true then
        some { start := s.rd.dReq, target := min duty s.rd.peak, position := 1, length := length } else none
      dReq := if brake = true then 0 else if ramp = true then
        ((s.rd.dReq : Int) + Int.tdiv (((min duty s.rd.peak : Nat) : Int) - s.rd.dReq) length).toNat
        else min duty s.rd.peak }) := by
  have first : ({ start := s.rd.dReq, target := min duty s.rd.peak, position := 1, length := length } :
      Ramp).duty =
      ((s.rd.dReq : Int) + Int.tdiv (((min duty s.rd.peak : Nat) : Int) - s.rd.dReq) length).toNat := by
    simp only [Ramp.duty, truncDiv, Nat.cast_one, mul_one]
  rw [← first]
  cases brake <;> cases ramp <;> rfl

/-! ### The work of each player state (R122, R124, R125) -/

/-- The end of a play is told where its player was confirmed. -/
def rumbleClosed (r : Rumble) (why : EndReason) (u : State) : State :=
  if r.endNotice = true ∧ r.owed = none then
    raiseTo r.requester (.rumbleEnd r.playNo r.kind
      (match r.kind with | .pattern => some r.pattern | .steady => none) why) u
  else u

theorem rumbleClosed_withRd (r x : Rumble) (why : EndReason) (u : State) :
    rumbleClosed r why (u.withRd x) = (rumbleClosed r why u).withRd x := by
  unfold rumbleClosed
  split
  · exact raiseTo_withRd ..
  · rfl

section
variable {s : State}

theorem endRumble_braked (why : EndReason) (h : s.rd.player = .braking) :
    endRumble why s = rumbleClosed s.rd (s.rd.endReason.getD why) s := by
  unfold rumbleClosed
  by_cases ho : s.rd.owed = none
  · rw [endRumble_braking why h ho]
    exact if_congr ⟨fun hn => ⟨hn, ho⟩, And.left⟩ rfl rfl
  · rw [endRumble_eq, if_neg fun hk => ho hk.2, if_neg fun hk => ho hk.2]

theorem finishBraking_braked (h : s.rd.player = .braking) {why : EndReason}
    (hw : s.rd.endReason = some why) : finishBraking s = (rumbleClosed s.rd why s).withRd
      { s.rd with player := .idle, mode := .off, dReq := 0, dRes := 0, dEff := 0 } := by
  unfold finishBraking restRumble
  rw [endRumble_rd, endRumble_braked _ h, hw]
  rfl

/-- A play's end at its pattern's or its duration's end (R124, R125). -/
def rumbleFinished (x : Rumble) (s : State) : State :=
  if s.settings.brakeTicks = 0 then
    (rumbleClosed x .finished (closeRec 0 s)).withRd { x with
      player := .idle, endReason := some .finished, mode := .off, dReq := 0, dRes := 0, dEff := 0
      brakeLeft := s.settings.brakeTicks }
  else (closeRec 0 s).withRd (x.braked .finished s.settings.brakeTicks)

theorem enterBraking_finished (x : Rumble) :
    enterBraking .finished (s.withRd x) = rumbleFinished x s := by
  have finished := finishBraking_braked (why := .finished)
    (s := (closeRec 0 s).withRd (x.braked .finished s.settings.brakeTicks)) rfl rfl
  rw [rumbleClosed_withRd] at finished
  exact if_congr Iff.rfl finished rfl

theorem rumbleStepWork_left (h : s.rd.player = .idle ∨ s.rd.player = .starting ∨
    s.rd.player = .starved ∨ s.rd.player = .checking ∨ s.rd.player = .faulted) :
    rumbleStepWork s = s := by
  rcases h with h | h | h | h | h <;> simp only [rumbleStepWork, h]

section
variable (h : s.rd.player = .playing)
include h

section
variable (ht : 1 < s.rd.ticksLeft)
include ht

theorem rumbleStepWork_steps (hr : s.rd.ramp = none) :
    rumbleStepWork s = s.withRd { s.rd with ticksLeft := s.rd.ticksLeft - 1 } := by
  simp only [rumbleStepWork, h, hr]
  exact if_neg (by omega)

theorem rumbleStepWork_ramps {q : Ramp} (hr : s.rd.ramp = some q) :
    rumbleStepWork s = refreshDuty (s.withRd { s.rd with
      ticksLeft := s.rd.ticksLeft - 1, ramp := some { q with position := q.position + 1 }
      dReq := ((q.start : Int) +
        Int.tdiv (((q.target : Int) - q.start) * ((q.position : Int) + 1)) q.length).toNat }) := by
  simp only [rumbleStepWork, h, hr]
  exact if_neg (by omega)

end

variable (ht : s.rd.ticksLeft ≤ 1)
include ht

theorem rumbleStepWork_takes :
    rumbleStepWork s = takeRumbleStep (s.withRd { s.rd with ticksLeft := 0 }) := by
  simp only [rumbleStepWork, h]
  exact if_pos (by omega)

theorem rumbleStepWork_begins {x : Step} {rest : List Step} (hb : (s.fetchRec 0).buffer = x :: rest) :
    rumbleStepWork s = beginRumbleStep x (askSteps 0 ((s.withFetchRec 0
      { s.fetchRec 0 with buffer := rest }).withRd { s.rd with ticksLeft := 0 })) :=
  (rumbleStepWork_takes h ht).trans
    (takeRumbleStep_step (s := s.withRd { s.rd with ticksLeft := 0 }) hb)

variable (hb : (s.fetchRec 0).buffer = [])
include hb

theorem rumbleStepWork_starves (hc : (s.fetchRec 0).cursor ≠ none) : rumbleStepWork s =
    count .starves (s.withRd { s.rd with ticksLeft := 0, player := .starved }) := by
  rw [rumbleStepWork_takes h ht, takeRumbleStep,
    nextStep_starved (s := s.withRd { s.rd with ticksLeft := 0 }) hb hc]
  rfl

theorem rumbleStepWork_ends (hc : (s.fetchRec 0).cursor = none) :
    rumbleStepWork s = rumbleFinished { s.rd with ticksLeft := 0 } s := by
  rw [rumbleStepWork_takes h ht, takeRumbleStep,
    nextStep_ended (s := s.withRd { s.rd with ticksLeft := 0 }) hb hc]
  exact enterBraking_finished _

end

section
variable (h : s.rd.player = .steady)
include h

theorem rumbleStepWork_steady (hd : s.rd.duration = none) : rumbleStepWork s = s := by
  simp only [rumbleStepWork, h, hd]

theorem rumbleStepWork_holds {n : Nat} (hd : s.rd.duration = some (n + 2)) :
    rumbleStepWork s = s.withRd { s.rd with duration := some (n + 1) } := by
  simp only [rumbleStepWork, h, hd]
  exact if_neg (by omega)

theorem rumbleStepWork_lasts (hd : s.rd.duration = some 1) :
    rumbleStepWork s = rumbleFinished { s.rd with duration := some 0 } s := by
  simp only [rumbleStepWork, h, hd]
  exact (if_pos trivial).trans (enterBraking_finished _)

end

section
variable (h : s.rd.player = .braking)
include h

theorem rumbleStepWork_braking : rumbleStepWork s =
    if s.rd.brakeLeft - 1 = 0 then finishBraking (s.withRd { s.rd with brakeLeft := s.rd.brakeLeft - 1 })
    else s.withRd { s.rd with brakeLeft := s.rd.brakeLeft - 1 } := by
  simp only [rumbleStepWork, h]

theorem rumbleStepWork_brakes (hb : 1 < s.rd.brakeLeft) :
    rumbleStepWork s = s.withRd { s.rd with brakeLeft := s.rd.brakeLeft - 1 } :=
  (rumbleStepWork_braking h).trans (if_neg (by omega))

theorem rumbleStepWork_rests (hb : s.rd.brakeLeft ≤ 1) {why : EndReason}
    (hw : s.rd.endReason = some why) : rumbleStepWork s = (rumbleClosed s.rd why s).withRd { s.rd with
      brakeLeft := 0, player := .idle, mode := .off, dReq := 0, dRes := 0, dEff := 0 } := by
  have last : s.rd.brakeLeft - 1 = 0 := by omega
  have finished := finishBraking_braked (why := why)
    (s := s.withRd { s.rd with brakeLeft := 0 }) h hw
  rw [rumbleClosed_withRd] at finished
  rw [rumbleStepWork_braking h, last, if_pos rfl]
  exact finished

end

end

/-- Settles O56: the work of each player state, then the heat and the guard's one examination. -/
theorem tickMovesTheMotorAndItsHeat : Obligations.TickMovesTheMotorAndItsHeat := by
  intro s r heat warm guarded trip driving told finished failed
  have heated : heatTick s = examineGuard warm := by
    unfold heatTick
    rw [heatAfter_eq]
    rfl
  refine ⟨rfl, fun hg hh => ?_, fun hg hh hd => ?_, fun c t hg hh hc hd => ⟨?_, ?_⟩, fun hg hh => ?_,
    fun hg hh => ?_, rumbleStepWork_steps, fun q h ht hr => rumbleStepWork_ramps h ht hr,
    fun x rest h ht hb => rumbleStepWork_begins h ht hb, rumbleStepWork_starves, rumbleStepWork_ends,
    rumbleStepWork_steady, fun n h hd => rumbleStepWork_holds h hd, rumbleStepWork_lasts,
    rumbleStepWork_brakes, fun why h hb hw => rumbleStepWork_rests h hb hw, rumbleStepWork_left,
    fun duty length ramp brake => beginRumbleStep_eq s duty length ramp brake⟩
  · exact heated.trans (examineGuard_cool hg hh)
  · exact heated.trans (examineGuard_trips hg hh hd)
  · exact heated.trans (examineGuard_fails (s := warm) hg hh hc hd)
  · exact (congrArg Rumble.lastFault (replyOwed_rd ..)).trans (guardTripped_lastFault warm)
  · exact heated.trans (examineGuard_clears hg hh)
  · exact heated.trans (examineGuard_hot hg hh)

end Sys2Proof.Machine
end

section
/-! SUPPORT. The CLAIM posts in the transmit queue: a CLAIM that is handed stands there alone, and every other
post leaves the waiting CLAIMs as they are (R144, R186, R187). -/

namespace Sys2Proof.Machine

/-! ### The queue's posts -/

theorem mem_placePost {p x : TxPost} {q : List TxPost} : x ∈ placePost p q ↔ x = p ∨ x ∈ q := by
  induction q with
  | nil => simp [placePost]
  | cons y rest ih =>
    unfold placePost
    split
    · simp
    · rw [List.mem_cons, ih, List.mem_cons, or_left_comm]

theorem mem_placeReturned {p x : TxPost} {q : List TxPost} : x ∈ placeReturned p q ↔ x = p ∨ x ∈ q := by
  induction q with
  | nil => simp [placeReturned]
  | cons y rest ih =>
    unfold placeReturned
    split
    · simp
    · rw [List.mem_cons, ih, List.mem_cons, or_left_comm]

section
variable {p x : TxPost} {s : State}

theorem joinQueue_mem {place : TxPost → List TxPost → List TxPost}
    (hp : ∀ {p x : TxPost} {q : List TxPost}, x ∈ place p q ↔ x = p ∨ x ∈ q)
    (h : x ∈ (joinQueue place p s).lif.queue) : x = p ∨ x ∈ s.lif.queue := by
  unfold joinQueue at h
  split at h
  · exact hp.1 h
  · split at h
    · split at h
      · exact (hp.1 h).imp_right List.mem_of_mem_dropLast
      · exact .inr h
    · exact .inr h

/-- A post that does not replace a CLAIM joins the others. -/
theorem handPost_mem (h : x ∈ (handPost p s).lif.queue) : x = p ∨ x ∈ s.lif.queue := by
  unfold handPost at h
  split at h
  · obtain ⟨y, hy, rfl⟩ := List.mem_map.1 h
    split
    · exact .inl rfl
    · exact .inr hy
  · exact joinQueue_mem mem_placePost h

theorem returnPost_mem (h : x ∈ (returnPost p s).lif.queue) : x = p ∨ x ∈ s.lif.queue := by
  unfold returnPost at h
  split at h
  · exact .inr h
  · exact joinQueue_mem mem_placeReturned h

/-- After a CLAIM is handed no other waits (R187). -/
theorem handPost_claim (hp : p.isClaim = true) (h : x ∈ (handPost p s).lif.queue) (hx : x.isClaim = true) :
    x = p := by
  unfold handPost at h
  split at h
  · obtain ⟨y, -, rfl⟩ := List.mem_map.1 h
    by_cases hy : y.isClaim = true
    · exact if_pos hy
    · rw [if_neg hy] at hx
      exact absurd hx hy
  · next hk =>
    refine (joinQueue_mem mem_placePost h).resolve_right fun hm => hk ?_
    rw [hp, Bool.true_and, List.any_eq_true]
    exact ⟨x, hm, hx⟩

theorem TxPost.claimOf_eq_some {c : Nat} : p.claimOf = some c ↔ p.body = .claim c := by
  unfold TxPost.claimOf
  cases p.body <;> simp

theorem TxPost.isClaim_iff : p.isClaim = true ↔ ∃ c, p.claimOf = some c := by
  simp only [TxPost.claimOf_eq_some, TxPost.isClaim, beq_iff_eq]
  cases p.body <;> simp [Body.kind]

end

/-! ### Steps that hand no CLAIM -/

/-- Every CLAIM that waits in `t` waited in `s`. -/
def HandsNoClaim (s t : State) : Prop := ∀ p ∈ t.lif.queue, p.isClaim = true → p ∈ s.lif.queue

section
variable {s t u : State}

theorem HandsNoClaim.refl (s : State) : HandsNoClaim s s := fun _ h _ => h

theorem HandsNoClaim.trans (h : HandsNoClaim s t) (k : HandsNoClaim t u) : HandsNoClaim s u :=
  fun p hp hc => h p (k p hp hc) hc

theorem handPost_handsNoClaim {p : TxPost} (h : p.isClaim = false) : HandsNoClaim s (handPost p s) :=
  fun x hx hc => (handPost_mem hx).resolve_left fun he => by rw [he, h] at hc; cases hc

end

section
variable (s : State)

theorem reply_handsNoClaim (a : Ask) (k : Kind) (c : Code) (d : ReplyData) :
    HandsNoClaim s (reply a k c d s) := handPost_handsNoClaim rfl

theorem replyOwed_handsNoClaim (o : Owed) (k : Kind) (c : Code) (d : ReplyData) :
    HandsNoClaim s (replyOwed o k c d s) := handPost_handsNoClaim rfl

theorem raiseTo_handsNoClaim (target : Nat) (n : Notice) : HandsNoClaim s (raiseTo target n s) := by
  unfold raiseTo
  dsimp only
  split
  · exact handPost_handsNoClaim (s := s.withNu _) rfl
  · exact .refl s

theorem raiseNotice_handsNoClaim (n : Notice) : HandsNoClaim s (raiseNotice n s) :=
  raiseTo_handsNoClaim s _ n

end

end Sys2Proof.Machine
end

section
/-! SUPPORT. The duty asked for stays reserved in every step (R117, R121, R123, R125, R128, R133). -/

namespace Sys2Proof.Machine

/-! ### The reservation -/

/-- What `DutyReserved` says of the Rumble Driver, under the test duty `test`. -/
structure Rumble.Reserved (test : Nat) (r : Rumble) : Prop where
  duty : r.dReq ≤ r.dRes
  owed : r.owed.isSome = true → r.player = .starting ∧ r.kind = .pattern
  check : r.check.isSome = true → r.player = .checking
  rest : r.player = .idle ∨ r.player = .faulted ∨ r.player = .braking ∨ r.player = .starting → r.dReq = 0
  start : r.player = .starting → r.mode = .off ∧ (r.owed = none →
    (r.kind = .pattern → r.peak = r.dRes) ∧ (r.kind = .steady → r.steadyDuty = r.dRes))
  peak : r.player = .playing ∨ r.player = .starved → r.peak = r.dRes
  ramp : r.player = .playing → ∀ q, r.ramp = some q →
    q.start ≤ r.peak ∧ q.target ≤ r.peak ∧ q.position + r.ticksLeft ≤ q.length + 1
  test : ∀ c, r.check = some c → c.driveStart = none → r.dRes = test

/-- The fields that the reservation speaks of. -/
def Rumble.reservation (r : Rumble) := ((r.player, r.kind, r.owed, r.check),
  (r.dReq, r.dRes, r.mode, r.peak), (r.steadyDuty, r.ramp, r.ticksLeft))

section
variable {test : Nat} {r q : Rumble}

theorem Rumble.Reserved.congr (h : r.Reserved test) (e : q.reservation = r.reservation := by rfl) :
    q.Reserved test := by
  simp only [Rumble.reservation, Prod.mk.injEq] at e
  obtain ⟨⟨player, kind, owed, check⟩, ⟨dReq, dRes, mode, peak⟩, steadyDuty, ramp, ticksLeft⟩ := e
  constructor
  · rw [dReq, dRes]; exact h.duty
  · rw [owed, player, kind]; exact h.owed
  · rw [check, player]; exact h.check
  · rw [player, dReq]; exact h.rest
  · rw [player, mode, owed, kind, peak, dRes, steadyDuty]; exact h.start
  · rw [player, peak, dRes]; exact h.peak
  · rw [player, ramp, peak, ticksLeft]; exact h.ramp
  · rw [check, dRes]; exact h.test

/-- A reply is owed by a STARTING player alone. -/
theorem Rumble.Reserved.unowed (h : r.Reserved test) (hp : r.player ≠ .starting) : r.owed = none := by
  by_contra ho
  exact hp (h.owed (Option.isSome_iff_ne_none.2 ho)).1

/-- A check belongs to a CHECKING player alone. -/
theorem Rumble.Reserved.unchecked (h : r.Reserved test) (hp : r.player ≠ .checking) : r.check = none := by
  by_contra hc
  exact hp (h.check (Option.isSome_iff_ne_none.2 hc))

/-- Without a check the test duty plays no part. -/
theorem Rumble.Reserved.retested (h : r.Reserved test) (hc : r.check = none) (n : Nat) : r.Reserved n :=
  { h with test := fun c hk => by rw [hc] at hk; cases hk }

/-- A player that asks for no duty, owes nothing and checks nothing has its duty reserved. -/
theorem Rumble.reserved_rest (hp : r.player = .idle ∨ r.player = .faulted ∨ r.player = .braking)
    (hd : r.dReq = 0) (ho : r.owed = none) (hc : r.check = none) : r.Reserved test where
  duty := by omega
  owed h := by rw [ho] at h; cases h
  check h := by rw [hc] at h; cases h
  rest _ := hd
  start h := by simp [h] at hp
  peak h := by rcases h with h | h <;> simp [h] at hp
  ramp h := by simp [h] at hp
  test c h := by rw [hc] at h; cases h

/-- A STARTING player whose drive is OFF, with what its play has reserved. -/
theorem Rumble.reserved_start (hp : r.player = .starting) (hm : r.mode = .off) (hd : r.dReq = 0)
    (hc : r.check = none) (ho : r.owed.isSome = true → r.kind = .pattern)
    (hk : r.owed = none → (r.kind = .pattern → r.peak = r.dRes) ∧
      (r.kind = .steady → r.steadyDuty = r.dRes)) : r.Reserved test where
  duty := by omega
  owed h := ⟨hp, ho h⟩
  check h := by rw [hc] at h; cases h
  rest _ := hd
  start _ := ⟨hm, hk⟩
  peak h := by rcases h with h | h <;> simp [h] at hp
  ramp h := by simp [h] at hp
  test c h := by rw [hc] at h; cases h

/-- The player may take a step: the peak duty is reserved, nothing is owed and no check runs. -/
structure Rumble.Ready (r : Rumble) : Prop where
  duty : r.dReq ≤ r.dRes
  peak : r.peak = r.dRes
  owed : r.owed = none
  check : r.check = none

/-- A PLAYING or a STARVED player may take a step. -/
theorem Rumble.Reserved.ready (h : r.Reserved test) (hp : r.player = .playing ∨ r.player = .starved) :
    r.Ready := by
  refine ⟨h.duty, h.peak hp, h.unowed ?_, h.unchecked ?_⟩ <;> rcases hp with hp | hp <;> rw [hp] <;>
    exact nofun

/-- A STARTING player of a confirmed pattern may take a step. -/
theorem Rumble.Reserved.ready_of_starting (h : r.Reserved test) (hp : r.player = .starting)
    (ho : r.owed = none) (hk : r.kind = .pattern) : r.Ready :=
  ⟨h.duty, ((h.start hp).2 ho).1 hk, ho, h.unchecked (by rw [hp]; exact nofun)⟩

theorem Rumble.Ready.starved (h : r.Ready) : { r with player := .starved }.Reserved test where
  duty := h.duty
  owed ho := by rw [h.owed] at ho; cases ho
  check hc := by rw [h.check] at hc; cases hc
  rest hp := by simp at hp
  start hp := by cases hp
  peak _ := h.peak
  ramp hp := by cases hp
  test c hc := by rw [h.check] at hc; cases hc

/-- A PLAYING player within its peak duty, on a ramp within it. -/
theorem Rumble.reserved_playing (hp : r.player = .playing) (hd : r.dReq ≤ r.peak) (hk : r.peak = r.dRes)
    (ho : r.owed = none) (hc : r.check = none) (hr : ∀ q, r.ramp = some q →
      q.start ≤ r.peak ∧ q.target ≤ r.peak ∧ q.position + r.ticksLeft ≤ q.length + 1) :
    r.Reserved test where
  duty := hk ▸ hd
  owed h := by rw [ho] at h; cases h
  check h := by rw [hc] at h; cases h
  rest h := by simp [hp] at h
  start h := by rw [hp] at h; cases h
  peak _ := hk
  ramp _ := hr
  test c h := by rw [hc] at h; cases h

/-- A STEADY player within what it reserved. -/
theorem Rumble.reserved_steady (hp : r.player = .steady) (hd : r.dReq ≤ r.dRes) (ho : r.owed = none)
    (hc : r.check = none) : r.Reserved test where
  duty := hd
  owed h := by rw [ho] at h; cases h
  check h := by rw [hc] at h; cases h
  rest h := by simp [hp] at h
  start h := by rw [hp] at h; cases h
  peak h := by simp [hp] at h
  ramp h := by rw [hp] at h; cases h
  test c h := by rw [hc] at h; cases h

/-- A CHECKING player within the test duty. -/
theorem Rumble.reserved_checking (hp : r.player = .checking) (hd : r.dReq ≤ r.dRes) (ho : r.owed = none)
    (ht : ∀ c, r.check = some c → c.driveStart = none → r.dRes = test) : r.Reserved test where
  duty := hd
  owed h := by rw [ho] at h; cases h
  check _ := hp
  rest h := by simp [hp] at h
  start h := by rw [hp] at h; cases h
  peak h := by simp [hp] at h
  ramp h := by rw [hp] at h; cases h
  test := ht

end

theorem rumbleStart_reserved (test : Nat) : rumbleStart.Reserved test :=
  Rumble.reserved_rest (.inl rfl) rfl rfl rfl

/-- A ramp stays between its ends (R123). -/
theorem Ramp.duty_le {q : Ramp} {peak : Nat} (hs : q.start ≤ peak) (ht : q.target ≤ peak)
    (hl : q.length = 0 ∨ q.position ≤ q.length) : q.duty ≤ peak := by
  have moved : Int.tdiv (((q.target : Int) - q.start) * q.position) q.length ≤ peak - q.start := by
    rcases Nat.eq_zero_or_pos q.length with h0 | hpos
    · rw [h0, Nat.cast_zero, Int.tdiv_zero]
      omega
    · have within := hl.resolve_left hpos.ne'
      have rise : ((q.target : Int) - q.start) * q.position ≤ (peak - q.start) * q.length :=
        calc ((q.target : Int) - q.start) * q.position
            ≤ (peak - q.start) * q.position := mul_le_mul_of_nonneg_right (by omega) (by omega)
          _ ≤ (peak - q.start) * q.length := mul_le_mul_of_nonneg_left (by omega) (by omega)
      calc Int.tdiv (((q.target : Int) - q.start) * q.position) q.length
          ≤ Int.tdiv ((peak - q.start) * q.length) q.length := Int.tdiv_le_tdiv (by omega) rise
        _ = peak - q.start := Int.mul_tdiv_cancel _ (by omega)
  unfold Ramp.duty truncDiv
  omega

end Sys2Proof.Machine
end

section
/-! SUPPORT. The Rumble Driver's steps: each keeps the duty reserved, leaves the duty cap as it is and hands
no CLAIM (R117 to R135). -/

namespace Sys2Proof.Machine

/-- The step from `s` to `t` is beside the Budget Unit: it keeps the reservation, and neither begins a check
nor touches what the Budget Unit holds and hands or the CLAIMs that wait or are sent. -/
structure Beside (s t : State) : Prop where
  settings : t.settings = s.settings
  state : t.ps.state = s.ps.state
  bu : t.bu = s.bu
  sending : t.lif.sending = s.lif.sending
  inbox : t.lif.inbox = s.lif.inbox
  gCeiling : t.se.gCeiling = s.se.gCeiling
  dBudget : t.rd.dBudget = s.rd.dBudget
  claims : HandsNoClaim s t
  unchecked : s.rd.check = none → t.rd.check = none
  reserved : s.rd.Reserved s.settings.testDuty → t.rd.Reserved s.settings.testDuty

theorem Beside.refl (s : State) : Beside s s := ⟨rfl, rfl, rfl, rfl, rfl, rfl, rfl, .refl s, id, id⟩

section
variable {s t u : State}

theorem Beside.trans (h : Beside s t) (k : Beside t u) : Beside s u where
  settings := k.settings.trans h.settings
  state := k.state.trans h.state
  bu := k.bu.trans h.bu
  sending := k.sending.trans h.sending
  inbox := k.inbox.trans h.inbox
  gCeiling := k.gCeiling.trans h.gCeiling
  dBudget := k.dBudget.trans h.dBudget
  claims := h.claims.trans k.claims
  unchecked hc := k.unchecked (h.unchecked hc)
  reserved hr := h.settings ▸ k.reserved (h.settings ▸ h.reserved hr)

/-- A step that leaves the drives alone. -/
theorem DrivesAlone.beside_of_handsNoClaim (h : DrivesAlone s t) (hb : t.bu = s.bu)
    (hl : t.lif.sending = s.lif.sending) (hi : t.lif.inbox = s.lif.inbox) (k : HandsNoClaim s t) : Beside s t :=
  ⟨h.settings, h.state, hb, hl, hi, h.gCeiling, congrArg Rumble.dBudget h.rd, k,
    fun hc => (congrArg Rumble.check h.rd).trans hc, fun hr => h.rd ▸ hr⟩

/-- A step that leaves the drives, the Budget Unit and the line alone. -/
theorem DrivesAlone.beside (h : DrivesAlone s t) (hb : t.bu = s.bu) (hl : t.lif = s.lif) : Beside s t :=
  h.beside_of_handsNoClaim hb (congrArg _ hl) (congrArg _ hl) fun _ hp _ => hl ▸ hp

theorem Posts.beside (h : Posts s t) (k : HandsNoClaim s t) : Beside s t :=
  h.drivesAlone.beside_of_handsNoClaim ((congrArg State.bu h).trans rfl)
    ((congrArg (·.lif.sending) h).trans rfl) ((congrArg (·.lif.inbox) h).trans rfl) k

theorem Stores.beside (h : Stores s t) (k : HandsNoClaim s t) : Beside s t :=
  h.drivesAlone.beside_of_handsNoClaim ((congrArg State.bu h).trans rfl)
    ((congrArg (·.lif.sending) h).trans rfl) ((congrArg (·.lif.inbox) h).trans rfl) k

theorem Clocks.beside (h : Clocks s t) (k : HandsNoClaim s t) : Beside s t :=
  h.drivesAlone.beside_of_handsNoClaim ((congrArg State.bu h).trans rfl)
    ((congrArg (·.lif.sending) h).trans rfl) ((congrArg (·.lif.inbox) h).trans rfl) k

theorem Sounds.beside (h : Sounds s t) (hd : DrivesAlone s t) (k : HandsNoClaim s t) : Beside s t :=
  hd.beside_of_handsNoClaim ((congrArg State.bu h).trans rfl)
    ((congrArg (·.lif.sending) h).trans rfl) ((congrArg (·.lif.inbox) h).trans rfl) k

/-- A change of the Rumble Driver's record. -/
theorem withRd_beside {r : Rumble} (hr : s.rd.Reserved s.settings.testDuty →
    r.Reserved s.settings.testDuty) (hc : s.rd.check = none → r.check = none := by exact id)
    (hb : r.dBudget = s.rd.dBudget := by rfl) : Beside s (s.withRd r) :=
  ⟨rfl, rfl, rfl, rfl, rfl, rfl, hb, .refl s, hc, hr⟩

/-- A change in what the reservation does not speak of. -/
theorem withRd_beside_same {r : Rumble} (h : r.reservation = s.rd.reservation := by rfl)
    (hb : r.dBudget = s.rd.dBudget := by rfl) : Beside s (s.withRd r) := by
  refine withRd_beside (fun hr => hr.congr h) (fun hc => ?_) hb
  rw [← hc]
  exact congrArg (fun x => x.1.2.2.2) h

/-- The record is set, after a step, from what it was before. -/
theorem Beside.withRd (h : Beside s t) {r : Rumble} (hr : s.rd.Reserved s.settings.testDuty →
    r.Reserved s.settings.testDuty) (hc : s.rd.check = none → r.check = none := by exact id)
    (hb : r.dBudget = s.rd.dBudget := by rfl) : Beside s (t.withRd r) :=
  ⟨h.settings, h.state, h.bu, h.sending, h.inbox, h.gCeiling, hb, h.claims, hc, hr⟩

theorem refreshDuty_beside : Beside s (refreshDuty s) := withRd_beside_same

theorem Beside.reply (h : Beside s t) (a : Ask) (k : Kind) (c : Code) (d : ReplyData) :
    Beside s (reply a k c d t) :=
  h.trans ((reply_posts a k c d t).beside (reply_handsNoClaim t a k c d))

theorem Beside.replyOwed (h : Beside s t) (o : Owed) (k : Kind) (c : Code) (d : ReplyData) :
    Beside s (replyOwed o k c d t) :=
  h.trans ((replyOwed_posts o k c d t).beside (replyOwed_handsNoClaim t o k c d))

theorem Beside.raiseTo (h : Beside s t) (target : Nat) (n : Notice) : Beside s (raiseTo target n t) :=
  h.trans ((raiseTo_posts target n t).beside (raiseTo_handsNoClaim t target n))

theorem Beside.raiseNotice (h : Beside s t) (n : Notice) : Beside s (raiseNotice n t) := h.raiseTo _ n

theorem Beside.counted (h : Beside s t) (st : Stat) : Beside s (count st t) :=
  h.trans ((count_posts st t).beside (.refl t))

end

/-! ### Plays end, and the player rests (R117, R124, R126, R127) -/

section
variable (s : State)

theorem endRumble_beside (why : EndReason) : Beside s (endRumble why s) := by
  unfold endRumble
  dsimp only
  split
  · exact (Beside.refl s).raiseTo _ _
  · exact .refl s

theorem withFetchRec_beside (p : Nat) (r : FetchRec) : Beside s (s.withFetchRec p r) :=
  (withFetchRec_drivesAlone s p r).beside rfl rfl

theorem closeRec_beside (p : Nat) : Beside s (closeRec p s) := withFetchRec_beside s p _

theorem askSteps_beside (p : Nat) : Beside s (askSteps p s) := by
  unfold askSteps
  dsimp only
  split
  · exact withFetchRec_beside s p _
  · exact .refl s

theorem nextStep_beside (p : Nat) : Beside s (nextStep p s).2 := by
  unfold nextStep
  dsimp only
  split
  · exact (withFetchRec_beside s p _).trans (askSteps_beside _ p)
  · split
    · exact (Beside.refl s).counted _
    · exact .refl s

end

section
variable {s : State} {test : Nat}

/-- The player rests IDLE or FAULTED once it owes nothing and checks nothing. -/
theorem restRumble_beside {p : PlayerState} (hp : p = .idle ∨ p = .faulted)
    (hr : s.rd.Reserved s.settings.testDuty → s.rd.owed = none ∧ s.rd.check = none) :
    Beside s (restRumble p s) :=
  withRd_beside fun h => Rumble.reserved_rest (hp.imp_right .inl) rfl (hr h).1 (hr h).2

/-- Only a STARTING player owes, and only a CHECKING one checks. -/
theorem Rumble.Reserved.free {r : Rumble} (h : r.Reserved test) (hs : r.player ≠ .starting)
    (hc : r.player ≠ .checking) : r.owed = none ∧ r.check = none := ⟨h.unowed hs, h.unchecked hc⟩

theorem finishBraking_beside (h : s.rd.player = .braking) : Beside s (finishBraking s) := by
  refine (endRumble_beside s .finished).trans (restRumble_beside (.inl rfl) fun hr => ?_)
  rw [endRumble_rd] at hr ⊢
  exact hr.free (by rw [h]; exact nofun) (by rw [h]; exact nofun)

/-- A player that owes nothing and checks nothing begins to brake. -/
theorem enterBraking_beside (why : EndReason)
    (hr : s.rd.Reserved s.settings.testDuty → s.rd.owed = none ∧ s.rd.check = none) :
    Beside s (enterBraking why s) := by
  have braked : Beside s ((closeRec 0 s).withRd (s.rd.braked why s.settings.brakeTicks)) :=
    (closeRec_beside s 0).trans (withRd_beside fun h =>
      Rumble.reserved_rest (.inr (.inr rfl)) rfl (hr h).1 (hr h).2)
  unfold enterBraking
  dsimp only
  split
  · exact braked.trans (finishBraking_beside rfl)
  · exact braked

/-! ### Steps of a pattern (R122, R123) -/

theorem beginRumbleStep_beside (x : Step)
    (hr : s.rd.Reserved s.settings.testDuty → s.rd.Ready) : Beside s (beginRumbleStep x s) := by
  cases x with
  | sound => exact .refl s
  | rumble duty length ramp brake =>
    refine Beside.trans (t := s.withRd _) (withRd_beside (fun h => ?_) (fun hc => ?_) ?_)
      refreshDuty_beside
    · obtain ⟨hduty, hpeak, ho, hc⟩ := hr h
      have hstart : s.rd.dReq ≤ s.rd.peak := hpeak ▸ hduty
      cases brake with
      | true => exact Rumble.reserved_playing rfl (Nat.zero_le _) hpeak ho hc (fun _ => nofun)
      | false =>
        cases ramp with
        | false => exact Rumble.reserved_playing rfl (min_le_right _ _) hpeak ho hc (fun _ => nofun)
        | true =>
          refine Rumble.reserved_playing rfl (Ramp.duty_le hstart (min_le_right _ _) ?_) hpeak ho hc ?_
          · show length = 0 ∨ 1 ≤ length
            omega
          · rintro q ⟨⟩
            exact ⟨hstart, min_le_right _ _, (Nat.add_comm 1 length).le⟩
    · cases brake <;> cases ramp <;> exact hc
    · cases brake <;> cases ramp <;> rfl

theorem takeRumbleStep_beside (hr : s.rd.Reserved s.settings.testDuty → s.rd.Ready) :
    Beside s (takeRumbleStep s) := by
  have h := nextStep_beside s 0
  have hrd : (nextStep 0 s).2.rd = s.rd := (nextStep_drivesAlone s 0).rd
  have hst : (nextStep 0 s).2.settings = s.settings := h.settings
  unfold takeRumbleStep
  split <;> rename_i h' <;> rw [h'] at h hrd hst <;> dsimp only at h hrd hst <;>
    rw [← hrd, ← hst] at hr
  · exact h.trans (beginRumbleStep_beside _ hr)
  · exact h.trans (enterBraking_beside _ fun hk => ⟨(hr hk).owed, (hr hk).check⟩)
  · exact h.trans (withRd_beside fun hk => (hr hk).starved)

theorem tryStart_beside : Beside s (tryStart s) := by
  unfold tryStart
  split
  · next hk =>
    obtain ⟨hp, -, ho⟩ := hk
    split
    · next kind =>
      refine (withRd_beside fun h => ?_).trans refreshDuty_beside
      exact Rumble.reserved_steady rfl (((h.start hp).2 ho).2 kind).le ho
        (h.unchecked (by rw [hp]; exact nofun))
    · next kind =>
      split
      · exact .refl s
      · exact takeRumbleStep_beside fun h => h.ready_of_starting hp ho kind
  · exact .refl s

theorem rumbleDelivery_beside : Beside s (rumbleDelivery s) := by
  unfold rumbleDelivery
  split
  · next hp =>
    split
    · exact .refl s
    · exact takeRumbleStep_beside fun h => h.ready (.inr hp)
  · exact tryStart_beside

/-! ### The motor check (R131, R133, R134) -/

theorem endCheck_beside {c : MotorCheck} (hc : s.rd.check = some c) (o : CheckOutcome)
    (why : Option FailReason) (cur : Option Nat) (fault : Option (FaultCause × Nat)) {after : PlayerState}
    (ha : after = .idle ∨ after = .faulted) : Beside s (endCheck c o why cur fault after s) := by
  refine (withRd_beside (fun h => ?_) fun _ => rfl).replyOwed _ _ _ _
  have checking : s.rd.player = .checking := h.check (by rw [hc]; rfl)
  exact Rumble.reserved_rest (ha.imp_right .inl) rfl (h.unowed (by rw [checking]; exact nofun)) rfl

theorem MotorCheck.cameFrom_rests (c : MotorCheck) : c.cameFrom = .idle ∨ c.cameFrom = .faulted := by
  unfold MotorCheck.cameFrom
  split
  · exact .inr rfl
  · exact .inl rfl

theorem failCheck_beside (why : FailReason) : Beside s (failCheck why s) := by
  unfold failCheck
  split
  · exact .refl s
  · next c hc => exact endCheck_beside hc _ _ _ _ c.cameFrom_rests

theorem takeReport_beside : Beside s (takeReport s) := by
  have ended : Beside s (s.withRd { s.rd with raiseEnded := true }) := withRd_beside_same
  unfold takeReport
  dsimp only
  split
  · next c hc =>
    split
    · exact ended
    · next undriven =>
      split
      · exact ended.trans (failCheck_beside _)
      · refine (ended.trans (withRd_beside (fun h => ?_) fun hn => ?_)).trans refreshDuty_beside
        · have checking : s.rd.player = .checking := h.check (by rw [hc]; rfl)
          have reserved : s.rd.dRes = s.settings.testDuty :=
            h.test c hc (by simpa using undriven)
          refine Rumble.reserved_checking checking reserved.ge (h.unowed ?_) ?_
          · show s.rd.player ≠ _
            rw [checking]
            exact nofun
          · rintro c ⟨⟩ hd
            cases hd
        · rw [hc] at hn
          cases hn
  · exact ended.trans tryStart_beside

theorem overcurrent_beside (cur : Nat) (hr : s.rd.mode = .drive) :
    Beside s (overcurrent cur s) := by
  unfold overcurrent
  dsimp only
  split
  · next c hc => exact (endCheck_beside hc _ _ _ _ (.inr rfl)).raiseNotice _
  · next hc =>
    have closed := (endRumble_beside s .fault).trans (closeRec_beside _ 0)
    have record : (closeRec 0 (endRumble .fault s)).rd = s.rd := endRumble_rd .fault s
    generalize closeRec 0 (endRumble .fault s) = u at closed record
    refine ((closed.trans withRd_beside_same).trans
      (restRumble_beside (.inr rfl) fun h => ⟨h.unowed fun hp => ?_, ?_⟩)).raiseNotice _
    · have off : u.rd.mode = .off := (h.start hp).1
      rw [record, hr] at off
      cases off
    · show u.rd.check = none
      rw [record, hc]

theorem senseSample_beside (cur : Nat) : Beside s (senseSample cur s) := by
  unfold senseSample
  dsimp only
  split
  · next driven =>
    split
    · exact overcurrent_beside _ driven.1
    · split
      · exact .refl s
      · next c hc =>
        split
        · exact .refl s
        · next u hd =>
          split
          · refine withRd_beside (fun h => ?_) fun hn => by rw [hc] at hn; cases hn
            exact { h with
              check := fun _ => h.check (by rw [hc]; rfl)
              test := fun c' hk hd' => by cases hk; rw [hd] at hd'; cases hd' }
          · exact .refl s
  · exact .refl s

theorem finishCheck_beside {c : MotorCheck} (hc : s.rd.check = some c) :
    Beside s (finishCheck c s) := by
  unfold finishCheck
  dsimp only
  split
  · exact failCheck_beside _
  · split
    · exact endCheck_beside hc _ _ _ _ (.inr rfl)
    · exact endCheck_beside hc _ _ _ _ (.inr rfl)
    · exact endCheck_beside hc _ _ _ _ (.inl rfl)
    · exact .refl s

/-! ### Lookup results, stops and ticks (R120, R122 to R126, R130) -/

theorem rumbleCancelled_beside (r : Rumble) : Beside s (rumbleCancelled r s) := by
  unfold rumbleCancelled
  split
  · exact (Beside.refl s).replyOwed _ _ _ _
  · exact .refl s

theorem checkCancelled_beside (r : Rumble) : Beside s (checkCancelled r s) := by
  unfold checkCancelled
  split
  · exact (Beside.refl s).replyOwed _ _ _ _
  · exact .refl s

theorem rumbleResult_beside (l : Lookup) : Beside s (rumbleResult l s) := by
  unfold rumbleResult
  dsimp only
  split
  · exact .refl s
  · next o ho =>
    have owing : s.rd.owed.isSome = true := by rw [ho]; rfl
    have unchecked (h : s.rd.Reserved s.settings.testDuty) : s.rd.check = none :=
      h.unchecked (by rw [(h.owed owing).1]; exact nofun)
    have rests : Beside s (restRumble .idle (s.withRd { s.rd with owed := none })) :=
      withRd_beside fun h => Rumble.reserved_rest (.inl rfl) rfl rfl (unchecked h)
    split
    · refine (Beside.replyOwed (withRd_beside fun h => ?_) _ _ _ _).trans tryStart_beside
      obtain ⟨starting, kind⟩ := h.owed owing
      refine Rumble.reserved_start starting (h.start starting).1 (h.rest (by simp [starting])) (unchecked h)
        (fun hn => by cases hn) fun _ => ⟨fun _ => rfl, fun hk => ?_⟩
      rw [show s.rd.kind = .steady from hk] at kind
      cases kind
    · exact rests.replyOwed _ _ _ _
    · exact rests.replyOwed _ _ _ _

theorem stopPlayer_running_beside (h : s.rd.player = .starting ∨ s.rd.player = .playing ∨
    s.rd.player = .starved ∨ s.rd.player = .steady) (coast : Bool) : Beside s (stopPlayer coast s) := by
  have unchecked (hr : s.rd.Reserved s.settings.testDuty) : s.rd.check = none :=
    hr.unchecked (by rcases h with h | h | h | h <;> rw [h] <;> exact nofun)
  cases ho : s.rd.owed with
  | some o =>
    rw [stopPlayer_cancels h coast ho]
    exact (((Beside.refl s).replyOwed _ _ _ _).trans (closeRec_beside _ 0)).withRd fun hr =>
      Rumble.reserved_rest (.inl rfl) rfl rfl (unchecked hr)
  | none =>
    cases coast with
    | false =>
      rw [stopPlayer_brakes h ho]
      exact enterBraking_beside _ fun hr => ⟨ho, unchecked hr⟩
    | true =>
      have ended := (endRumble_beside s .stopped).trans (closeRec_beside _ 0)
      have record : (closeRec 0 (endRumble .stopped s)).rd = s.rd := endRumble_rd .stopped s
      have settings := ended.settings
      rw [stopPlayer_running h, ho, if_neg Bool.noConfusion, if_pos rfl]
      dsimp only
      generalize closeRec 0 (endRumble .stopped s) = u at ended record settings
      refine (ended.trans withRd_beside_same).trans (restRumble_beside (.inl rfl) fun hr => ?_)
      show u.rd.owed = none ∧ u.rd.check = none
      rw [record]
      have hr : u.rd.Reserved u.settings.testDuty := hr.congr
      exact ⟨ho, unchecked (by rwa [record, settings] at hr)⟩

theorem stopPlayer_beside (coast : Bool) : Beside s (stopPlayer coast s) := by
  cases h : s.rd.player
  case starting | playing | starved | steady => exact stopPlayer_running_beside (by simp [h]) coast
  case idle | checking | faulted =>
    rw [stopPlayer_left (by simp [h])]
    exact .refl s
  case braking =>
    cases coast with
    | false =>
      rw [stopPlayer_left (by simp [h])]
      exact .refl s
    | true =>
      rw [stopPlayer_braking h]
      exact finishBraking_beside h

theorem rumbleStepWork_beside : Beside s (rumbleStepWork s) := by
  unfold rumbleStepWork
  dsimp only
  split
  · next hp =>
    split
    · refine (withRd_beside fun h => ?_).trans (takeRumbleStep_beside fun h => h.ready (.inl hp))
      refine { h with ramp := fun hp q hq => ?_ }
      obtain ⟨hs, ht, hl⟩ := h.ramp hp q hq
      exact ⟨hs, ht, (Nat.le_add_right _ _).trans hl⟩
    · next hl =>
      split
      · next hq =>
        exact withRd_beside fun h => { h with ramp := fun _ q hk => by rw [hq] at hk; cases hk }
      · next q hq =>
        refine (withRd_beside fun h => ?_).trans refreshDuty_beside
        obtain ⟨hs, ht, hlen⟩ := h.ramp hp q hq
        obtain ⟨-, hpeak, ho, hc⟩ := h.ready (.inl hp)
        refine Rumble.reserved_playing hp (Ramp.duty_le hs ht (.inr ?_)) hpeak ho hc ?_
        · show q.position + 1 ≤ q.length
          omega
        · rintro q' ⟨⟩
          refine ⟨hs, ht, ?_⟩
          show q.position + 1 + (s.rd.ticksLeft - 1) ≤ q.length + 1
          omega
  · next hp =>
    split
    · exact .refl s
    · split
      · exact (withRd_beside_same (s := s)).trans (enterBraking_beside _ fun h =>
          h.free (by show s.rd.player ≠ _; rw [hp]; exact nofun) (by show s.rd.player ≠ _; rw [hp]; exact nofun))
      · exact withRd_beside_same
  · next hp =>
    split
    · exact (withRd_beside_same (s := s)).trans (finishBraking_beside hp)
    · exact withRd_beside_same
  all_goals exact .refl s

theorem examineGuard_beside : Beside s (examineGuard s) := by
  have trip : Beside s (guardTripped s) :=
    ((Beside.trans withRd_beside_same refreshDuty_beside).counted _).raiseNotice _
  unfold examineGuard
  dsimp only
  split
  · split
    · exact trip.trans (failCheck_beside _)
    · exact trip
  · split
    · exact (Beside.trans withRd_beside_same refreshDuty_beside).raiseNotice _
    · exact .refl s

theorem heatTick_beside : Beside s (heatTick s) :=
  Beside.trans withRd_beside_same examineGuard_beside

theorem rumbleTick_beside : Beside s (rumbleTick s) :=
  rumbleStepWork_beside.trans heatTick_beside

/-! ### Entry to DOZE (R136) -/

theorem Rumble.dozing_reserved (r : Rumble) (test : Nat) : r.dozing.Reserved test := by
  have origin : r.origin = .idle ∨ r.origin = .faulted := by
    unfold Rumble.origin
    split <;> split <;> simp
  exact Rumble.reserved_rest (origin.imp_right .inl) rfl rfl rfl

theorem rumbleDoze_beside : Beside s (rumbleDoze s) := by
  rw [rumbleDoze_eq]
  have told := ((endRumble_beside s .power).trans (rumbleCancelled_beside s.rd)).trans
    (checkCancelled_beside s.rd)
  exact (told.withRd (fun _ => s.rd.dozing_reserved _) fun _ => rfl).trans (closeRec_beside _ 0)

end

end Sys2Proof.Machine
end

section
/-! SUPPORT. The steps of the other blocks beside the Budget Unit: none touches the Rumble Driver, what the
Budget Unit holds and hands, or the CLAIMs on their way. -/

namespace Sys2Proof.Machine

section
variable (s : State)

/-! ### Updates of the other blocks -/

theorem withBtg_beside (x : BeatGen) : Beside s (s.withBtg x) := (withBtg_drivesAlone s x).beside rfl rfl
theorem withPfu_beside (x : Fetch) : Beside s (s.withPfu x) := (withPfu_drivesAlone s x).beside rfl rfl
theorem withSs_beside (x : SaveStore) : Beside s (s.withSs x) := (withSs_drivesAlone s x).beside rfl rfl
theorem withCal_beside (x : Calendar) : Beside s (s.withCal x) := (withCal_drivesAlone s x).beside rfl rfl
theorem withNu_beside (x : Notices) : Beside s (s.withNu x) := (withNu_drivesAlone s x).beside rfl rfl
theorem withGuard_beside (x : GuardPin) : Beside s (s.withGuard x) := (withGuard_drivesAlone s x).beside rfl rfl

theorem withVoice_beside (i : Nat) (v : Voice) : Beside s (s.withVoice i v) :=
  (withVoice_drivesAlone s i v).beside rfl rfl

theorem reach_beside (d : Nat) : Beside s (reach d s) := (reach_drivesAlone s d).beside rfl rfl

theorem elapse_beside (d : Nat) : Beside s (elapse d s) := (elapse_drivesAlone s d).beside rfl rfl

theorem setAck_beside (b : Bool) : Beside s (setAck b s) :=
  (setAck_drivesAlone s b).beside_of_handsNoClaim rfl rfl rfl (.refl s)

theorem count_beside (st : Stat) : Beside s (count st s) := (Beside.refl s).counted st

/-! ### The Pattern Fetch Unit -/

theorem grant_beside : Beside s (grant s) := withPfu_beside s _

theorem openRec_beside (p : Nat) (e : DirEntry) : Beside s (openRec p e s) :=
  (withFetchRec_beside s p _).trans (askSteps_beside _ p)

theorem startPlay_beside (p pattern playNo : Nat) :
    Beside s (startPlay p pattern playNo s).1 := by
  have fresh := withFetchRec_beside s p { fetchRecStart with playNo := playNo, pattern := pattern }
  unfold startPlay
  dsimp only
  split
  · split
    · exact ((fresh.trans (withPfu_beside _ _)).trans (openRec_beside _ p _)).trans
        (grant_beside _)
    · exact fresh.trans (withPfu_beside _ _)
  · exact (fresh.trans (withFetchRec_beside _ p _)).trans (grant_beside _)

theorem deliver_beside (p j n : Nat) (bytes : List Byte) :
    Beside s (deliver p j n bytes s) := by
  unfold deliver
  dsimp only
  split
  · exact (withFetchRec_beside s p _).trans (askSteps_beside _ p)
  · exact .refl s

theorem learnt_beside (pattern : Nat) (raw : RawEntry) : Beside s (learnt pattern raw s) := by
  rw [learnt_frame]
  exact DrivesAlone.beside ⟨rfl, rfl, rfl, rfl, rfl⟩ rfl rfl

theorem finishLookup_beside (p pattern playNo : Nat) (bytes : List Byte) :
    Beside s (finishLookup p pattern playNo bytes s).1 := by
  rw [finishLookup_eq]
  have seen := learnt_beside s pattern (readEntry bytes)
  split
  · split
    · exact seen.trans (openRec_beside _ p _)
    · exact seen.trans (withFetchRec_beside _ p _)
  · exact seen

/-! ### The voices of the Sound Engine -/

theorem endCue_beside (i : Nat) (why : EndReason) : Beside s (endCue i why s) := by
  rw [endCue_eq]
  split
  · exact (Beside.refl s).raiseTo _ _
  · exact .refl s

theorem restVoice_beside (i : Nat) : Beside s (restVoice i s) := withVoice_beside s i _

theorem finishVoice_beside (i : Nat) (why : EndReason) : Beside s (finishVoice i why s) :=
  (endCue_beside s i why).trans (restVoice_beside _ i)

theorem cancelVoiceOwed_beside (i : Nat) : Beside s (cancelVoiceOwed i s) := by
  unfold cancelVoiceOwed
  split
  · exact .refl s
  · exact (withVoice_beside s i _).replyOwed _ _ _ _

theorem releaseVoice_beside (i : Nat) (why : EndReason) : Beside s (releaseVoice i why s) := by
  have told := (closeRec_beside s (i + 1)).trans (withVoice_beside _ i
    { (closeRec (i + 1) s).voice i with endReason := some why })
  unfold releaseVoice
  dsimp only
  split
  · exact told.trans (finishVoice_beside _ i why)
  · exact told.trans (withVoice_beside _ i _)

theorem beginSoundStep_beside (i : Nat) (x : Step) : Beside s (beginSoundStep i x s) := by
  unfold beginSoundStep
  split
  · exact .refl s
  · exact withVoice_beside s i _

theorem takeSoundStep_beside (i : Nat) : Beside s (takeSoundStep i s) := by
  have h := nextStep_beside s (i + 1)
  unfold takeSoundStep
  split <;> rename_i h' <;> rw [h'] at h
  · exact h.trans (beginSoundStep_beside _ i _)
  · exact h.trans (releaseVoice_beside _ i _)
  · exact h.trans (withVoice_beside _ i _)

theorem soundDelivery_beside (i : Nat) : Beside s (soundDelivery i s) := by
  unfold soundDelivery
  dsimp only
  split
  · exact takeSoundStep_beside s i
  · exact .refl s

theorem envelopeTick_beside (i : Nat) : Beside s (envelopeTick i s) := by
  have moved := withVoice_beside s i (s.voice i).moveEnvelope
  unfold envelopeTick
  dsimp only
  split
  · exact moved
  · split
    · split
      · exact moved.trans (finishVoice_beside _ i _)
      · exact moved
    · exact .refl s

theorem soundStepWork_beside (i : Nat) : Beside s (soundStepWork i s) := by
  have counted := withVoice_beside s i { s.voice i with ticksLeft := (s.voice i).ticksLeft - 1 }
  unfold soundStepWork
  dsimp only
  split
  · split
    · exact counted.trans (takeSoundStep_beside _ i)
    · exact counted
  · exact .refl s

theorem voiceTick_beside (i : Nat) : Beside s (voiceTick i s) :=
  ((withVoice_beside s i _).trans (soundStepWork_beside _ i)).trans
    (envelopeTick_beside _ i)

theorem audioSample_beside : Beside s (audioSample s) := by
  unfold audioSample
  dsimp only
  split
  · split
    · exact (count_beside s .clips).trans (DrivesAlone.beside ⟨rfl, rfl, rfl, rfl, rfl⟩ rfl rfl)
    · exact DrivesAlone.beside ⟨rfl, rfl, rfl, rfl, rfl⟩ rfl rfl
  · exact DrivesAlone.beside ⟨rfl, rfl, rfl, rfl, rfl⟩ rfl rfl

theorem stopVoice_beside (m : SoundStop) (i : Nat) : Beside s (stopVoice m i s) := by
  unfold stopVoice
  dsimp only
  split
  case h_1 => exact .refl s
  case h_5 =>
    split
    · exact .refl s
    · exact finishVoice_beside s i _
  all_goals
    split
    · exact ((cancelVoiceOwed_beside s i).trans (closeRec_beside _ _)).trans
        (restVoice_beside _ i)
    · split
      · exact releaseVoice_beside s i _
      · exact ((closeRec_beside s _).trans (finishVoice_beside _ i _)).trans
          (withVoice_beside _ i _)

theorem soundResult_beside (i : Nat) (l : Lookup) : Beside s (soundResult i l s) := by
  have confirmed := withVoice_beside s i { s.voice i with owed := none }
  unfold soundResult
  dsimp only
  split
  · exact .refl s
  · split
    · exact confirmed.replyOwed _ _ _ _
    · exact (confirmed.trans (restVoice_beside _ i)).replyOwed _ _ _ _
    · exact (confirmed.trans (restVoice_beside _ i)).replyOwed _ _ _ _

theorem takeVoice_beside (a : Ask) (i pattern priority : Nat) (endNotice : Bool)
    (f : PendingChange) : Beside s (takeVoice a i pattern priority endNotice f s) := by
  have started (v : Voice) (n : Nat) := (((endCue_beside s i .replaced).trans
    (cancelVoiceOwed_beside _ i)).trans (withVoice_beside _ i v)).trans
    (startPlay_beside _ (i + 1) pattern n)
  unfold takeVoice
  dsimp only
  split <;> rename_i h
  · exact (congrArg (Beside s) (congrArg Prod.fst h)).mp (started _ _)
  · exact ((congrArg (Beside s) (congrArg Prod.fst h)).mp (started _ _)).trans
      (soundResult_beside _ i _)

/-- A change of the Sound Engine beside its ceiling. -/
theorem withSe_beside {x : Sound} (h : x.gCeiling = s.se.gCeiling) : Beside s (s.withSe x) :=
  ⟨rfl, rfl, rfl, rfl, rfl, h, rfl, .refl s, id, id⟩

theorem soundTick_beside : Beside s (soundTick s) := by
  have voices := (((voiceTick_beside s 0).trans (voiceTick_beside _ 1)).trans (voiceTick_beside _ 2)).trans
    (voiceTick_beside _ 3)
  unfold soundTick
  dsimp only
  generalize voiceTick 3 (voiceTick 2 (voiceTick 1 (voiceTick 0 s))) = u at voices
  exact voices.trans (withSe_beside u rfl)

theorem eachVoice_beside {f : Nat → State → State} (h : ∀ i u, Beside u (f i u)) :
    Beside s (eachVoice f s) := (((h 0 s).trans (h 1 _)).trans (h 2 _)).trans (h 3 _)

theorem dozeOwed_beside (i : Nat) : Beside s (dozeOwed i s) := by
  unfold dozeOwed
  split
  · exact (cancelVoiceOwed_beside s i).trans (restVoice_beside _ i)
  · exact .refl s

theorem dozeRest_beside (i : Nat) : Beside s (dozeRest i s) :=
  (closeRec_beside s _).trans (restVoice_beside _ i)

/-- The Sound Engine's step at the entry to DOZE (R113). -/
theorem soundDoze_beside : Beside s (soundDoze s) := by
  have quiet := ((eachVoice_beside s fun i u => dozeOwed_beside u i).trans
    (eachVoice_beside _ fun i u => endCue_beside u i .power)).trans
    (eachVoice_beside _ fun i u => dozeRest_beside u i)
  unfold soundDoze
  dsimp only
  generalize eachVoice dozeRest _ = u at quiet
  exact quiet.trans (withSe_beside u rfl)

/-! ### The Save Store -/

theorem withWrite_beside (w : Option WriteStream) : Beside s (s.withWrite w) := withSs_beside s _

theorem damageSlot_beside (slot : Nat) (cause : DamageCause) : Beside s (damageSlot slot cause s) :=
  (withSs_beside s _).raiseNotice _

theorem abandonStream_beside (w : WriteStream) : Beside s (abandonStream w s) := withSs_beside s _

theorem breakStream_beside (w : WriteStream) (cause : LostCause) : Beside s (breakStream w cause s) :=
  (withSs_beside s _).raiseTo _ _

theorem feed_beside (l : List Byte) : Beside s (feed l s) := by
  induction l generalizing s with
  | nil =>
    unfold feed
    split
    · exact .refl s
    · exact withSs_beside s _
  | cons b rest ih =>
    unfold feed
    dsimp only
    repeat' split
    all_goals first
      | exact (withSs_beside s _).trans (ih _)
      | exact breakStream_beside s _ _
      | exact .refl s
      | exact withSs_beside s _

theorem serveSaveData_beside (source toggle : Nat) (data : List Byte) :
    Beside s (serveSaveData source toggle data s) := by
  unfold serveSaveData
  dsimp only
  repeat' split
  all_goals first
    | exact .refl s
    | exact (withWrite_beside s _).counted _
    | exact (withWrite_beside s _).trans (breakStream_beside _ _ _)
    | exact (withWrite_beside s _).trans (feed_beside _ _)
    | exact withWrite_beside s _

theorem copyComplete_beside : Beside s (copyComplete s) := by
  unfold copyComplete
  dsimp only
  repeat' split
  all_goals first
    | exact .refl s
    | exact (withSs_beside s _).trans (feed_beside _ _)
    | exact (breakStream_beside s _ _).trans (damageSlot_beside _ _ _)

theorem readHandover_beside : Beside s (readHandover s) := by
  refine (readHandover_stores s).beside ?_
  unfold readHandover
  dsimp only
  repeat' split
  all_goals first
    | exact .refl s
    | exact handPost_handsNoClaim (s := s.withSs _) rfl

theorem readVerify_beside : Beside s (readVerify s) := by
  unfold readVerify
  dsimp only
  repeat' split
  all_goals first
    | exact .refl s
    | exact (withSs_beside s _).trans (damageSlot_beside _ _ _)
    | exact withSs_beside s _

theorem idleExpiry_beside : Beside s (idleExpiry s) := by
  unfold idleExpiry
  split
  · exact .refl s
  · next w _ =>
    have reached := reach_beside s (w.lastActivity + idleCounts s.settings)
    dsimp only
    split
    · exact .refl s
    · exact reached.trans (withSs_beside _ _)
    · exact (reached.trans (abandonStream_beside _ w)).raiseTo _ _

theorem storeDoze_beside : Beside s (storeDoze s) := by
  have written : Beside s (dozeWrite s) := by
    unfold dozeWrite
    repeat' split
    all_goals first
      | exact .refl s
      | exact withSs_beside s _
      | exact (abandonStream_beside s _).raiseTo _ _
  unfold storeDoze
  dsimp only
  split
  · exact written.trans (withSs_beside _ _)
  · exact written

/-! ### The Calendar and the Power Supervisor -/

theorem fireDue_beside (n : Nat) : Beside s (fireDue n s) := by
  induction n generalizing s with
  | zero => exact .refl s
  | succ n ih =>
    unfold fireDue
    split
    · exact .refl s
    · split
      · exact ((withCal_beside s _).raiseNotice _).trans (ih _)
      · exact .refl s

theorem appointmentCheck_beside : Beside s (appointmentCheck s) := by
  unfold appointmentCheck
  split
  · exact fireDue_beside s _
  · exact .refl s

theorem calendarStep_beside : Beside s (calendarStep s) := by
  have turned (u : State) : Beside u (dayTurnCheck u) := by
    unfold dayTurnCheck
    split
    · exact (withCal_beside u _).raiseNotice _
    · exact .refl u
  unfold calendarStep
  split
  · exact ((withCal_beside s _).trans (turned _)).trans (appointmentCheck_beside _)
  · exact .refl s

theorem crystalCount_beside : Beside s (crystalCount s) := by
  have sampled : Beside s (samplerCount s) := DrivesAlone.beside ⟨rfl, rfl, rfl, rfl, rfl⟩ rfl rfl
  unfold crystalCount prescalerCount
  refine sampled.trans ?_
  split
  · split
    · exact calendarStep_beside _
    · exact withCal_beside _ _
  · exact .refl _

theorem secondStep_beside : Beside s (secondStep s) := by
  unfold secondStep
  split
  · exact crystalCount_beside s
  · exact .refl s

theorem idle_beside : Beside s (idle s) := by
  have passed (c : Nat) : Beside s { elapse 1 s with crystal := c } :=
    DrivesAlone.beside ⟨rfl, rfl, rfl, rfl, rfl⟩ rfl rfl
  unfold idle
  dsimp only
  split
  · split
    · exact passed _
    · exact (passed 0).trans (crystalCount_beside _)
  · split
    · exact crystalCount_beside s
    · exact .refl s

theorem sampleCell_beside (mv : Nat) : Beside s (sampleCell mv s) := by
  have sampled (x : Power) (h : x.state = s.ps.state) : Beside s (s.withPs x) :=
    DrivesAlone.beside ⟨rfl, rfl, rfl, rfl, h⟩ rfl rfl
  unfold sampleCell
  dsimp only
  split
  · exact Beside.raiseNotice (sampled { s.ps with cell := _, cellCount := 0, lowSeen := _ } rfl) _
  · exact sampled _ rfl

/-! ### The line -/

theorem refuseRequest_beside (e : Entry) (c : Code) : Beside s (refuseRequest e c s) := by
  unfold refuseRequest
  split
  · exact .refl s
  · exact (Beside.refl s).reply _ _ _ _

/-- A change of the Line Interface beside its queue and the post being sent. -/
theorem withLif_beside {x : LineIf} (hq : x.queue = s.lif.queue) (hs : x.sending = s.lif.sending)
    (hi : x.inbox = s.lif.inbox) : Beside s (s.withLif x) :=
  (withLif_drivesAlone s x).beside_of_handsNoClaim rfl hs hi fun _ hp _ => hq ▸ hp

theorem leaveSilent_beside : Beside s (leaveSilent s) := by
  unfold leaveSilent
  split
  · exact .refl s
  · next t _ =>
    have heard : Beside s ((reach t s).withLif { s.lif with silentEnd := none, runCount := 0, removed := 0 }) :=
      (reach_beside s t).trans (withLif_beside _ rfl rfl rfl)
    exact (heard.counted _).raiseNotice _

theorem refuseEach_beside (c : Code) (l : List Entry) :
    Beside s (l.foldl (fun u e => refuseRequest e c u) s) := by
  induction l generalizing s with
  | nil => exact .refl s
  | cons e rest ih => exact (refuseRequest_beside s e c).trans (ih _)

end

end Sys2Proof.Machine
end

section
/-! SUPPORT. Currents and caps: what the caps of a recomputation let the part draw fits in the grant base, and
a recomputation that lowers no claim leaves its caps within the released one (R139, R145 to R148, R154). -/

namespace Sys2Proof.Machine

/-! ### The load functions (R139, R146, R147) -/

theorem ceilDiv_le_iff {a n : Nat} : ceilDiv a 255 ≤ n ↔ a ≤ 255 * n := by
  unfold ceilDiv
  omega

section
variable (st : Settings) {g d share : Nat}

theorem ampCurrent_zero : ampCurrent st 0 = 0 := if_pos rfl

theorem ampCurrent_pos (h : 0 < g) : ampCurrent st g = st.a0 + ceilDiv (st.a1 * g) 255 := if_neg h.ne'

theorem ceilDiv_mono {a b : Nat} (h : a ≤ b) : ceilDiv a 255 ≤ ceilDiv b 255 :=
  Nat.div_le_div_right (by omega)

theorem ampCurrent_mono (h : g ≤ d) : ampCurrent st g ≤ ampCurrent st d := by
  rcases Nat.eq_zero_or_pos g with rfl | hg
  · rw [ampCurrent_zero]
    exact Nat.zero_le _
  · rw [ampCurrent_pos st hg, ampCurrent_pos st (hg.trans_le h)]
    exact Nat.add_le_add_left (ceilDiv_mono (Nat.mul_le_mul_left _ h)) _

theorem motorCurrent_zero : motorCurrent st 0 = 0 := by
  rw [motorCurrent, Nat.mul_zero, ceilDiv]

theorem motorCurrent_mono (h : g ≤ d) : motorCurrent st g ≤ motorCurrent st d :=
  ceilDiv_mono (Nat.mul_le_mul_left _ h)

/-- The amplifier at a share's ceiling draws no more than the share (R146). -/
theorem ampCurrent_ceilingFor_le : ampCurrent st (ceilingFor st share) ≤ share := by
  unfold ceilingFor
  split
  · next h1 =>
    split
    · next h0 => rwa [ampCurrent_pos st (by omega), h1, Nat.zero_mul]
    · rw [ampCurrent_zero]
      exact Nat.zero_le _
  · split
    · rw [ampCurrent_zero]
      exact Nat.zero_le _
    · next h1 h0 =>
      rcases Nat.eq_zero_or_pos (min 255 ((share - st.a0) * 255 / st.a1)) with hz | hpos
      · rw [hz, ampCurrent_zero]
        exact Nat.zero_le _
      · have fits : st.a1 * min 255 ((share - st.a0) * 255 / st.a1) ≤ 255 * (share - st.a0) :=
          (Nat.mul_le_mul_left _ (min_le_right _ _)).trans ((Nat.mul_div_le _ _).trans (by omega))
        have drawn := ceilDiv_le_iff.2 fits
        rw [ampCurrent_pos st hpos]
        omega

/-- A gain whose current fits in a share stands at or below its ceiling (R146). -/
theorem le_ceilingFor (hg : g ≤ 255) (h : ampCurrent st g ≤ share) : g ≤ ceilingFor st share := by
  rcases Nat.eq_zero_or_pos g with rfl | hpos
  · exact Nat.zero_le _
  · rw [ampCurrent_pos st hpos] at h
    unfold ceilingFor
    split
    · rwa [if_pos (by omega)]
    · next h1 =>
      have rises : 0 < st.a1 * g := Nat.mul_pos (Nat.pos_of_ne_zero h1) hpos
      have fits : st.a1 * g ≤ 255 * (share - st.a0) := ceilDiv_le_iff.1 (by omega)
      rw [if_neg (by omega), le_min_iff, Nat.le_div_iff_mul_le (Nat.pos_of_ne_zero h1), Nat.mul_comm g]
      exact ⟨hg, fits.trans_eq (Nat.mul_comm _ _)⟩

theorem ceilingFor_le : ceilingFor st share ≤ 255 := by
  unfold ceilingFor
  repeat' split
  all_goals omega

/-- The motor at a share's cap draws no more than the share (R147). -/
theorem motorCurrent_cap_le : motorCurrent st (min 255 (share * 255 / st.iFull)) ≤ share := by
  refine ceilDiv_le_iff.2 ?_
  calc st.iFull * min 255 (share * 255 / st.iFull)
      ≤ st.iFull * (share * 255 / st.iFull) := Nat.mul_le_mul_left _ (min_le_right _ _)
    _ ≤ share * 255 := Nat.mul_div_le _ _
    _ = 255 * share := Nat.mul_comm _ _

theorem le_roundup2 {x n : Nat} (hx : n ≤ x) (hn : n ≤ 510) : n ≤ roundup2 x := by
  unfold roundup2
  omega

theorem roundup2_le (x : Nat) : roundup2 x ≤ 510 := min_le_left _ _

end

/-! ### What the caps let the part draw (R145 to R148) -/

/-- What the part draws beside the core at its caps. -/
def capDraw (s : State) : Nat :=
  ampCurrent s.settings s.se.gCeiling + motorCurrent s.settings s.rd.dBudget

/-- The caps spend no more than the released claim, and nothing while the claim-age guard holds. -/
def CapsFit (s : State) : Prop :=
  capDraw s ≤ s.bu.released - s.settings.iCore ∧ (s.bu.holding = true → capDraw s = 0)

section
variable (s : State)

/-- The amplifier draws at its ceiling what it draws at the demand held to the ceiling. -/
theorem ampCurrent_gainCeiling_le :
    ampCurrent s.settings (gainCeiling s) ≤
      ampCurrent s.settings (min (gainDemand s) (gainCeiling s)) := by
  rcases le_total (gainCeiling s) (gainDemand s) with h | h
  · rw [min_eq_right h]
  · rw [min_eq_left h]
    exact (ampCurrent_ceilingFor_le _).trans (min_le_left _ _)

/-- The caps share out the grant base (R146, R147). -/
theorem capDraw_handCaps_le : capDraw (handCaps s) ≤ (grantBase s - s.settings.iCore).toNat := by
  have amp : ampCurrent s.settings (gainCeiling s) ≤ (grantBase s - s.settings.iCore).toNat :=
    (ampCurrent_ceilingFor_le _).trans (min_le_right _ _)
  have motor : motorCurrent s.settings (dutyCap s) ≤ (grantBase s - s.settings.iCore -
      ampCurrent s.settings (min (gainDemand s) (gainCeiling s))).toNat :=
    (motorCurrent_cap_le _).trans (min_le_right _ _)
  have held := ampCurrent_gainCeiling_le s
  show ampCurrent s.settings (gainCeiling s) + motorCurrent s.settings (dutyCap s) ≤ _
  omega

/-- The caps follow the demands (R146, R147). -/
theorem capDraw_handCaps_demand : capDraw (handCaps s) ≤
    ampCurrent s.settings (gainDemand s) + motorCurrent s.settings s.rd.dRes :=
  Nat.add_le_add ((ampCurrent_ceilingFor_le _).trans (min_le_left _ _))
    ((motorCurrent_cap_le _).trans (min_le_left _ _))

theorem grantBase_le : grantBase s ≤ s.bu.released ∧ (0 < grantBase s → grantBase s ≤ headroom s.bu) := by
  unfold grantBase
  split <;> omega

theorem grantBase_holding {s : State} (h : s.bu.holding = true) : grantBase s = 0 := if_pos (.inr h)

/-- The caps that are handed fit in the released claim (R145). -/
theorem handCaps_fit : CapsFit (handCaps s) := by
  have draw := capDraw_handCaps_le s
  have base := (grantBase_le s).1
  refine ⟨?_, fun hold => ?_⟩
  · show _ ≤ s.bu.released - s.settings.iCore
    omega
  · rw [grantBase_holding (s := s) hold] at draw
    omega

end

/-- Caps that fit stay so where caps, settings, guard and released claim stay. -/
theorem CapsFit.keep {s t : State} (h : CapsFit s) (hs : t.settings = s.settings)
    (hg : t.se.gCeiling = s.se.gCeiling) (hd : t.rd.dBudget = s.rd.dBudget)
    (hr : t.bu.released = s.bu.released) (hh : t.bu.holding = true → s.bu.holding = true) : CapsFit t := by
  have draw : capDraw t = capDraw s := by rw [capDraw, hs, hg, hd, capDraw]
  unfold CapsFit
  rw [draw, hs, hr]
  exact ⟨h.1, fun hk => h.2 (hh hk)⟩

end Sys2Proof.Machine
end

section
/-! SUPPORT. A recomputation ends with its caps within the released claim: a pass that lowers the claim calls
for a further one, and after the first lowering no pass spends more than the claim it leaves (R145 to R148,
R154; log 12). -/

namespace Sys2Proof.Machine

/-! ### One pass (R145, R148) -/

/-- `t` is what one pass makes of `s`: the caps are handed, and the released claim stays or is lowered. -/
structure Passed (s t : State) : Prop where
  settings : t.settings = s.settings
  state : t.ps.state = s.ps.state
  se : t.se = (handCaps s).se
  rd : t.rd = (handCaps s).rd
  room : headroom t.bu = headroom s.bu
  holding : t.bu.holding = s.bu.holding
  released : t.bu.released = s.bu.released ∨ t.bu.released = lowerClaim t ∧ t.se.gEff ≤ t.se.gTarget

section
variable (s : State)

theorem announce_bu (c : Nat) :
    (announce c s).bu = { s.bu with announced := some c, handedAt := some s.now } :=
  (announce_posts c s).bu

theorem announce_se (c : Nat) : (announce c s).se = s.se :=
  (congrArg State.se (announce_posts c s)).trans rfl

theorem announce_settings (c : Nat) : (announce c s).settings = s.settings := (announce_drivesAlone s c).settings

/-- The lower claim follows from the settings, the gain, the duty and the headroom (R150, R154). -/
theorem lowerClaim_congr {s t : State} (hs : t.settings = s.settings) (he : t.se = s.se) (hr : t.rd = s.rd)
    (hh : headroom t.bu = headroom s.bu) : lowerClaim t = lowerClaim s := by
  simp only [lowerClaim, wantedClaim, claimDemand, ownDraw, gainDemand, hs, he, hr, hh]

/-- The decisions let the released claim stand or lower it (R154). -/
theorem decideClaim_released : (decideClaim s).bu.released = s.bu.released ∨
    (decideClaim s).bu.released = lowerClaim s ∧ s.se.gEff ≤ s.se.gTarget := by
  have raised : (beginRaise s).bu.released = s.bu.released := by
    rw [beginRaise, announce_bu]
    rfl
  unfold decideClaim
  split
  · exact .inl rfl
  · split
    · exact .inl rfl
    · split
      · split
        · exact .inl raised
        · exact .inl rfl
      · split
        · split
          · exact .inl rfl
          · exact .inl raised
        · split
          · next h =>
            rw [announce_bu]
            exact .inr ⟨rfl, h.2⟩
          · exact .inl rfl

theorem decideClaim_se : (decideClaim s).se = s.se := by
  rcases decideClaim_cases s with h | h | h <;> rw [h]
  · exact announce_se _ _
  · exact announce_se _ _

theorem decideClaim_bu : headroom (decideClaim s).bu = headroom s.bu ∧
    (decideClaim s).bu.holding = s.bu.holding := by
  have h : (decideClaim s).bu = _ := (congrArg State.bu (decideClaim_budgets s)).trans rfl
  rw [h]
  exact ⟨rfl, rfl⟩

theorem recomputeOnce_passed : Passed s (recomputeOnce s) := by
  obtain ⟨flag, posts⟩ := examineOver_posts (handCaps s)
  have examined : (examineOver (handCaps s)).bu = { s.bu with overFlag := flag } := posts.bu
  have se : (examineOver (handCaps s)).se = (handCaps s).se := (congrArg State.se posts).trans rfl
  have drives := (examineOver_drivesAlone (handCaps s)).trans (decideClaim_drivesAlone _)
  have hse : (recomputeOnce s).se = (handCaps s).se := (decideClaim_se _).trans se
  have room : headroom (recomputeOnce s).bu = headroom (examineOver (handCaps s)).bu := (decideClaim_bu _).1
  have hold := (decideClaim_bu (examineOver (handCaps s))).2
  refine ⟨drives.settings, drives.state, hse, drives.rd, ?_, ?_, ?_⟩
  · rw [room, examined]
    rfl
  · exact hold.trans (by rw [examined])
  · refine (decideClaim_released _).imp (fun h => h.trans (by rw [examined])) fun ⟨h, hg⟩ => ⟨?_, ?_⟩
    · have lower : lowerClaim (recomputeOnce s) = lowerClaim (examineOver (handCaps s)) :=
        lowerClaim_congr (decideClaim_drivesAlone _).settings (decideClaim_se _) (decideClaim_drivesAlone _).rd
          room
      exact h.trans lower.symm
    · rw [hse, ← se]
      exact hg

end

section
variable {s t : State} (h : Passed s t)
include h

theorem Passed.gTarget : t.se.gTarget = s.se.gTarget := (congrArg Sound.gTarget h.se).trans rfl

theorem Passed.gEff : t.se.gEff = min s.se.gEff (gainCeiling s) := congrArg Sound.gEff h.se

theorem Passed.dRes : t.rd.dRes = s.rd.dRes :=
  (congrArg Rumble.dRes h.rd).trans rfl

theorem Passed.draws : capDraw t = capDraw (handCaps s) := by
  rw [capDraw, h.settings, h.se, h.rd]
  rfl

/-- A pass that leaves the released claim leaves its caps within it. -/
theorem Passed.fit (hr : t.bu.released = s.bu.released) : CapsFit t :=
  (handCaps_fit s).keep h.settings (congrArg Sound.gCeiling h.se) (congrArg Rumble.dBudget h.rd) hr
    fun hk => h.holding.symm.trans hk

/-- A pass that leaves the released claim leaves the grant base. -/
theorem Passed.base (hr : t.bu.released = s.bu.released) : grantBase t = grantBase s := by
  rw [grantBase, grantBase, h.state, h.holding, h.room, hr]

end

/-! ### After the claim is lowered (R154) -/

/-- The gain has come down to its target, and a released claim that a lowering can leave stands. -/
def Lowered (s : State) : Prop := s.se.gEff ≤ s.se.gTarget ∧ s.bu.released ≤ 510

theorem lowerClaim_le (s : State) : lowerClaim s ≤ 510 := by
  have demand := roundup2_le (claimDemand s)
  have draw := roundup2_le (ownDraw s)
  have least : leastClaim s.settings ≤ 510 := roundup2_le _
  unfold lowerClaim wantedClaim
  omega

section
variable {s t : State} (h : Passed s t)
include h

theorem Passed.lowered_of_changed (hr : t.bu.released ≠ s.bu.released) : Lowered t := by
  obtain ⟨hl, hg⟩ := h.released.resolve_left hr
  exact ⟨hg, hl ▸ lowerClaim_le t⟩

theorem Passed.lowered (hs : Lowered s) : Lowered t := by
  by_cases hr : t.bu.released = s.bu.released
  · refine ⟨?_, hr ▸ hs.2⟩
    rw [h.gEff, h.gTarget]
    exact (min_le_left _ _).trans hs.1
  · exact h.lowered_of_changed hr

/-- From a lowered claim every pass leaves its caps within the claim it leaves: the demand is the target's,
and the claim is never lowered below it. -/
theorem Passed.fit_of_lowered (hs : Lowered s) : CapsFit t := by
  by_cases hr : t.bu.released = s.bu.released
  · exact h.fit hr
  obtain ⟨hl, hg⟩ := h.released.resolve_left hr
  obtain ⟨low, small⟩ := hs
  have demand : gainDemand t = gainDemand s := by
    have gTarget := h.gTarget
    unfold gainDemand
    omega
  have drawn := capDraw_handCaps_le s
  have asked := capDraw_handCaps_demand s
  obtain ⟨base, room⟩ := grantBase_le s
  have wanted : wantedClaim t ≤ t.bu.released := hl ▸ le_max_left _ _
  have claimed : claimDemand t = s.settings.iCore + ampCurrent s.settings (gainDemand s) +
      motorCurrent s.settings s.rd.dRes := by
    rw [claimDemand, h.settings, demand, h.dRes]
  refine ⟨?_, fun hold => h.draws.trans ((handCaps_fit s).2 (h.holding.symm.trans hold))⟩
  rw [h.draws, h.settings]
  rcases Nat.eq_zero_or_pos (capDraw (handCaps s)) with h0 | hpos
  · omega
  · have least : s.settings.iCore + capDraw (handCaps s) ≤ roundup2 (claimDemand t) :=
      le_roundup2 (by omega) (by omega)
    have held : (s.settings.iCore + capDraw (handCaps s) : Nat) ≤
        (min (roundup2 (claimDemand t) : Int) (headroom t.bu)).toNat := by
      have hroom := h.room
      omega
    have above : (min (roundup2 (claimDemand t) : Int) (headroom t.bu)).toNat ≤ wantedClaim t :=
      le_max_right _ _
    omega

end

theorem recomputeUpTo_fit_of_lowered (n : Nat) {s : State} (h : Lowered s) :
    CapsFit (recomputeUpTo recomputeOnce (n + 1) s) := by
  induction n generalizing s with
  | zero =>
    rw [recomputeUpTo, recomputeUpTo, ite_self]
    exact (recomputeOnce_passed s).fit_of_lowered h
  | succ n ih =>
    rw [recomputeUpTo]
    split
    · exact (recomputeOnce_passed s).fit_of_lowered h
    · exact ih ((recomputeOnce_passed s).lowered h)

/-! ### Without a lowering the values come to rest (R145, R148) -/

/-- The gain stands at or below the ceiling that a pass would hand. -/
def Held (s : State) : Prop := s.se.gEff ≤ gainCeiling s

/-- A pass would hand back the gain and the duty that stand. -/
structure Rested (s : State) : Prop where
  held : Held s
  cap : s.rd.dBudget = dutyCap s
  duty : s.rd.dEff = effectiveDuty s.settings s.ps.state s.rd

section
variable {s t : State} (h : Passed s t) (hr : t.bu.released = s.bu.released)
include h hr

theorem Passed.held : Held t := by
  have gEff : t.se.gEff ≤ gainCeiling s := h.gEff ▸ min_le_right _ _
  have base : ampCurrent t.settings t.se.gEff ≤ (grantBase t - t.settings.iCore).toNat := by
    rw [h.base hr, h.settings]
    exact ((ampCurrent_mono _ gEff).trans (ampCurrent_ceilingFor_le _)).trans (min_le_right _ _)
  exact le_ceilingFor _ (gEff.trans (ceilingFor_le _))
    (le_min (ampCurrent_mono _ (le_max_right _ _)) base)

theorem Passed.rested (hs : Held s) : Rested t := by
  have gEff : t.se.gEff = s.se.gEff := h.gEff.trans (min_eq_left hs)
  have demand : gainDemand t = gainDemand s := by rw [gainDemand, h.gTarget, gEff, gainDemand]
  have ceiling : gainCeiling t = gainCeiling s := by
    rw [gainCeiling, soundShare, h.settings, demand, h.base hr, gainCeiling, soundShare]
  have cap : dutyCap t = dutyCap s := by
    rw [dutyCap, motorShare, h.settings, h.dRes, demand, ceiling, h.base hr, dutyCap, motorShare]
  refine ⟨h.held hr, (congrArg Rumble.dBudget h.rd).trans cap.symm, ?_⟩
  rw [h.rd, h.settings, h.state]
  rfl

/-- From rest a pass that leaves the released claim hands back what stood. -/
theorem Passed.echo (hs : Rested s) : budgetEcho t = budgetEcho s := by
  have gEff : t.se.gEff = s.se.gEff := h.gEff.trans (min_eq_left hs.held)
  have record : ({ s.rd with dBudget := dutyCap s } : Rumble) = s.rd := by rw [← hs.cap]
  have dEff : t.rd.dEff = s.rd.dEff := by
    have handed : (handCaps s).rd.dEff =
        effectiveDuty s.settings s.ps.state { s.rd with dBudget := dutyCap s } := rfl
    rw [h.rd, handed, record, hs.duty]
  rw [budgetEcho, gEff, dEff, hr, budgetEcho]

end

theorem released_of_echo {s t : State} (h : budgetEcho t = budgetEcho s) :
    t.bu.released = s.bu.released := congrArg (·.2.2) h

/-- A pass leaves the caps within the claim, or lowers it, and then the further ones do. -/
theorem recomputeUpTo_fit_of_next (n : Nat) {s : State}
    (next : (recomputeOnce s).bu.released = s.bu.released →
      budgetEcho (recomputeOnce s) ≠ budgetEcho s →
      CapsFit (recomputeUpTo recomputeOnce (n + 1) (recomputeOnce s))) :
    CapsFit (recomputeUpTo recomputeOnce (n + 2) s) := by
  have passed := recomputeOnce_passed s
  rw [recomputeUpTo]
  split
  · next he => exact passed.fit (released_of_echo he)
  · next he =>
    by_cases hr : (recomputeOnce s).bu.released = s.bu.released
    · exact next hr he
    · exact recomputeUpTo_fit_of_lowered n (passed.lowered_of_changed hr)

/-- Every recomputation ends with its caps within the released claim: the third pass at the latest hands back
what stood, or the claim has been lowered. -/
theorem recompute_fit (s : State) : CapsFit (recompute s) :=
  recomputeUpTo_fit_of_next 6 fun hr _ =>
    recomputeUpTo_fit_of_next 5 fun hr' _ =>
      recomputeUpTo_fit_of_next 4 fun hr'' he =>
        absurd ((recomputeOnce_passed _).echo hr''
          ((recomputeOnce_passed _).rested hr' ((recomputeOnce_passed s).held hr))) he

end Sys2Proof.Machine
end

section
/-! SUPPORT. The claim record's laws, and what the Budget Unit's own steps make of them (R144, R150 to R158). -/

namespace Sys2Proof.Machine

/-! ### The laws beside the caps -/

/-- What `ClaimSound` says of the claim record and of the CLAIMs on their way. -/
structure ClaimLaws (s : State) : Prop where
  unacked : s.bu.acked = none → s.bu.holding = true
  acked : ∀ c t, s.bu.acked = some (c, t) → s.bu.released ≤ c
  out : ∀ c, ClaimOut s c → s.bu.released ≤ c
  announced : ∀ c, s.bu.raise = none → s.bu.announced = some c → s.bu.released = c
  raise : ∀ r, s.bu.raise = some r →
    s.bu.announced = some r.planned ∧ s.bu.released ≤ r.planned ∧ leastClaim s.settings ≤ r.planned ∧
    ∀ t, r.settleStart = some t →
      (∃ u, s.bu.acked = some (r.planned, u)) ∧ ∀ c, ClaimOut s c → c = r.planned
  newest : ∀ p q c, s.lif.sending = some p → p.isClaim = true → q ∈ s.lif.queue → q.claimOf = some c →
    s.bu.announced = some c
  least : leastClaim s.settings ≤ s.bu.released
  doze : s.ps.state = .doze → s.bu.raise = none ∧ s.bu.released = leastClaim s.settings

/-- The part of the Budget Unit that the laws speak of. -/
def Budget.record (b : Budget) := (b.acked, b.holding, b.released, b.announced, b.raise)

theorem ClaimOut.queued {s : State} {c : Nat} {p : TxPost} (h : p ∈ s.lif.queue) (hp : p.claimOf = some c) :
    ClaimOut s c := ⟨p, .inl h, hp⟩

theorem ClaimOut.sent {s : State} {c : Nat} {p : TxPost} (h : s.lif.sending = some p)
    (hp : p.claimOf = some c) : ClaimOut s c := ⟨p, .inr h, hp⟩

section
variable {s t : State}

/-- The laws hold on where the record stays and no CLAIM is new. -/
theorem ClaimLaws.congr (h : ClaimLaws s) (hb : t.bu.record = s.bu.record) (hs : t.settings = s.settings)
    (hp : t.ps.state = s.ps.state) (out : ∀ c, ClaimOut t c → ClaimOut s c)
    (newest : ∀ p q c, t.lif.sending = some p → p.isClaim = true → q ∈ t.lif.queue →
      q.claimOf = some c → s.bu.announced = some c) : ClaimLaws t := by
  simp only [Budget.record, Prod.mk.injEq] at hb
  obtain ⟨acked, holding, released, announced, raise⟩ := hb
  constructor
  · rw [acked, holding]; exact h.unacked
  · rw [acked, released]; exact h.acked
  · rw [released]; exact fun c hc => h.out c (out c hc)
  · rw [raise, announced, released]; exact h.announced
  · rw [raise, announced, released, acked, hs]
    intro r hr
    obtain ⟨hann, hrel, hleast, hopen⟩ := h.raise r hr
    refine ⟨hann, hrel, hleast, fun u hu => ?_⟩
    obtain ⟨hack, hout⟩ := hopen u hu
    exact ⟨hack, fun c hc => hout c (out c hc)⟩
  · rw [announced]; exact newest
  · rw [hs, released]; exact h.least
  · rw [hp, raise, released, hs]; exact h.doze

theorem HandsNoClaim.out (h : HandsNoClaim s t) (hs : t.lif.sending = s.lif.sending) {c : Nat}
    (hc : ClaimOut t c) : ClaimOut s c := by
  obtain ⟨p, hp, hpc⟩ := hc
  exact ⟨p, hp.imp (fun hq => h p hq (TxPost.isClaim_iff.2 ⟨c, hpc⟩)) fun hq => hs ▸ hq, hpc⟩

/-- The laws hold on where the record stays, no CLAIM is handed and the sending goes on. -/
theorem ClaimLaws.stand (h : ClaimLaws s) (hb : t.bu.record = s.bu.record) (hs : t.settings = s.settings)
    (hp : t.ps.state = s.ps.state) (hl : t.lif.sending = s.lif.sending) (k : HandsNoClaim s t) :
    ClaimLaws t :=
  h.congr hb hs hp (fun _ hc => k.out hl hc) fun p q c hsend hclaim hq hc =>
    h.newest p q c (hl ▸ hsend) hclaim (k q hq (TxPost.isClaim_iff.2 ⟨c, hc⟩)) hc

/-- The laws hold on when the sending has ended and no CLAIM is new. -/
theorem ClaimLaws.unsent (h : ClaimLaws s) (hb : t.bu.record = s.bu.record) (hs : t.settings = s.settings)
    (hp : t.ps.state = s.ps.state) (hl : t.lif.sending = none)
    (out : ∀ c, ClaimOut t c → ClaimOut s c) : ClaimLaws t :=
  h.congr hb hs hp out fun p _ _ hsend => by rw [hl] at hsend; cases hsend

end

/-! ### Announcing (R144) -/

/-- The record may announce `c`: it is what a raise plans, or what is released without one, and no CLAIM that
is being sent stands against it. -/
structure Announces (s : State) (c : Nat) : Prop where
  unacked : s.bu.acked = none → s.bu.holding = true
  acked : ∀ d t, s.bu.acked = some (d, t) → s.bu.released ≤ d
  sent : ∀ p d, s.lif.sending = some p → p.claimOf = some d → s.bu.released ≤ d
  released : s.bu.released ≤ c
  settled : s.bu.raise = none → s.bu.released = c
  raise : ∀ r, s.bu.raise = some r → r.planned = c ∧ ∀ t, r.settleStart = some t →
    (∃ u, s.bu.acked = some (c, u)) ∧ ∀ p d, s.lif.sending = some p → p.claimOf = some d → d = c
  least : leastClaim s.settings ≤ s.bu.released
  doze : s.ps.state = .doze → s.bu.raise = none ∧ s.bu.released = leastClaim s.settings

section
variable {s : State} {c : Nat}

theorem announce_sending (c : Nat) (s : State) : (announce c s).lif.sending = s.lif.sending :=
  (congrArg (·.lif.sending) (announce_posts c s)).trans rfl

/-- A CLAIM that waits after an announcement is the one announced. -/
theorem announce_queued {q : TxPost} {d : Nat} (hq : q ∈ (announce c s).lif.queue)
    (hd : q.claimOf = some d) : d = c := by
  have newest := handPost_claim (p := s.post 1 Config.allStations (.claim c)) rfl hq
    (TxPost.isClaim_iff.2 ⟨d, hd⟩)
  rw [newest] at hd
  exact (Option.some.inj hd).symm

theorem Announces.laws (h : Announces s c) : ClaimLaws (announce c s) := by
  have bu := announce_bu s c
  have out {d : Nat} (hd : ClaimOut (announce c s) d) :
      d = c ∨ ∃ p, s.lif.sending = some p ∧ p.claimOf = some d := by
    obtain ⟨p, hp | hp, hpd⟩ := hd
    · exact .inl (announce_queued hp hpd)
    · exact .inr ⟨p, announce_sending c s ▸ hp, hpd⟩
  constructor
  · rw [bu]; exact h.unacked
  · rw [bu]; exact h.acked
  · rw [bu]
    intro d hd
    rcases out hd with rfl | ⟨p, hp, hpd⟩
    · exact h.released
    · exact h.sent p d hp hpd
  · rw [bu]
    rintro d hr ⟨⟩
    exact h.settled hr
  · rw [bu, announce_settings]
    intro r hr
    obtain ⟨rfl, hopen⟩ := h.raise r hr
    refine ⟨rfl, h.released, h.least.trans h.released, fun t ht => ⟨(hopen t ht).1, fun d hd => ?_⟩⟩
    rcases out hd with rfl | ⟨p, hp, hpd⟩
    · rfl
    · exact (hopen t ht).2 p d hp hpd
  · rw [bu]
    intro p q d _ _ hq hd
    rw [announce_queued hq hd]
  · rw [bu, announce_settings]; exact h.least
  · rw [bu, announce_settings, (announce_drivesAlone s c).state]; exact h.doze

/-- The CLAIM announced last may be announced again (R151, R155). -/
theorem ClaimLaws.repeated (h : ClaimLaws s) (ha : s.bu.announced = some c) : Announces s c where
  unacked := h.unacked
  acked := h.acked
  sent _ d hp hd := h.out d (.sent hp hd)
  released := by
    cases hr : s.bu.raise with
    | none => exact (h.announced c hr ha).le
    | some r =>
      obtain ⟨hann, hrel, -⟩ := h.raise r hr
      rw [ha] at hann
      exact Option.some.inj hann ▸ hrel
  settled hr := h.announced c hr ha
  raise r hr := by
    obtain ⟨hann, -, -, hopen⟩ := h.raise r hr
    rw [ha] at hann
    obtain rfl := Option.some.inj hann
    exact ⟨rfl, fun t ht => ⟨(hopen t ht).1, fun p d hp hd => (hopen t ht).2 d (.sent hp hd)⟩⟩
  least := h.least
  doze := h.doze

/-- A raise may begin, or start over, at any claim above the released one (R150, R151). -/
theorem ClaimLaws.raised (h : ClaimLaws s) (hp : s.ps.state ≠ .doze) (hc : s.bu.released ≤ c) :
    Announces (s.withBu { s.bu with raise := some { planned := c, settleStart := none } }) c where
  unacked := h.unacked
  acked := h.acked
  sent _ d hp hd := h.out d (.sent hp hd)
  released := hc
  settled hr := by cases hr
  raise r hr := by
    cases hr
    exact ⟨rfl, fun _ => nofun⟩
  least := h.least
  doze hd := absurd hd hp

/-- Without a raise the released claim may come down, no further than to the least claim (R154, R155, R158). -/
theorem ClaimLaws.lowered (h : ClaimLaws s) {t : State} (ha : t.bu.acked = s.bu.acked)
    (hh : t.bu.holding = s.bu.holding) (hr : t.bu.raise = none) (hb : t.bu.released = c)
    (hc : c ≤ s.bu.released) (hm : leastClaim s.settings ≤ c)
    (hd : t.ps.state = .doze → c = leastClaim s.settings) (hs : t.settings = s.settings := by rfl)
    (hl : t.lif.sending = s.lif.sending := by rfl) : Announces t c where
  unacked hn := hh.trans (h.unacked (ha.symm.trans hn))
  acked d u hk := hb.trans_le (hc.trans (h.acked d u (ha.symm.trans hk)))
  sent _ d hp hpd := hb.trans_le (hc.trans (h.out d (.sent (hl.symm.trans hp) hpd)))
  released := hb.le
  settled _ := hb
  raise r hk := by
    rw [hr] at hk
    cases hk
  least := hs ▸ hm.trans_eq hb.symm
  doze hp := ⟨hr, hb.trans (hs ▸ hd hp)⟩

end

/-! ### The recomputation's decisions (R150, R151, R154) -/

section
variable {s : State}

theorem leastClaim_le_wantedClaim (s : State) : leastClaim s.settings ≤ wantedClaim s := le_max_left _ _

theorem leastClaim_le_lowerClaim (s : State) : leastClaim s.settings ≤ lowerClaim s :=
  (leastClaim_le_wantedClaim s).trans (le_max_left _ _)

theorem decideClaim_laws (h : ClaimLaws s) : ClaimLaws (decideClaim s) := by
  unfold decideClaim
  split
  · exact h
  · next ann ha =>
    split
    · exact h
    · next hp =>
      have awake : s.ps.state ≠ .doze := by
        rw [not_not.1 hp]
        exact nofun
      split
      · next r hr =>
        split
        · next hw => exact (h.raised awake ((h.raise r hr).2.1.trans hw.le)).laws
        · exact h
      · next hr =>
        have settled := h.announced ann hr ha
        split
        · split
          · exact h
          · next hw _ => exact (h.raised awake (settled.trans_le hw.le)).laws
        · split
          · next hl =>
            exact (h.lowered (c := lowerClaim s) (t := s.withBu { s.bu with released := lowerClaim s }) rfl
              rfl hr rfl (by omega) (leastClaim_le_lowerClaim s) fun hd => absurd hd awake).laws
          · exact h

theorem handCaps_laws (h : ClaimLaws s) : ClaimLaws (handCaps s) := h.stand rfl rfl rfl rfl (.refl s)

theorem examineOver_handsNoClaim (s : State) : HandsNoClaim s (examineOver s) := by
  unfold examineOver
  dsimp only
  split
  · exact raiseNotice_handsNoClaim (s.withBu _) _
  · exact .refl s

theorem examineOver_laws (h : ClaimLaws s) : ClaimLaws (examineOver s) := by
  obtain ⟨flag, posts⟩ := examineOver_posts s
  have alone := examineOver_drivesAlone s
  refine h.stand ?_ alone.settings alone.state ((congrArg (·.lif.sending) posts).trans rfl)
    (examineOver_handsNoClaim s)
  rw [posts.bu]
  rfl

theorem recomputeOnce_laws (h : ClaimLaws s) : ClaimLaws (recomputeOnce s) :=
  decideClaim_laws (examineOver_laws (handCaps_laws h))

theorem recomputeUpTo_laws (n : Nat) (h : ClaimLaws s) : ClaimLaws (recomputeUpTo recomputeOnce n s) := by
  induction n generalizing s with
  | zero => exact h
  | succ n ih =>
    rw [recomputeUpTo]
    split
    · exact recomputeOnce_laws h
    · exact ih (recomputeOnce_laws h)

theorem recompute_laws (h : ClaimLaws s) : ClaimLaws (recompute s) := recomputeUpTo_laws 8 h

end

/-! ### Served parts -/

/-- The claim record and the caps are in order. -/
def Served (s : State) : Prop := ClaimLaws s ∧ CapsFit s

/-- The step from `s` to `t` keeps the power state, the reservation and the claim record in order. -/
structure Keeps (s t : State) : Prop where
  state : t.ps.state = s.ps.state
  duty : DutyReserved s → DutyReserved t
  claims : Served s → Served t

section
variable {s t u : State}

theorem recompute_served (h : ClaimLaws s) : Served (recompute s) := ⟨recompute_laws h, recompute_fit s⟩

theorem Keeps.refl (s : State) : Keeps s s := ⟨rfl, id, id⟩

theorem Keeps.trans (h : Keeps s t) (k : Keeps t u) : Keeps s u :=
  ⟨k.state.trans h.state, fun hd => k.duty (h.duty hd), fun hc => k.claims (h.claims hc)⟩

theorem Keeps.serving (h : Keeps s t) : t.serving = s.serving := by
  rw [State.serving, h.state, State.serving]

/-- The duty's reservation, taken apart. -/
theorem dutyReserved_iff (s : State) : DutyReserved s ↔ s.rd.Reserved s.settings.testDuty ∧
    (s.ps.state = .starting ∨ s.ps.state = .keep → s.rd.check = none ∧ s.lif.inbox = []) :=
  ⟨fun ⟨duty, owed, check, rest, start, peak, ramp, test, idle⟩ =>
    ⟨⟨duty, owed, check, rest, start, peak, ramp, test⟩, idle⟩,
  fun ⟨⟨duty, owed, check, rest, start, peak, ramp, test⟩, idle⟩ =>
    ⟨duty, owed, check, rest, start, peak, ramp, test, idle⟩⟩

theorem Beside.duty (h : Beside s t) (hd : DutyReserved s) : DutyReserved t := by
  obtain ⟨reserved, idle⟩ := (dutyReserved_iff s).1 hd
  refine (dutyReserved_iff t).2 ⟨h.settings ▸ h.reserved reserved, fun hp => ?_⟩
  rw [h.inbox]
  exact (idle (h.state ▸ hp)).imp_left h.unchecked

theorem Beside.laws (h : Beside s t) (hl : ClaimLaws s) : ClaimLaws t :=
  hl.stand (congrArg Budget.record h.bu) h.settings h.state h.sending h.claims

theorem Beside.fit (h : Beside s t) (hf : CapsFit s) : CapsFit t :=
  hf.keep h.settings h.gCeiling h.dBudget (congrArg Budget.released h.bu)
    fun hk => (congrArg Budget.holding h.bu).symm.trans hk

theorem Beside.keeps (h : Beside s t) : Keeps s t :=
  ⟨h.state, h.duty, fun ⟨laws, fit⟩ => ⟨h.laws laws, h.fit fit⟩⟩

/-- The Budget Unit's own steps touch neither the reservation nor the inbox. -/
theorem Budgets.duty (h : Budgets s t) (hd : DutyReserved s) : DutyReserved t := by
  obtain ⟨reserved, idle⟩ := (dutyReserved_iff s).1 hd
  have rd : t.rd = _ := (congrArg State.rd h).trans rfl
  have aside := h.aside
  refine (dutyReserved_iff t).2 ⟨?_, ?_⟩
  · rw [aside.settings, rd]
    exact reserved.congr
  · rw [aside.ps, aside.inbox, rd]
    exact idle

theorem recompute_keeps (s : State) : Keeps s (recompute s) :=
  ⟨congrArg Power.state (recompute_aside s).ps, (recompute_budgets s).duty, fun h => recompute_served h.1⟩

/-- The Budget Unit is replaced and recomputes: the laws alone need to hold before. -/
theorem recomputeWith_keeps {b : Budget} (h : ClaimLaws s → ClaimLaws (s.withBu b)) :
    Keeps s (recomputeWith b s) :=
  ⟨(recompute_keeps (s.withBu b)).state, fun hd => (recompute_keeps (s.withBu b)).duty hd,
    fun hc => recompute_served (h hc.1)⟩

/-- A change of the Budget Unit beside the claim record is followed by a recomputation. -/
theorem recomputeWith_keeps_record {b : Budget} (h : b.record = s.bu.record) :
    Keeps s (recomputeWith b s) :=
  recomputeWith_keeps fun hl => hl.stand h rfl rfl rfl (.refl s)

end

end Sys2Proof.Machine
end

section
/-! SUPPORT. The Budget Unit's posts, timers and claim outcomes keep the claim record in order (R140 to R144,
R151 to R156). -/

namespace Sys2Proof.Machine

section
variable {s t : State} {c : Nat}

/-! ### Reports, and what the Budget Unit follows (R145, R153) -/

theorem Keeps.granted (h : Keeps s t) : Keeps s (grant t) := h.trans (grant_beside t).keeps

theorem recomputeSince_keeps (s₀ s : State) : Keeps s (recomputeSince s₀ s) := by
  unfold recomputeSince
  split
  · exact .refl s
  · exact recompute_keeps s

theorem report_keeps (s : State) : Keeps s (report s) :=
  takeReport_beside.keeps.trans (recomputeSince_keeps _ _)

theorem budgetFollow_keeps (s₀ s : State) : Keeps s (budgetFollow s₀ s) := by
  unfold budgetFollow
  dsimp only
  split
  · exact (recomputeSince_keeps s₀ s).trans (report_keeps _)
  · exact recomputeSince_keeps s₀ s

/-! ### Allowance and peers (R140 to R143) -/

theorem handAllowance_keeps (source : Nat) (payload : List Byte) :
    Keeps s (handAllowance source payload s) := by
  unfold handAllowance
  split
  · split
    · exact recomputeWith_keeps_record rfl
    · exact .refl s
  · exact .refl s

theorem handClaim_keeps (source : Nat) (payload : List Byte) : Keeps s (handClaim source payload s) := by
  unfold handClaim
  split
  · split
    · exact recomputeWith_keeps_record rfl
    · exact .refl s
  · exact .refl s

theorem allowanceExpiry_keeps : Keeps s (allowanceExpiry s) := by
  unfold allowanceExpiry
  split
  · exact .refl s
  · split
    · exact (reach_beside s _).keeps.trans (recomputeWith_keeps_record rfl)
    · exact .refl s

theorem peerExpiry_keeps (station : Nat) : Keeps s (peerExpiry station s) := by
  unfold peerExpiry
  split
  · exact .refl s
  · exact (reach_beside s _).keeps.trans (recomputeWith_keeps_record rfl)

/-! ### The raise's release and the listen period (R152, R153, R157) -/

theorem Announces.congr (h : Announces s c) (hb : t.bu.record = s.bu.record)
    (hs : t.settings = s.settings) (hp : t.ps.state = s.ps.state)
    (hl : t.lif.sending = s.lif.sending) : Announces t c := by
  simp only [Budget.record, Prod.mk.injEq] at hb
  obtain ⟨acked, holding, released, announced, raise⟩ := hb
  constructor
  · rw [acked, holding]; exact h.unacked
  · rw [acked, released]; exact h.acked
  · rw [hl, released]; exact h.sent
  · rw [released]; exact h.released
  · rw [raise, released]; exact h.settled
  · rw [raise, acked, hl]; exact h.raise
  · rw [hs, released]; exact h.least
  · rw [hp, raise, released, hs]; exact h.doze

/-- The record after a raise is over at `c`: the other fields of the Budget Unit may change. -/
structure ReleasedAt (s : State) (c : Nat) (b : Budget) : Prop where
  acked : b.acked = s.bu.acked
  holding : b.holding = s.bu.holding
  announced : b.announced = s.bu.announced
  released : b.released = c
  raise : b.raise = none

section
variable {r : Raise} {u : Nat} (h : ClaimLaws s) (hr : s.bu.raise = some r) (hu : r.settleStart = some u)
include h hr hu

/-- With its window open a raise may be released at any claim up to the one planned (R152). -/
theorem ClaimLaws.releases {b : Budget} (hb : ReleasedAt s c b) (hc : c ≤ r.planned)
    (hm : leastClaim s.settings ≤ c) : Announces (s.withBu b) c := by
  obtain ⟨hack, hout⟩ := (h.raise r hr).2.2.2 u hu
  refine ⟨fun hn => hb.holding.trans (h.unacked (hb.acked.symm.trans hn)), fun d t hk => ?_,
    fun p d hp hd => ?_, hb.released.le, fun _ => hb.released, fun q hq => ?_,
    hm.trans_eq hb.released.symm, fun hp => ?_⟩
  · obtain ⟨v, hv⟩ := hack
    have same := hv.symm.trans (hb.acked.symm.trans hk)
    obtain ⟨rfl, -⟩ := Prod.mk.inj (Option.some.inj same)
    exact hb.released.trans_le hc
  · rw [hout d (.sent hp hd)]
    exact hb.released.trans_le hc
  · have none : b.raise = some q := hq
    rw [hb.raise] at none
    cases none
  · have none := (h.doze hp).1
    rw [hr] at none
    cases none

/-- A raise released as planned needs no further CLAIM (R152). -/
theorem ClaimLaws.released {b : Budget} (hb : ReleasedAt s r.planned b) : ClaimLaws (s.withBu b) := by
  obtain ⟨hann, -, hleast, hopen⟩ := h.raise r hr
  obtain ⟨-, hout⟩ := hopen u hu
  have ready := h.releases hr hu hb le_rfl hleast
  refine ⟨ready.unacked, ready.acked, fun d hd => ?_, fun d _ hd => ?_, fun q hq => ?_,
    fun p q d hp hk hq hd => hb.announced.trans (h.newest p q d hp hk hq hd), ready.least, ready.doze⟩
  · rw [hout d hd]
    exact hb.released.le
  · have planned := hann.symm.trans (hb.announced.symm.trans hd)
    exact hb.released.trans (Option.some.inj planned)
  · have none : b.raise = some q := hq
    rw [hb.raise] at none
    cases none

omit h hr hu in
theorem markYielding_record (b : Budget) (own n : Nat) : (b.markYielding own n).record = b.record := by
  simp only [Budget.record, Budget.markYielding]

theorem releaseRaise_laws (n : Nat) : ClaimLaws (releaseRaise r n s) := by
  have hleast : leastClaim s.settings ≤ r.planned := (h.raise r hr).2.2.1
  unfold releaseRaise
  dsimp only
  generalize hb : s.bu.markYielding s.lif.own n = b
  have marked : b.record = s.bu.record := hb ▸ markYielding_record s.bu _ _
  simp only [Budget.record, Prod.mk.injEq] at marked
  obtain ⟨acked, holding, -, announced, -⟩ := marked
  generalize hc : releasedClaim s.settings b r.planned = c
  have within : leastClaim s.settings ≤ c ∧ c ≤ r.planned := by
    rw [← hc, releasedClaim]
    omega
  have ended : ReleasedAt s c { b with released := c, raise := none } :=
    ⟨acked, holding, announced, rfl, rfl⟩
  apply recompute_laws
  split
  · have ready := h.releases hr hu ended within.2 within.1
    obtain ⟨flag, posts⟩ := examineOver_posts (handCaps (s.withBu { b with released := c, raise := none }))
    have alone := examineOver_drivesAlone (handCaps (s.withBu { b with released := c, raise := none }))
    refine (ready.congr ?_ alone.settings alone.state ((congrArg (·.lif.sending) posts).trans rfl)).laws
    rw [posts.bu]
    rfl
  · next hk =>
    obtain rfl : c = r.planned := by omega
    exact examineOver_laws (handCaps_laws (h.released hr hu ended))

end

/-- What a release leaves: the laws need to hold before, and the caps fit behind. -/
theorem releaseRaise_keeps {r : Raise} {u : Nat} (hr : s.bu.raise = some r) (hu : r.settleStart = some u)
    (n : Nat) : Keeps s (releaseRaise r n s) := by
  have aside := releaseRaise_aside r n s
  refine ⟨congrArg Power.state aside.ps, fun hd => ?_, fun hc => ⟨releaseRaise_laws hc.1 hr hu n, ?_⟩⟩
  · have capped (b : Budget) : DutyReserved (examineOver (handCaps (s.withBu b))) :=
      ((handCaps_budgets (s.withBu b)).trans (examineOver_budgets _)).duty hd
    unfold releaseRaise
    dsimp only
    apply (recompute_keeps _).duty
    split
    · exact (announce_budgets _ _).duty (capped _)
    · exact capped _
  · unfold releaseRaise
    exact recompute_fit _

theorem settleExpiry_keeps : Keeps s (settleExpiry s) := by
  unfold settleExpiry
  split
  · exact .refl s
  · next r hr =>
    split
    · exact .refl s
    · next u hu =>
      have raised : (reach (u + Config.settleCounts) s).bu.raise = some r := by rw [reach_bu, hr]
      have released := (reach_beside s (u + Config.settleCounts)).keeps.trans
        (releaseRaise_keeps raised hu u)
      dsimp only
      split
      · exact (released.trans (report_keeps _)).granted
      · exact released.granted

theorem listenExpiry_keeps : Keeps s (listenExpiry s) := by
  unfold listenExpiry
  split
  · exact .refl s
  · next u _ =>
    have ended : Keeps s (recomputeWith { (reach u s).bu with listenEnd := none } (reach u s)) :=
      (reach_beside s u).keeps.trans (recomputeWith_keeps_record rfl)
    dsimp only
    split
    · exact (ended.trans (report_keeps _)).granted
    · exact ended.granted

/-! ### Refresh, claim age and outcomes (R144, R151, R155, R156) -/

/-- The CLAIM announced last is announced again: the record stands as it did. -/
theorem announce_keeps (h : s.bu.announced = some c) : Keeps s (announce c s) := by
  have alone := announce_drivesAlone s c
  refine ⟨alone.state, (announce_budgets c s).duty, fun hc => ⟨(hc.1.repeated h).laws, ?_⟩⟩
  exact hc.2.keep alone.settings alone.gCeiling (congrArg Rumble.dBudget alone.rd)
    (by rw [announce_bu]) fun hk => by rwa [announce_bu] at hk

/-- A lower claim is announced and released, and the caps follow. -/
theorem lowerRefresh_keeps (ha : s.bu.announced = some c) (hr : s.bu.raise = none)
    (hp : s.ps.state ≠ .doze) : Keeps s (recompute (announce (min c (lowerClaim s))
      (s.withBu { s.bu with released := min c (lowerClaim s) }))) := by
  generalize hd : min c (lowerClaim s) = d
  have aside := (announce_aside d (s.withBu { s.bu with released := d })).trans (recompute_aside _)
  refine ⟨congrArg Power.state aside.ps,
    fun hd => (recompute_keeps _).duty ((announce_budgets d (s.withBu _)).duty hd),
    fun ⟨laws, _⟩ => recompute_served (Announces.laws ?_)⟩
  have same := laws.announced c hr ha
  have lower : d ≤ s.bu.released := by omega
  have least : leastClaim s.settings ≤ d :=
    hd ▸ le_min (laws.least.trans_eq same) (leastClaim_le_lowerClaim s)
  exact laws.lowered rfl rfl hr rfl lower least fun hk => absurd hk hp

/-- In DOZE the least claim is the one announced. -/
theorem dozeRefresh_keeps (ha : s.bu.announced = some c) (hp : s.ps.state = .doze) :
    Keeps s (announce (leastClaim s.settings) s) := by
  refine ⟨(announce_drivesAlone s _).state, (announce_budgets _ s).duty, fun hc => ?_⟩
  obtain ⟨hr, hl⟩ := hc.1.doze hp
  have least : s.bu.announced = some (leastClaim s.settings) := by
    rw [ha, ← hc.1.announced c hr ha, hl]
  exact (announce_keeps least).claims hc

theorem refreshExpiry_keeps : Keeps s (refreshExpiry s) := by
  unfold refreshExpiry
  split
  · next u ann _ ha =>
    refine (reach_beside s (u + Config.refreshCounts)).keeps.trans ?_
    have announced : (reach (u + Config.refreshCounts) s).bu.announced = some ann := by
      rw [reach_bu, ha]
    generalize reach (u + Config.refreshCounts) s = t at announced
    dsimp only
    split
    · next hp => exact dozeRefresh_keeps announced hp
    · next hp =>
      split
      · exact announce_keeps announced
      · next hk =>
        simp only [Bool.or_eq_true, not_or, Option.not_isSome_iff_eq_none] at hk
        exact lowerRefresh_keeps announced hk.1.1 hp
  · exact .refl s

/-- The claim-age guard holds: the record stands as it did (R156). -/
theorem ClaimLaws.held (h : ClaimLaws s) : ClaimLaws (s.withBu { s.bu with holding := true }) :=
  ⟨fun _ => rfl, h.acked, h.out, h.announced, h.raise, h.newest, h.least, h.doze⟩

theorem ageExpiry_keeps : Keeps s (ageExpiry s) := by
  unfold ageExpiry
  split
  · exact .refl s
  · split
    · exact .refl s
    · exact (reach_beside s _).keeps.trans (recomputeWith_keeps .held)

/-- What is known when the CLAIM of `c` mA was the one being sent, and its sending is over. -/
structure WasSent (s : State) (c : Nat) : Prop where
  sending : s.lif.sending = none
  newest : ∀ q ∈ s.lif.queue, ∀ d, q.claimOf = some d → s.bu.announced = some d
  released : s.bu.released ≤ c
  opened : ∀ r t, s.bu.raise = some r → r.settleStart = some t → r.planned = c

/-- An acknowledged CLAIM (R144, R151, R156). -/
theorem claimAcked_laws (h : ClaimLaws s) (k : WasSent s c) (now : Nat) : ClaimLaws (s.withBu { s.bu with
    acked := some (c, now), holding := false
    raise := s.bu.raise.map fun r => if r.awaits c then { r with settleStart := some now } else r }) where
  unacked := nofun
  acked d t hk := by
    cases hk
    exact k.released
  out := h.out
  announced d hr := h.announced d (Option.map_eq_none_iff.1 hr)
  raise r' hr' := by
    obtain ⟨r, hr, rfl⟩ := Option.map_eq_some_iff.1 hr'
    obtain ⟨hann, hrel, hleast, hopen⟩ := h.raise r hr
    have planned : (if r.awaits c then { r with settleStart := some now } else r : Raise).planned =
        r.planned := by split <;> rfl
    rw [planned]
    refine ⟨hann, hrel, hleast, fun t ht => ?_⟩
    have sent : r.planned = c := by
      by_cases hw : r.awaits c = true
      · exact beq_iff_eq.1 (Bool.and_eq_true_iff.1 hw).2
      · rw [if_neg hw] at ht
        exact k.opened r t hr ht
    refine ⟨⟨now, by rw [sent]; rfl⟩, fun d ⟨q, hq, hd⟩ => ?_⟩
    have queued := hq.resolve_right fun hs => by
      have none := k.sending.symm.trans hs
      cases none
    exact (Option.some.inj (hann.symm.trans (k.newest q queued d hd))).symm
  newest p _ _ hp := by
    have none := k.sending.symm.trans hp
    cases none
  least := h.least
  doze hp := ⟨Option.map_eq_none_iff.2 (h.doze hp).1, (h.doze hp).2⟩

theorem Keeps.claimAcked (h : Keeps s t) (k : ClaimLaws s → WasSent t c) : Keeps s (claimAcked c t) := by
  unfold Machine.claimAcked
  dsimp only
  split
  · have after := recompute_keeps (t.withBu { t.bu with
      acked := some (c, t.now), holding := false
      raise := t.bu.raise.map fun r => if r.awaits c then { r with settleStart := some t.now } else r })
    exact ⟨after.state.trans h.state, fun hd => after.duty (h.duty hd),
      fun hc => recompute_served (claimAcked_laws (h.claims hc).1 (k hc.1) t.now)⟩
  · exact ⟨h.state, h.duty, fun hc =>
      ⟨claimAcked_laws (h.claims hc).1 (k hc.1) t.now, (h.claims hc).2.keep rfl rfl rfl rfl nofun⟩⟩

/-- A raise that waits for a CLAIM that failed announces it again (R151). -/
theorem claimFailed_keeps : Keeps s (claimFailed c s) := by
  unfold claimFailed
  split
  · next hw =>
    obtain ⟨r, hr, awaits⟩ := (Option.any_eq_true _ _).1 hw
    have planned : r.planned = c := beq_iff_eq.1 (Bool.and_eq_true_iff.1 awaits).2
    refine ⟨(announce_drivesAlone s c).state, (announce_budgets c s).duty, fun hc => ?_⟩
    exact (announce_keeps (planned ▸ (hc.1.raise r hr).1)).claims hc
  · exact .refl s

end

end Sys2Proof.Machine
end

section
/-! SUPPORT. Ticks, the line and the requests keep the reservation and the claim record in order (R57 to R67,
R118 to R135, R180 to R190). -/

namespace Sys2Proof.Machine

/-! ### Ticks and beats -/

section
variable (s : State)

/-- Outside ACTIVE a tick moves the heat alone (R67, R130). -/
theorem issueTick_beside (h : s.ps.state ≠ .active) : Beside s (issueTick s) := by
  have counted := withBtg_beside s { s.btg with tickCounter := (s.btg.tickCounter + 1) % 4294967296 }
  unfold issueTick
  dsimp only
  split
  · next hp => exact absurd hp h
  · exact counted.trans heatTick_beside
  · exact counted
  · exact counted

theorem issueTick_keeps : Keeps s (issueTick s) := by
  by_cases h : s.ps.state = .active
  · have moved := ((withBtg_beside s { s.btg with tickCounter := (s.btg.tickCounter + 1) % 4294967296 }).trans
      (soundTick_beside _)).trans rumbleTick_beside
    unfold issueTick
    dsimp only
    split
    · exact (moved.keeps.trans (budgetFollow_keeps _ _)).granted
    all_goals next hp => exact absurd (h.symm.trans hp) nofun
  · exact (issueTick_beside s h).keeps

theorem beginInterval_keeps : Keeps s (beginInterval s) :=
  (withBtg_beside s _).keeps.trans (issueTick_keeps _)

theorem beginInterval_beside (h : s.ps.state ≠ .active) : Beside s (beginInterval s) :=
  (withBtg_beside s _).trans (issueTick_beside _ h)

theorem issueNext_keeps : Keeps s (issueNext s) := (withBtg_beside s _).keeps.trans (issueTick_keeps _)

theorem catchUp_keeps (n : Nat) : Keeps s (catchUp n s) := by
  induction n generalizing s with
  | zero => exact .refl s
  | succ n ih => exact (issueTick_keeps s).trans (ih _)

theorem handBeat_keeps (source : Nat) (payload : List Byte) : Keeps s (handBeat source payload s) := by
  unfold handBeat
  split
  · split
    · exact .refl s
    · split
      · exact (count_beside s _).keeps
      · split
        · exact (count_beside s _).keeps
        · split
          · exact ((catchUp_keeps s _).trans (withBtg_beside _ _).keeps).trans (beginInterval_keeps _)
          · exact (withBtg_beside s _).keeps.trans (beginInterval_keeps _)
  · exact .refl s

theorem timerExpiry_keeps : Keeps s (timerExpiry s) := by
  have passed := (elapse_beside s s.btg.timer).keeps
  unfold timerExpiry
  dsimp only
  split
  · split
    · exact passed.trans (issueNext_keeps _)
    · exact passed.trans (beginInterval_keeps _)
  · exact .refl s

theorem lossExpiry_keeps : Keeps s (lossExpiry s) := by
  unfold lossExpiry
  dsimp only
  split
  · exact ((elapse_beside s _).trans (withBtg_beside _ _)).keeps.trans (beginInterval_keeps _)
  · exact .refl s

/-- In DOZE the Beat Tracker's step touches no claim (R68). -/
theorem beatDoze_beside (h : s.ps.state ≠ .active) : Beside s (beatDoze s) := by
  have free := withBtg_beside s { s.btg with tracker := .free }
  unfold beatDoze
  dsimp only
  split
  · split
    · exact free.trans (beginInterval_beside _ h)
    · exact free
  · exact .refl s

end

/-! ### Sending (R188, R189) -/

section
variable {s : State}

/-- The transmitter takes the first post: with one CLAIM in the queue at most, no other waits behind it. -/
theorem startSending_keeps (h : s.lif.queue.countP TxPost.isClaim ≤ 1) : Keeps s (startSending s) := by
  unfold startSending
  split
  · next hk =>
    split
    · exact .refl s
    · next p rest hq =>
      have idle := hk.2.1
      refine ⟨rfl, id, fun ⟨laws, fit⟩ => ⟨laws.congr rfl rfl rfl ?_ ?_, fit.keep rfl rfl rfl rfl id⟩⟩
      · rintro c ⟨x, hx | hx, hc⟩
        · exact ⟨x, .inl (hq ▸ List.mem_cons_of_mem _ hx), hc⟩
        · cases hx
          exact ⟨p, .inl (hq ▸ List.mem_cons_self), hc⟩
      · rintro x q c ⟨⟩ hclaim hmem hc
        have single : rest.countP TxPost.isClaim = 0 := by
          rw [hq, List.countP_cons_of_pos hclaim] at h
          omega
        exact absurd (TxPost.isClaim_iff.2 ⟨c, hc⟩) (List.countP_eq_zero.1 single q hmem)
  · exact .refl s

/-- What the end of the post being sent leaves: the sending is over, and no post is new. -/
structure EndsSending (s t : State) : Prop where
  bu : t.bu = s.bu
  rd : t.rd = s.rd
  gCeiling : t.se.gCeiling = s.se.gCeiling
  settings : t.settings = s.settings
  state : t.ps.state = s.ps.state
  inbox : t.lif.inbox = s.lif.inbox
  sending : t.lif.sending = none
  out : ∀ c, ClaimOut t c → ClaimOut s c

theorem EndsSending.keeps {t : State} (h : EndsSending s t) : Keeps s t := by
  refine ⟨h.state, fun hd => ?_, fun ⟨laws, fit⟩ =>
    ⟨laws.unsent (congrArg Budget.record h.bu) h.settings h.state h.sending h.out, ?_⟩⟩
  · rw [dutyReserved_iff, h.rd, h.settings, h.state, h.inbox]
    exact (dutyReserved_iff s).1 hd
  · exact fit.keep h.settings h.gCeiling (congrArg Rumble.dBudget h.rd) (congrArg Budget.released h.bu)
      fun hk => h.bu ▸ hk

/-- The sending is over, with some of the posts that waited left. -/
theorem endsSending {x : LineIf} (hx : x.sending = none) (hi : x.inbox = s.lif.inbox)
    (hq : ∀ p ∈ x.queue, p ∈ s.lif.queue) (st : Stat) : EndsSending s ((count st s).withLif x) :=
  ⟨rfl, rfl, rfl, rfl, rfl, hi, hx, fun _ ⟨p, hp, hc⟩ =>
    ⟨p, .inl (hq p (hp.resolve_right fun hk => by rw [State.withLif_lif, hx] at hk; cases hk)), hc⟩⟩

theorem LineIf.failed_sending (x : LineIf) (now : Nat) : (x.failed now).sending = x.sending := by
  unfold LineIf.failed
  split <;> rfl

theorem LineIf.failed_mem {x : LineIf} {now : Nat} {p : TxPost} (h : p ∈ (x.failed now).queue) :
    p ∈ x.queue := by
  unfold LineIf.failed at h
  split at h
  · exact h
  · exact List.mem_of_mem_filter h

theorem sendFailed_endsSending (st : Stat) : EndsSending s
    ((count st s).withLif ({ (count st s).lif with sending := none }.failed (count st s).now)) :=
  endsSending (x := ({ s.lif with sending := none } : LineIf).failed s.now) (LineIf.failed_sending _ _)
    (LineIf.failed_inbox _ _) (fun _ => LineIf.failed_mem (x := { s.lif with sending := none })) st

theorem returnPost_endsSending {p : TxPost} (h : s.lif.sending = some p) (st : Stat) :
    EndsSending s (returnPost p ((count st s).withLif { (count st s).lif with sending := none })) := by
  have posts := returnPost_posts p ((count st s).withLif { (count st s).lif with sending := none })
  have sending := congrArg (·.lif.sending) posts
  refine ⟨(congrArg State.bu posts).trans rfl, (congrArg State.rd posts).trans rfl,
    (congrArg (·.se.gCeiling) posts).trans rfl, (congrArg State.settings posts).trans rfl,
    (congrArg (·.ps.state) posts).trans rfl, (congrArg (·.lif.inbox) posts).trans rfl,
    sending.trans rfl, fun c ⟨q, hq, hc⟩ => ?_⟩
  rcases hq with hq | hq
  · rcases returnPost_mem hq with rfl | hm
    · exact ⟨q, .inr h, hc⟩
    · exact ⟨q, .inl hm, hc⟩
  · have none := sending.symm.trans hq
    cases none

/-- What is known of a CLAIM whose sending is over. -/
theorem wasSent {p : TxPost} {c : Nat} {t : State} (laws : ClaimLaws s) (h : s.lif.sending = some p)
    (hc : p.claimOf = some c) (hb : t.bu = s.bu) (hs : t.lif.sending = none)
    (hq : t.lif.queue = s.lif.queue) : WasSent t c := by
  refine ⟨hs, fun q hm d hd => ?_, ?_, fun r u hr hu => ?_⟩
  · rw [hb]
    exact laws.newest p q d h (TxPost.isClaim_iff.2 ⟨c, hc⟩) (hq ▸ hm) hd
  · rw [hb]
    exact laws.out c (.sent h hc)
  · rw [hb] at hr
    exact (((laws.raise r hr).2.2.2 u hu).2 c (.sent h hc)).symm

theorem sendFailed_keeps (st : Stat) (p : TxPost) : Keeps s (sendFailed st p s) := by
  refine (sendFailed_endsSending st).keeps.trans ?_
  unfold sendFailed reportClaim
  split
  · exact .refl _
  · exact claimFailed_keeps

theorem EndsSending.reportSent {t : State} (h : EndsSending s t) (hq : t.lif.queue = s.lif.queue)
    {p : TxPost} (hp : s.lif.sending = some p) : Keeps s (reportClaim p true t) := by
  unfold reportClaim
  split
  · exact h.keeps
  · next c hc => exact h.keeps.claimAcked fun laws => wasSent laws hp hc h.bu h.sending hq

theorem endSending_keeps (read : List BitSamples) : Keeps s (endSending read s) := by
  cases h : s.lif.sending with
  | none =>
    rw [endSending_idle h]
    exact .refl s
  | some p =>
    rcases endSending_cases (read := read) h with ⟨-, e⟩ | ⟨-, e⟩ | ⟨-, e⟩ | ⟨-, e⟩ <;> rw [e]
    · exact (returnPost_endsSending h _).keeps
    · exact sendFailed_keeps _ p
    · exact sendFailed_keeps _ p
    · exact (endsSending (x := { s.lif with sending := none, runCount := 0 }) rfl rfl (fun _ hm => hm)
        .postsSent).reportSent rfl h

end

end Sys2Proof.Machine
end

section
/-! SUPPORT. Fetches and requests keep the reservation and the claim record in order (R76, R83, R118 to R135,
R183 to R185). -/

namespace Sys2Proof.Machine

section
variable {s t : State}

theorem Keeps.reply (h : Keeps s t) (a : Ask) (k : Kind) (c : Code) (d : ReplyData) :
    Keeps s (reply a k c d t) := h.trans ((Beside.refl t).reply a k c d).keeps

/-- A change of the Rumble Driver beside its duty cap leaves claims and caps. -/
theorem Served.withRd (h : Served t) {r : Rumble} (hb : r.dBudget = t.rd.dBudget) : Served (t.withRd r) :=
  ⟨h.1.stand rfl rfl rfl rfl (.refl t), h.2.keep rfl rfl hb rfl id⟩

/-- A part that serves is neither STARTING nor in KEEP. -/
theorem unrested_of_serving (h : s.serving = true) : ¬ (s.ps.state = .starting ∨ s.ps.state = .keep) := by
  rcases s.serving_iff.1 h with hp | hp <;> rw [hp] <;> simp

/-! ### Fetches (R76, R83) -/

theorem directoryArrive_keeps (p pattern playNo : Nat) (bytes : List Byte) :
    Keeps s (directoryArrive p pattern playNo bytes s) := by
  have looked := ((withPfu_beside s _).trans (finishLookup_beside (freePort s) p pattern playNo bytes)).keeps
  unfold directoryArrive
  split <;> rename_i h <;> rw [h] at looked
  · exact looked.granted
  · refine (looked.trans ?_).granted
    unfold handResult
    split
    · exact (rumbleResult_beside _).keeps.trans (budgetFollow_keeps _ _)
    · exact (soundResult_beside _ _ _).keeps

theorem stepsArrive_keeps (p playNo j n : Nat) (bytes : List Byte) :
    Keeps s (stepsArrive p playNo j n bytes s) := by
  have freed : Keeps s (freePort s) := (withPfu_beside s _).keeps
  unfold stepsArrive
  dsimp only
  split
  · refine ((freed.trans (deliver_beside _ p j n bytes).keeps).trans ?_).granted
    unfold handDelivery
    split
    · exact rumbleDelivery_beside.keeps.trans (budgetFollow_keeps _ _)
    · exact (soundDelivery_beside _ _).keeps
  · exact freed.granted

/-! ### The Rumble Driver's requests (R118 to R120, R125, R126, R133) -/

section
variable (s) (a : Ask) (kind : PlayKind) (pattern priority : Nat) (endNotice : Bool)

theorem rumbleLeft_beside : Beside s (rumbleLeft s) := by
  unfold rumbleLeft
  split
  · exact (Beside.refl s).replyOwed _ _ _ _
  · split
    · exact (Beside.refl s).raiseTo _ _
    · exact .refl s

theorem takePlayer_aside_served : Aside s (takePlayer a kind pattern priority endNotice s) ∧
    (Served s → Served (takePlayer a kind pattern priority endNotice s)) := by
  refine ⟨takePlayer_aside .., fun h => ?_⟩
  rw [takePlayer_eq]
  have closed := (rumbleLeft_beside s).trans (closeRec_beside _ 0)
  exact (recomputeSince_keeps _ _).claims ((closed.keeps.claims h).withRd closed.dBudget.symm)

/-- The player as it is taken: STARTING with its drive OFF, and no duty asked for (R119). -/
theorem takePlayer_rd : (takePlayer a kind pattern priority endNotice s).rd =
    { s.rd.taken a.source kind pattern priority endNotice with
      dBudget := (takePlayer a kind pattern priority endNotice s).rd.dBudget
      dEff := (takePlayer a kind pattern priority endNotice s).rd.dEff } := by
  rw [takePlayer_eq, recomputeSince_rd]
  rfl

end

/-- Taking the player, once what its play reserves is recorded. -/
theorem takePlayer_keeps {a : Ask} {kind : PlayKind} {pattern priority : Nat} {endNotice : Bool} {r : Rumble}
    (hb : r.dBudget = (takePlayer a kind pattern priority endNotice s).rd.dBudget)
    (hc : s.rd.check = none → r.check = none)
    (hr : s.rd.check = none → r.Reserved s.settings.testDuty) (free : s.rd.player ≠ .checking) :
    Keeps s ((takePlayer a kind pattern priority endNotice s).withRd r) := by
  obtain ⟨aside, served⟩ := takePlayer_aside_served s a kind pattern priority endNotice
  refine ⟨congrArg Power.state aside.ps, fun hd => ?_, fun h => (served h).withRd hb⟩
  obtain ⟨reserved, idle⟩ := (dutyReserved_iff s).1 hd
  rw [dutyReserved_iff, State.withRd_settings, State.withRd_ps, State.withRd_lif, aside.settings, aside.ps,
    aside.inbox]
  have unchecked := reserved.unchecked free
  exact ⟨hr unchecked, fun hp => ⟨hc unchecked, (idle hp).2⟩⟩

theorem player_of_rumbleRefusal {r : Rumble} {pr : Nat} (h : rumbleRefusal r pr = none) :
    r.player ≠ .checking := by
  intro hp
  rw [rumbleRefusal_busy (.inl hp)] at h
  cases h

theorem servePlayRumble_keeps (a : Ask) (pattern priority : Nat) (endNotice : Bool) :
    Keeps s (servePlayRumble a pattern priority endNotice s) := by
  have refused (c : Code) (d : ReplyData) := (Keeps.refl s).reply a .playRumble c d
  unfold servePlayRumble
  dsimp only
  split
  · exact refused _ _
  · split
    · exact refused _ _
    · split
      · exact refused _ _
      · next hn =>
        have record := takePlayer_rd s a .pattern pattern (playPriority priority) endNotice
        have taken := takePlayer_keeps (s := s) (a := a) (kind := .pattern) (pattern := pattern)
          (priority := playPriority priority) (endNotice := endNotice)
          (r := { (takePlayer a .pattern pattern (playPriority priority) endNotice s).rd with
            owed := some (owedTo a) })
          rfl (fun hc => by rw [record]; exact hc) (fun hc => by
            rw [record]
            exact Rumble.reserved_start rfl rfl rfl hc (fun _ => rfl) nofun) (player_of_rumbleRefusal hn)
        generalize takePlayer a .pattern pattern (playPriority priority) endNotice s = u at taken
        have started := taken.trans (startPlay_beside _ 0 pattern u.rd.playNo).keeps
        split <;> rename_i h
        · exact (congrArg (Keeps s) (congrArg Prod.fst h)).mp started
        · exact (((congrArg (Keeps s) (congrArg Prod.fst h)).mp started).trans
            ((rumbleResult_beside _).keeps.trans (budgetFollow_keeps _ _))).granted

theorem serveSteadyRumble_keeps (a : Ask) (duty duration priority : Nat) (endNotice : Bool) :
    Keeps s (serveSteadyRumble a duty duration priority endNotice s) := by
  unfold serveSteadyRumble
  dsimp only
  split
  · exact (Keeps.refl s).reply _ _ _ _
  · next hn =>
    have record := takePlayer_rd s a .steady s.rd.pattern (playPriority priority) endNotice
    have taken (n : Option Nat) (e : Bool) := takePlayer_keeps (s := s) (a := a) (kind := .steady)
      (pattern := s.rd.pattern) (priority := playPriority priority) (endNotice := endNotice)
      (r := { (takePlayer a .steady s.rd.pattern (playPriority priority) endNotice s).rd with
        steadyDuty := duty, duration := n, dRes := duty, raiseEnded := e })
      rfl (fun hc => by rw [record]; exact hc) (fun hc => by
        rw [record]
        exact Rumble.reserved_start rfl rfl rfl hc nofun fun _ => ⟨nofun, fun _ => rfl⟩)
      (player_of_rumbleRefusal hn)
    generalize takePlayer a .steady s.rd.pattern (playPriority priority) endNotice s = u at taken
    exact (((taken _ _).reply _ _ _ _).trans tryStart_beside.keeps).trans (budgetFollow_keeps _ _)

theorem serveStopRumble_keeps (a : Ask) (mode : Nat) : Keeps s (serveStopRumble a mode s) := by
  unfold serveStopRumble
  split
  · exact (Keeps.refl s).reply _ _ _ _
  · exact (((stopPlayer_beside _).keeps.reply _ _ _ _).trans (budgetFollow_keeps _ _)).granted

/-- A check begins where requests are served: it reserves the test duty (R133). -/
theorem serveMotorCheck_keeps (hs : s.serving = true) (a : Ask) : Keeps s (serveMotorCheck a s) := by
  unfold serveMotorCheck
  split
  · next hk =>
    refine Keeps.trans ?_ (budgetFollow_keeps s _)
    refine ⟨rfl, fun hd => ?_, fun h => h.withRd rfl⟩
    obtain ⟨reserved, -⟩ := (dutyReserved_iff s).1 hd
    have rest : s.rd.dReq = 0 := reserved.rest (hk.1.imp_right .inl)
    have unowed : s.rd.owed = none := reserved.unowed (by
      rcases hk.1 with hp | hp <;> rw [hp] <;> exact nofun)
    exact (dutyReserved_iff _).2 ⟨Rumble.reserved_checking rfl (rest.trans_le (Nat.zero_le _)) unowed
      fun _ _ _ => rfl, fun hp => absurd hp (unrested_of_serving hs)⟩
  · exact (Keeps.refl s).reply _ _ _ _

end

/-! ### The other blocks' requests -/

section
variable (s : State)

theorem servePlaySound_beside (a : Ask) (voice pattern priority : Nat) (endNotice : Bool)
    (f : VoiceFields) : Beside s (servePlaySound a voice pattern priority endNotice f s) := by
  unfold servePlaySound
  dsimp only
  repeat' split
  all_goals first
    | exact (Beside.refl s).reply _ _ _ _
    | exact takeVoice_beside s _ _ _ _ _ _

theorem serveVoiceSet_beside (a : Ask) (voice : Nat) (f : VoiceFields) :
    Beside s (serveVoiceSet a voice f s) := by
  unfold serveVoiceSet
  split
  · exact (Beside.refl s).reply _ _ _ _
  · exact (withVoice_beside s voice _).reply _ _ _ _

theorem serveMasterLevel_keeps (a : Ask) (level : Nat) : Keeps s (serveMasterLevel a level s) :=
  ((withSe_beside s (x := { s.se with master := min level 63, gTarget := 4 * min level 63 }) rfl).keeps.trans
    (recomputeSince_keeps s _)).reply _ _ _ _

theorem serveStopSound_beside (a : Ask) (voice mode : Nat) : Beside s (serveStopSound a voice mode s) := by
  have stopped (m : SoundStop) (l : List Nat) :
      ∀ s, Beside s (l.foldl (fun s i => stopVoice m i s) s) := by
    induction l with
    | nil => exact .refl
    | cons i rest ih => exact fun s => (stopVoice_beside s m i).trans (ih _)
  unfold serveStopSound
  split
  · exact (Beside.refl s).reply _ _ _ _
  · split
    · exact (Beside.refl s).reply _ _ _ _
    · exact (stopped _ _ s).reply _ _ _ _

theorem serveSaveClose_beside (a : Ask) (n mode : Nat) : Beside s (serveSaveClose a n mode s) := by
  unfold serveSaveClose closeCommit
  dsimp only
  repeat' split
  all_goals refine Beside.reply ?_ _ _ _ _
  all_goals first
    | exact .refl s
    | exact withSs_beside s _

theorem serveClockSet_beside (a : Ask) (time : Nat) (zone : Option Int) (hour : Option Nat) :
    Beside s (serveClockSet a time zone hour s) := by
  unfold serveClockSet
  split
  · exact ((withCal_beside s _).trans (appointmentCheck_beside _)).reply _ _ _ _
  · exact (Beside.refl s).reply _ _ _ _

/-- No service lets the reservation or the claim record out of order. -/
theorem serve_keeps (e : Entry) {s : State} (hs : s.serving = true) : Keeps s (serve e s) := by
  obtain ⟨a, r⟩ := e
  have answered (k : Kind) (c : Code) (d : ReplyData) {t : State} (h : Beside s t) :
      Keeps s (reply a k c d t) := (h.reply a k c d).keeps
  have answers (k : Kind) (c : Code) (d : ReplyData) := answered k c d (.refl s)
  cases r
  case ident => exact answers _ _ _
  case playSound => exact (servePlaySound_beside s _ _ _ _ _ _).keeps
  case stopSound => exact (serveStopSound_beside s _ _ _).keeps
  case voiceSet => exact (serveVoiceSet_beside s _ _ _).keeps
  case masterLevel => exact serveMasterLevel_keeps s _ _
  case playRumble => exact servePlayRumble_keeps _ _ _ _
  case steadyRumble => exact serveSteadyRumble_keeps _ _ _ _ _
  case stopRumble => exact serveStopRumble_keeps _ _
  case motorCheck => exact serveMotorCheck_keeps hs _
  case saveOpen =>
    simp only [serve, serveSaveOpen]
    split
    · exact answers _ _ _
    · exact answered _ _ _ (withWrite_beside s _)
  case saveData => exact (serveSaveData_beside s _ _ _).keeps
  case saveClose => exact (serveSaveClose_beside s _ _ _).keeps
  case saveRead =>
    simp only [serve, serveSaveRead]
    split
    · exact answers _ _ _
    · exact answered _ _ _ (withSs_beside s _)
  case saveErase =>
    simp only [serve, serveSaveErase]
    repeat' split
    all_goals exact answered _ _ _ (DrivesAlone.beside ⟨rfl, rfl, rfl, rfl, rfl⟩ rfl rfl)
  case saveInfo =>
    simp only [serve, serveSaveInfo]
    split <;> exact answers _ _ _
  case clockSet => exact (serveClockSet_beside s _ _ _ _).keeps
  case clockRead => exact answers _ _ _
  case clockAccept =>
    simp only [serve, serveClockAccept]
    split
    · exact answered _ _ _ (withCal_beside s _)
    · exact answers _ _ _
  case clockTrim => exact answered _ _ _ (withCal_beside s _)
  case appointSet =>
    simp only [serve, serveAppointSet]
    repeat' split
    all_goals exact answered _ _ _ (DrivesAlone.beside ⟨rfl, rfl, rfl, rfl, rfl⟩ rfl rfl)
  case appointClear =>
    simp only [serve, serveAppointClear]
    repeat' split
    all_goals exact answered _ _ _ (DrivesAlone.beside ⟨rfl, rfl, rfl, rfl, rfl⟩ rfl rfl)
  case appointList =>
    simp only [serve, serveAppointList]
    split <;> exact answers _ _ _
  case noticeEnable =>
    simp only [serve, serveNoticeEnable]
    split
    · exact answers _ _ _
    · exact answered _ _ _ (withNu_beside s _)
  case noticeRead => exact answered _ _ _ (withNu_beside s _)
  case statsRead =>
    simp only [serve, serveStatsRead]
    split
    · exact answers _ _ _
    · exact answered _ _ _ (withNu_beside s _)
  case misfit =>
    simp only [serve, serveMisfit]
    split
    · exact .refl s
    · exact answers _ _ _

end

/-! ### The inbox (R183 to R185) -/

section
variable {s : State}

theorem withInbox_keeps (hs : s.serving = true) (l : List Entry) :
    Keeps s (s.withLif { s.lif with inbox := l }) := by
  refine ⟨rfl, fun hd => ?_, fun ⟨laws, fit⟩ =>
    ⟨laws.stand rfl rfl rfl rfl (.refl s), fit.keep rfl rfl rfl rfl id⟩⟩
  exact (dutyReserved_iff _).2 ⟨((dutyReserved_iff s).1 hd).1, fun hp => absurd hp (unrested_of_serving hs)⟩

theorem handOn_keeps (n : Nat) (hs : s.serving = true) : Keeps s (handOn n s) := by
  induction n generalizing s with
  | zero => exact .refl s
  | succ n ih =>
    unfold handOn
    split
    · exact .refl s
    · next e rest _ =>
      split
      · have served := (withInbox_keeps hs rest).trans (serve_keeps e (s := s.withLif _) hs)
        exact served.trans (ih (served.serving.trans hs))
      · exact .refl s

theorem drainInbox_keeps (hs : s.serving = true) : Keeps s (drainInbox s) := handOn_keeps _ hs

theorem drainInbox_empty (h : s.lif.inbox = []) : drainInbox s = s := by
  rw [drainInbox, h]
  rfl

theorem enterRequest_keeps (hs : s.serving = true) (e : Entry) : Keeps s (enterRequest e s) := by
  unfold enterRequest
  split
  · exact (refuseRequest_beside s e _).keeps
  · exact (refuseRequest_beside s e _).keeps
  · split
    · exact .refl s
    · exact (withInbox_keeps hs _).trans (drainInbox_keeps hs)

theorem request_keeps (a : Ask) (r : Request) : Keeps s (request a r s) := by
  unfold request
  split
  · next h => exact enterRequest_keeps (s.serving_iff.2 (h.imp_right And.left)) _
  · exact .refl s

end

end Sys2Proof.Machine
end

section
/-! SUPPORT. Before the entry to ACTIVE nothing is claimed and nothing drawn; the starts, the entry to ACTIVE
and the power modes leave the reservation and the claim record in order (R141, R157, R158, R161 to R173). -/

namespace Sys2Proof.Machine

/-! ### The part that does not serve -/

/-- Nothing is claimed and nothing drawn. -/
def Asleep (s : State) : Prop :=
  s.bu = budgetStart s.bu.allowance ∧ s.rd = rumbleStart ∧ s.se.gCeiling = 0 ∧ s.lif.inbox = [] ∧
    ∀ c, ¬ ClaimOut s c

/-- The claim record of a part that serves, and of one that does not. -/
theorem claimSound_iff (s : State) :
    ClaimSound s ↔ (s.serving = true → Served s) ∧ (s.serving = false → Asleep s) := by
  constructor
  · rintro ⟨unacked, fit, hold, acked, out, announced, raise, newest, least, doze, asleep⟩
    exact ⟨fun h => ⟨⟨unacked, acked, out, announced, raise, newest, least h, doze⟩, fit, hold⟩, asleep⟩
  · rintro ⟨served, asleep⟩
    cases h : s.serving with
    | true =>
      obtain ⟨⟨unacked, acked, out, announced, raise, newest, least, doze⟩, fit, hold⟩ := served h
      exact ⟨unacked, fit, hold, acked, out, announced, raise, newest, fun _ => least, doze,
        fun hk => by rw [h] at hk; cases hk⟩
    | false =>
      obtain ⟨bu, rd, gCeiling, inbox, out⟩ := asleep h
      have draw : ampCurrent s.settings s.se.gCeiling + motorCurrent s.settings s.rd.dBudget = 0 := by
        rw [gCeiling, rd, ampCurrent_zero]
        exact (Nat.zero_add _).trans (motorCurrent_zero _)
      refine ⟨fun _ => ?_, draw.trans_le (Nat.zero_le _), fun _ => draw, fun c t hk => ?_,
        fun c hc => absurd hc (out c), fun c _ hk => ?_, fun r hk => ?_,
        fun p q c _ _ hq hc => absurd (.queued hq hc) (out c), fun hk => ?_, fun hk => ?_,
        fun _ => ⟨bu, rd, gCeiling, inbox, out⟩⟩
      · rw [bu]
        rfl
      · rw [bu] at hk
        cases hk
      · rw [bu] at hk
        cases hk
      · rw [bu] at hk
        cases hk
      · rw [h] at hk
        cases hk
      · rw [State.serving, hk] at h
        cases h

/-- A step beside the Budget Unit that leaves the Rumble Driver alone. -/
structure Calm (s t : State) : Prop extends Beside s t where
  rd : t.rd = s.rd

section
variable {s t u : State}

theorem Calm.refl (s : State) : Calm s s := ⟨.refl s, rfl⟩

theorem Calm.trans (h : Calm s t) (k : Calm t u) : Calm s u := ⟨h.toBeside.trans k.toBeside, k.rd.trans h.rd⟩

theorem Beside.calm (h : Beside s t) (hd : DrivesAlone s t) : Calm s t := ⟨h, hd.rd⟩

theorem Calm.asleep (h : Calm s t) (hs : Asleep s) : Asleep t := by
  obtain ⟨bu, rd, gCeiling, inbox, out⟩ := hs
  refine ⟨?_, h.rd.trans rd, h.gCeiling.trans gCeiling, h.inbox.trans inbox,
    fun c hc => out c (h.claims.out h.sending hc)⟩
  rw [h.bu]
  exact bu

theorem Calm.raiseNotice (h : Calm s t) (n : Notice) : Calm s (raiseNotice n t) :=
  ⟨h.toBeside.raiseNotice n, (raiseNotice_rd ..).trans h.rd⟩

theorem withSs_calm (x : SaveStore) (s : State) : Calm s (s.withSs x) := ⟨withSs_beside s x, rfl⟩

theorem grant_calm (s : State) : Calm s (grant s) := ⟨grant_beside s, rfl⟩

/-- An ordinary step: the power state stays, the reservation and the claim record stay in order, and a part
that does not serve keeps claiming and drawing nothing. -/
structure Ordinary (s t : State) : Prop extends Keeps s t where
  asleep : s.serving = false → Asleep s → Asleep t

theorem Ordinary.refl (s : State) : Ordinary s s := ⟨.refl s, fun _ => id⟩

theorem Calm.ordinary (h : Calm s t) : Ordinary s t := ⟨h.toBeside.keeps, fun _ => h.asleep⟩

theorem Beside.ordinary (h : Beside s t) (hd : DrivesAlone s t) : Ordinary s t := (h.calm hd).ordinary

/-- A step that a part acts on only while it serves. -/
theorem Keeps.ordinary (h : Keeps s t) (hs : s.serving = false → Asleep s → t = s) : Ordinary s t :=
  ⟨h, fun hn ha => hs hn ha ▸ ha⟩

/-- What every command must keep: the reservation, and the claim record. -/
structure KeepsSound (s t : State) : Prop where
  duty : DutyReserved s → DutyReserved t
  claims : ClaimSound s → ClaimSound t

theorem KeepsSound.refl (s : State) : KeepsSound s s := ⟨id, id⟩

theorem KeepsSound.trans (h : KeepsSound s t) (k : KeepsSound t u) : KeepsSound s u :=
  ⟨fun hd => k.duty (h.duty hd), fun hc => k.claims (h.claims hc)⟩

theorem Ordinary.keepsSound (h : Ordinary s t) : KeepsSound s t := by
  refine ⟨h.duty, fun hc => ?_⟩
  rw [claimSound_iff, h.serving]
  obtain ⟨served, asleep⟩ := (claimSound_iff s).1 hc
  exact ⟨fun hs => h.claims (served hs), fun hn => h.asleep hn (asleep hn)⟩

end

/-! ### Starts and rail loss (R161 to R166, R172) -/

section
variable (s : State)

/-- A state as a start or a rail loss leaves it: it does not serve, and nothing is claimed or reserved. -/
structure Fresh (s : State) : Prop where
  serving : s.serving = false
  asleep : Asleep s
  duty : DutyReserved s

variable {s} in
theorem Fresh.claimSound (h : Fresh s) : ClaimSound s :=
  (claimSound_iff s).2 ⟨fun hs => absurd (h.serving.symm.trans hs) Bool.false_ne_true, fun _ => h.asleep⟩

variable {s} in
theorem Fresh.keepsSound (h : Fresh s) (u : State) : KeepsSound u s := ⟨fun _ => h.duty, fun _ => h.claimSound⟩

variable {s} in
theorem Fresh.calm (h : Fresh s) {t : State} (k : Calm s t) : Fresh t :=
  ⟨k.keeps.serving.trans h.serving, k.asleep h.asleep, k.duty h.duty⟩

/-- The start values of the core domain (R165). -/
theorem fresh_of_start {t : State} (hs : t.serving = false) (hl : ∃ own, t.lif = lineStart own)
    (hb : ∃ a, t.bu = budgetStart a) (hr : t.rd = rumbleStart) (he : t.se = soundStart) : Fresh t := by
  obtain ⟨own, hl⟩ := hl
  obtain ⟨a, hb⟩ := hb
  refine ⟨hs, ⟨by rw [hb]; rfl, hr, by rw [he]; rfl, by rw [hl]; rfl, ?_⟩, ?_⟩
  · rintro c ⟨p, hp | hp, -⟩
    · rw [hl] at hp
      cases hp
    · rw [hl] at hp
      cases hp
  · rw [dutyReserved_iff, hr, hl]
    exact ⟨rumbleStart_reserved _, fun _ => ⟨rfl, rfl⟩⟩

theorem coreStart_fresh (own : Nat) (h : s.serving = false) : Fresh (coreStart own s) :=
  fresh_of_start h ⟨own, rfl⟩ ⟨_, rfl⟩ rfl rfl

theorem sampleCell_calm (mv : Nat) : Calm s (sampleCell mv s) :=
  (sampleCell_beside s mv).calm (sampleCell_drivesAlone s mv)

theorem beginStart_fresh (own mv : Nat) : Fresh (beginStart own mv s) := by
  have asked (u : State) : Calm u (askSettings u) :=
    ⟨(withPfu_beside u _).trans (grant_beside _), rfl⟩
  refine Fresh.calm ?_ (asked _)
  refine Fresh.calm ?_ (sampleCell_calm _ mv)
  refine Fresh.calm ?_ ⟨withGuard_beside _ _, rfl⟩
  split
  · exact fresh_of_start rfl ⟨own, rfl⟩ ⟨_, rfl⟩ rfl rfl
  · exact coreStart_fresh (s.withPs s.ps.started) own rfl

theorem railLost_fresh (mv : Nat) : Fresh (railLost mv s) :=
  (coreStart_fresh ((calendarKeep s).withPs _) _ rfl).calm (sampleCell_calm _ mv)

theorem keepReset_fresh : Fresh (keepReset s) := fresh_of_start rfl ⟨_, rfl⟩ ⟨_, rfl⟩ rfl rfl

end

/-! ### The entry to ACTIVE (R157, R167) -/

section
variable {s t : State}

/-- What an entry to ACTIVE must keep: the reservation, and a claim record in order out of a part asleep. -/
structure Wakes (s t : State) : Prop where
  state : t.ps.state = .active
  duty : s.rd.Reserved s.settings.testDuty → DutyReserved t
  claims : Asleep s → Served t

/-- In ACTIVE the reservation is all that `DutyReserved` says. -/
theorem dutyReserved_active (h : s.ps.state = .active) (hr : s.rd.Reserved s.settings.testDuty) :
    DutyReserved s :=
  (dutyReserved_iff s).2 ⟨hr, fun hp => by rw [h] at hp; rcases hp with hp | hp <;> cases hp⟩

/-- The least claim may be announced where nothing has been claimed. -/
theorem Asleep.announces (h : Asleep s) {t : State} (hb : t.bu = { s.bu with released := leastClaim s.settings })
    (hs : t.settings = s.settings) (hl : t.lif = s.lif) : Announces t (leastClaim s.settings) := by
  obtain ⟨bu, -, -, -, out⟩ := h
  rw [bu] at hb
  have raise : t.bu.raise = none := by rw [hb]; rfl
  have acked : t.bu.acked = none := by rw [hb]; rfl
  have released : t.bu.released = leastClaim s.settings := by rw [hb]
  refine ⟨fun _ => by rw [hb]; rfl, fun d u hk => ?_, fun p d hp hd => ?_, released.le, fun _ => released,
    fun r hk => ?_, hs ▸ released.ge, fun _ => ⟨raise, hs ▸ released⟩⟩
  · rw [acked] at hk
    cases hk
  · exact absurd (.sent (hl ▸ hp) hd) (out d)
  · rw [raise] at hk
    cases hk

theorem budgetActive_wakes (h : s.ps.state = .active) : Wakes s (budgetActive s) := by
  unfold budgetActive
  dsimp only
  generalize hu : announce (leastClaim s.settings)
    (s.withBu { s.bu with released := leastClaim s.settings }) = u
  have alone : DrivesAlone s u := hu ▸ (withBu_drivesAlone s _).trans (announce_drivesAlone _ _)
  have bu : u.bu = { s.bu with
      released := leastClaim s.settings, announced := some (leastClaim s.settings), handedAt := some s.now } :=
    hu ▸ announce_bu _ _
  have settings : u.settings = s.settings := alone.settings
  have frame := recomputeAtStart_budgets (u.withBu { u.bu with listenEnd := some (u.now + Config.listenCounts) })
  refine ⟨(congrArg Power.state frame.aside.ps).trans (alone.state.trans h), fun hr => frame.duty ?_, fun ha => ?_⟩
  · refine dutyReserved_active (s := u.withBu _) (alone.state.trans h) ?_
    show u.rd.Reserved u.settings.testDuty
    rw [alone.rd, settings]
    exact hr
  · have laws : ClaimLaws u := hu ▸ (ha.announces
      (t := s.withBu { s.bu with released := leastClaim s.settings }) rfl rfl rfl).laws
    have asleep := ha.1
    have listening : Listening (u.withBu { u.bu with listenEnd := some (u.now + Config.listenCounts) }) := by
      refine ⟨?_, ?_, rfl⟩
      · show u.bu.announced = some (leastClaim u.settings)
        rw [bu, settings]
      · show u.bu.raise = none
        rw [bu, asleep]
        rfl
    have held : u.bu.holding = true := by
      rw [bu, asleep]
      rfl
    obtain ⟨caps, withheld⟩ := recomputeAtStart_listening listening
    have listen : ClaimLaws (u.withBu { u.bu with listenEnd := some (u.now + Config.listenCounts) }) :=
      laws.stand rfl rfl rfl rfl (.refl u)
    generalize recomputeAtStart (u.withBu _) = t at caps withheld
    obtain ⟨gCeiling, -, dBudget, -⟩ := withheld held
    have draw : capDraw t = 0 := by
      rw [capDraw, gCeiling, dBudget, motorCurrent_zero]
      exact Nat.le_zero.1 (ampCurrent_ceilingFor_le _)
    refine ⟨listen.stand (congrArg Budget.record caps.bu) caps.settings (congrArg Power.state caps.ps)
      (congrArg LineIf.sending caps.lif) fun p hp _ => caps.lif ▸ hp, ?_, fun _ => draw⟩
    rw [draw]
    exact Nat.zero_le _

theorem Wakes.beside (h : Wakes s t) {u : State} (k : Beside t u) : Wakes s u :=
  ⟨k.state.trans h.state, fun hr => k.duty (h.duty hr), fun ha => k.keeps.claims (h.claims ha)⟩

theorem sendHello_beside (s : State) : Beside s (sendHello s) :=
  (sendHello_posts s).beside (handPost_handsNoClaim rfl)

theorem enterActive_wakes (s : State) : Wakes s (enterActive s) := by
  have active := budgetActive_wakes (s := s.withPs { s.ps with state := .active }) rfl
  have claimed : Wakes s _ := ⟨active.state, active.duty, active.claims⟩
  have greeted := claimed.beside (sendHello_beside _)
  have ready (u : State) : Beside u (raiseResume (calendarActive u)) :=
    Beside.raiseNotice (t := readied u) ((readied_drivesAlone u).beside rfl rfl) _
  exact (greeted.beside (ready _)).beside (appointmentCheck_beside _)

/-- The claim record after an entry to ACTIVE. -/
theorem Wakes.keepsSound (h : Wakes s t) (hs : s.serving = false) : KeepsSound s t := by
  have serving : t.serving = true := t.serving_iff.2 (.inl h.state)
  refine ⟨fun hd => h.duty ((dutyReserved_iff s).1 hd).1, fun hc => (claimSound_iff t).2 ⟨fun _ => ?_, fun hn => ?_⟩⟩
  · exact h.claims (((claimSound_iff s).1 hc).2 hs)
  · rw [serving] at hn
    cases hn

end

end Sys2Proof.Machine
end

section
/-! SUPPORT. The power modes, the scrub and the settings read, and then every command (R157, R158, R165 to
R170). -/

namespace Sys2Proof.Machine

/-! ### DOZE and the return from it (R158, R168 to R170) -/

section
variable {s x : State}

/-- The Budget Unit's step at the entry to DOZE, on what the other blocks' steps left of the part `s`. -/
theorem budgetDoze_served (laws : ClaimLaws s) (hp : x.ps.state = .doze) (hb : x.bu = s.bu)
    (hs : x.settings = s.settings) (hl : x.lif.sending = s.lif.sending) : Served (budgetDoze x) := by
  have caps := recompute_doze (s := x.withBu { x.bu with raise := none }) hp
  have sending : (recompute (x.withBu { x.bu with raise := none })).lif.sending = x.lif.sending :=
    (congrArg (·.lif.sending) (recompute_budgets _)).trans rfl
  obtain ⟨gCeiling, -, dBudget, -, -⟩ := budgetDoze_doze hp
  have draw : capDraw (budgetDoze x) = 0 := by
    rw [capDraw, gCeiling, dBudget, motorCurrent_zero, (budgetDoze_aside x).settings]
    exact Nat.le_zero.1 (ampCurrent_ceilingFor_le _)
  refine ⟨?_, draw.trans_le (Nat.zero_le _), fun _ => draw⟩
  rw [budgetDoze_eq]
  generalize recompute (x.withBu { x.bu with raise := none }) = v at caps sending
  have record : v.bu = { s.bu with raise := none, overFlag := v.bu.overFlag } := by
    rw [← hb]
    exact caps.budget
  have least : leastClaim x.settings = leastClaim s.settings := by rw [hs]
  exact Announces.laws (laws.lowered (congrArg Budget.acked record :) (congrArg Budget.holding record :)
    (congrArg Budget.raise record :) rfl (least.trans_le laws.least) least.ge (fun _ => least)
    (caps.settings.trans hs) (sending.trans hl))

/-- The blocks' steps before the Budget Unit's own, on the part in DOZE with the inbox that stays. -/
theorem blocksDoze_beside {w : State} (h : w.ps.state = .doze) (l : List Entry) :
    Beside w (beatDoze (storeDoze (rumbleDoze (soundDoze
      (l.foldl (fun u e => refuseRequest e .dozing u) w))))) := by
  have blocks := (((refuseEach_beside w .dozing l).trans (soundDoze_beside _)).trans
    rumbleDoze_beside).trans (storeDoze_beside _)
  exact blocks.trans (beatDoze_beside _ (by rw [blocks.state, h]; exact nofun))

/-- The entry to DOZE, from ACTIVE or from DOZE (R158, R169, R170). -/
theorem enterDoze_sound (s : State) : (enterDoze s).serving = true ∧
    (s.rd.Reserved s.settings.testDuty → DutyReserved (enterDoze s)) ∧
    (ClaimLaws s → Served (enterDoze s)) := by
  have blocks := blocksDoze_beside
    (w := (s.withPs { s.ps with state := .doze }).withLif
      { s.lif with inbox := s.lif.inbox.filter fun e => e.request.kind.servedInDoze }) rfl
    (s.lif.inbox.filter fun e => !e.request.kind.servedInDoze)
  unfold enterDoze lineDoze
  dsimp only [State.withPs_lif]
  generalize beatDoze _ = x at blocks
  have doze : x.ps.state = .doze := blocks.state
  have budget := budgetDoze_budgets x
  have serving : (budgetDoze x).serving = true :=
    (budgetDoze x).serving_iff.2 (.inr ((congrArg Power.state budget.aside.ps).trans doze))
  have drained := drainInbox_keeps serving
  refine ⟨drained.serving.trans serving, fun hr => drained.duty (budget.duty ?_),
    fun laws => drained.claims (budgetDoze_served laws doze blocks.bu blocks.settings blocks.sending)⟩
  refine (dutyReserved_iff x).2 ⟨?_, fun hp => ?_⟩
  · rw [blocks.settings]
    exact blocks.reserved hr
  · rw [doze] at hp
    rcases hp with hp | hp <;> cases hp

/-- The return to ACTIVE (R158, R169). -/
theorem wake_sound (s : State) : (wake s).serving = true ∧
    (s.rd.Reserved s.settings.testDuty → DutyReserved (wake s)) ∧ (ClaimLaws s → Served (wake s)) := by
  have kept := recompute_keeps (s.withPs { s.ps with state := .active, orderly := false })
  refine ⟨(wake s).serving_iff.2 (.inl kept.state), fun hr => kept.duty (dutyReserved_active rfl hr),
    fun laws => recompute_served ?_⟩
  exact ⟨laws.unacked, laws.acked, laws.out, laws.announced, laws.raise, laws.newest, laws.least, nofun⟩

end

/-! ### POWER_MODE (R168, R169) -/

section
variable {s t : State}

theorem keepsSound_of_serving (hs : s.serving = true) (h : t.serving = true ∧
    (s.rd.Reserved s.settings.testDuty → DutyReserved t) ∧ (ClaimLaws s → Served t)) : KeepsSound s t := by
  obtain ⟨serving, duty, claims⟩ := h
  refine ⟨fun hd => duty ((dutyReserved_iff s).1 hd).1, fun hc => (claimSound_iff t).2
    ⟨fun _ => claims (((claimSound_iff s).1 hc).1 hs).1, fun hn => ?_⟩⟩
  rw [serving] at hn
  cases hn

theorem handMode_keepsSound (source target : Nat) (m : PowerMode) : KeepsSound s (handMode source target m s) := by
  unfold handMode
  split
  · next hk =>
    unfold actMode
    split
    · split
      · exact keepsSound_of_serving hk.1 (enterDoze_sound s)
      · exact .refl s
    · split
      · exact keepsSound_of_serving hk.1 (wake_sound s)
      · exact .refl s
    · obtain ⟨serving, duty, claims⟩ := enterDoze_sound (s.withPs { s.ps with orderly := true })
      exact keepsSound_of_serving hk.1 ⟨serving, duty, fun laws => claims (laws.stand rfl rfl rfl rfl (.refl s))⟩
  · exact .refl s

end

/-! ### The settings read and the scrub (R25 to R27, R166, R167) -/

section
variable {s t : State}

theorem serving_of_starting (h : s.ps.state = .starting) : s.serving = false := by
  rw [State.serving, h]
  rfl

/-- A start goes on: a state that is still STARTING keeps nothing claimed and nothing reserved. -/
structure Starts (s t : State) : Prop where
  state : t.ps.state = .starting
  duty : DutyReserved s → DutyReserved t
  asleep : Asleep s → Asleep t

theorem Starts.calm (h : Starts s t) {u : State} (k : Calm t u) : Starts s u :=
  ⟨k.state.trans h.state, fun hd => k.duty (h.duty hd), fun ha => k.asleep (h.asleep ha)⟩

theorem Starts.keepsSound (h : Starts s t) (hs : s.ps.state = .starting) : KeepsSound s t := by
  refine ⟨h.duty, fun hc => (claimSound_iff t).2 ⟨fun hn => ?_, fun _ => ?_⟩⟩
  · rw [serving_of_starting h.state] at hn
    cases hn
  · exact h.asleep (((claimSound_iff s).1 hc).2 (serving_of_starting hs))

/-- The start ends with the entry to ACTIVE. -/
theorem Starts.enters (h : Starts s t) {u : State} (k : Wakes t u) (hs : s.ps.state = .starting) :
    KeepsSound s u :=
  (h.keepsSound hs).trans (k.keepsSound (serving_of_starting h.state))

theorem settled_starts (bytes : List Byte) (hs : s.ps.state = .starting) : Starts s (settled bytes s) := by
  rw [settled_eq bytes hs]
  refine ⟨hs, fun hd => ?_, fun ⟨bu, rd, gCeiling, inbox, out⟩ => ⟨?_, rd, gCeiling, inbox, out⟩⟩
  · obtain ⟨reserved, idle⟩ := (dutyReserved_iff s).1 hd
    exact (dutyReserved_iff _).2 ⟨reserved.retested (idle (.inl hs)).1 _, idle⟩
  · show ({ s.bu with allowance := _ } : Budget) = _
    rw [bu]
    rfl

theorem scrubBegin_calm (s : State) : Calm s (scrubBegin s) := by
  rw [scrubBegin_eq]
  refine (withSs_calm s.ss.cleared s).trans ?_
  generalize s.withSs s.ss.cleared = u
  induction slotNumbers generalizing u with
  | nil => exact .refl u
  | cons k rest ih =>
    refine Calm.trans ?_ (ih _)
    unfold scrubCheckSlot
    split
    · exact (withSs_calm _ u).raiseNotice _
    · exact .refl u

theorem slotEmptied_calm (slot : Nat) (s : State) : Calm s (slotEmptied slot s) :=
  ⟨DrivesAlone.beside ⟨rfl, rfl, rfl, rfl, rfl⟩ rfl rfl, rfl⟩

theorem scrubSlot_calm (acc : List Nat × List Nat × State) (k : Nat) :
    Calm acc.2.2 (scrubSlot acc k).2.2 := by
  unfold scrubSlot
  dsimp only
  split
  · exact .refl _
  · split
    · split
      · exact .refl _
      · exact ((withSs_calm _ _).trans (withSs_calm _ _)).raiseNotice _
    · exact ((withSs_calm _ _).trans (slotEmptied_calm _ _)).raiseNotice _

theorem scrubEnd_calm (freed : Nat) (s : State) : Calm s (scrubEnd freed s) := by
  have folded (l : List Nat) : ∀ acc : List Nat × List Nat × State,
      Calm acc.2.2 (l.foldl scrubSlot acc).2.2 := by
    induction l with
    | nil => exact fun acc => .refl _
    | cons k rest ih => exact fun acc => (scrubSlot_calm acc k).trans (ih _)
  have h := folded slotNumbers ([], [], s)
  unfold scrubEnd
  generalize slotNumbers.foldl scrubSlot ([], [], s) = r at h
  obtain ⟨accepted, emptied, t⟩ := r
  exact h.trans ⟨DrivesAlone.beside ⟨rfl, rfl, rfl, rfl, rfl⟩ rfl rfl, rfl⟩

theorem settingsArrive_keepsSound (hs : s.ps.state = .starting) (bytes : List Byte) :
    KeepsSound s (settingsArrive bytes s) := by
  have started := settled_starts bytes hs
  rw [settingsArrive_eq]
  split
  · have cold : Starts s (finishCold (settled bytes s)) :=
      started.calm ⟨DrivesAlone.beside ⟨rfl, rfl, rfl, rfl, rfl⟩ rfl rfl, rfl⟩
    exact cold.enters ((enterActive_wakes _).beside (grant_beside _)) hs
  · exact ((started.calm (scrubBegin_calm _)).calm (grant_calm _)).keepsSound hs

theorem scrubEnd_keepsSound (hs : s.ps.state = .starting) (freed : Nat) :
    KeepsSound s (enterActive (scrubEnd freed s)) :=
  Starts.enters (Starts.calm ⟨hs, id, id⟩ (scrubEnd_calm freed s)) (enterActive_wakes _) hs

end

end Sys2Proof.Machine
end

section
/-! SUPPORT. The events that reach a part while it does not serve leave it claiming and drawing nothing (R57 to
R67, R72 to R83, R131 to R134, R180 to R189). -/

namespace Sys2Proof.Machine

section
variable {s t : State}

/-- A step that leaves a part alone while it does not serve. -/
theorem Keeps.calmAsleep (h : Keeps s t) (k : s.serving = false → s.rd = rumbleStart → Calm s t) :
    Ordinary s t :=
  ⟨h, fun hn ha => (k hn ha.2.1).asleep ha⟩

/-- A step that needs a serving part changes nothing while it does not serve. -/
theorem Keeps.servedOnly (h : Keeps s t) (hs : s.serving = false → t = s) : Ordinary s t :=
  h.ordinary fun hn _ => hs hn

theorem unawake_of_unserving (h : s.serving = false) : s.ps.state ≠ .active ∧ s.ps.state ≠ .doze := by
  have awake : ¬ (s.ps.state = .active ∨ s.ps.state = .doze) := fun hp => by
    rw [s.serving_iff.2 hp] at h
    cases h
  exact not_or.1 awake

theorem rested_of_unserving (h : s.serving = false) : s.ps.state = .starting ∨ s.ps.state = .keep := by
  obtain ⟨active, doze⟩ := unawake_of_unserving h
  cases hp : s.ps.state with
  | starting => exact .inl rfl
  | keep => exact .inr rfl
  | active => exact absurd hp active
  | doze => exact absurd hp doze

theorem elapse_calm (d : Nat) (s : State) : Calm s (elapse d s) :=
  (elapse_beside s d).calm (elapse_drivesAlone s d)

theorem withBtg_calm (x : BeatGen) (s : State) : Calm s (s.withBtg x) := ⟨withBtg_beside s x, rfl⟩

theorem count_calm (st : Stat) (s : State) : Calm s (count st s) :=
  (count_beside s st).calm (count_drivesAlone s st)

theorem setAck_calm (b : Bool) (s : State) : Calm s (setAck b s) :=
  (setAck_beside s b).calm (setAck_drivesAlone s b)

end

/-! ### Ticks (R57, R63 to R65) -/

section
variable {s : State}

theorem issueTick_calm (h : s.serving = false) : Calm s (issueTick s) := by
  obtain ⟨active, doze⟩ := unawake_of_unserving h
  refine ⟨issueTick_beside s active, ?_⟩
  unfold issueTick
  dsimp only
  split
  · next hp => exact absurd hp active
  · next hp => exact absurd hp doze
  · rfl
  · rfl

theorem beginInterval_calm (h : s.serving = false) : Calm s (beginInterval s) :=
  (withBtg_calm _ s).trans (issueTick_calm h)

theorem timerExpiry_ordinary (s : State) : Ordinary s (timerExpiry s) := by
  refine (timerExpiry_keeps s).calmAsleep fun hn _ => ?_
  have passed := elapse_calm s.btg.timer s
  unfold timerExpiry
  dsimp only
  split
  · split
    · exact passed.trans ((withBtg_calm _ _).trans (issueTick_calm hn))
    · exact passed.trans (beginInterval_calm hn)
  · exact .refl s

theorem lossExpiry_ordinary (s : State) : Ordinary s (lossExpiry s) := by
  refine (lossExpiry_keeps s).calmAsleep fun hn _ => ?_
  unfold lossExpiry
  dsimp only
  split
  · exact ((elapse_calm _ s).trans (withBtg_calm _ _)).trans (beginInterval_calm hn)
  · exact .refl s

theorem handBeat_ordinary (s : State) (source : Nat) (payload : List Byte) :
    Ordinary s (handBeat source payload s) :=
  (handBeat_keeps s source payload).servedOnly fun hn => if_neg (unawake_of_unserving hn).1

end

/-! ### Fetches (R76, R81) -/

section
variable {s : State}

theorem handResult_calm (h : s.rd = rumbleStart) (p : Nat) (l : Lookup) : Calm s (handResult p l s) := by
  have left : rumbleResult l s = s := by
    rw [rumbleResult, h]
    rfl
  unfold handResult
  split
  · rw [left, budgetFollow_same rfl]
    exact .refl s
  · exact (soundResult_beside _ _ _).calm (soundResult_drivesAlone _ _ _)

theorem handDelivery_calm (h : s.rd = rumbleStart) (p : Nat) : Calm s (handDelivery p s) := by
  have left : rumbleDelivery s = s := by
    rw [rumbleDelivery, tryStart, h]
    exact (if_neg nofun).trans (if_neg fun hk => nomatch hk.1)
  unfold handDelivery
  split
  · rw [left, budgetFollow_same rfl]
    exact .refl s
  · exact (soundDelivery_beside _ _).calm (soundDelivery_drivesAlone _ _)

theorem freePort_calm (s : State) : Calm s (freePort s) := ⟨withPfu_beside s _, rfl⟩

theorem directoryArrive_ordinary (p pattern playNo : Nat) (bytes : List Byte) :
    Ordinary s (directoryArrive p pattern playNo bytes s) := by
  refine (directoryArrive_keeps p pattern playNo bytes).calmAsleep fun _ hr => ?_
  have looked := (freePort_calm s).trans ((finishLookup_beside (freePort s) p pattern playNo bytes).calm
    (finishLookup_drivesAlone _ p pattern playNo bytes))
  unfold directoryArrive
  split <;> rename_i h <;> rw [h] at looked
  · exact looked.trans (grant_calm _)
  · exact (looked.trans (handResult_calm (looked.rd.trans hr) _ _)).trans (grant_calm _)

theorem stepsArrive_ordinary (p playNo j n : Nat) (bytes : List Byte) :
    Ordinary s (stepsArrive p playNo j n bytes s) := by
  refine (stepsArrive_keeps p playNo j n bytes).calmAsleep fun _ hr => ?_
  have freed := freePort_calm s
  unfold stepsArrive
  dsimp only
  split
  · have delivered := freed.trans ((deliver_beside (freePort s) p j n bytes).calm
      (deliver_drivesAlone _ p j n bytes))
    exact (delivered.trans (handDelivery_calm (delivered.rd.trans hr) p)).trans (grant_calm _)
  · exact freed.trans (grant_calm _)

end

/-! ### The motor's samples (R131, R134) -/

section
variable {s : State}

theorem senseSample_ordinary (cur : Nat) : Ordinary s (budgetFollow s (senseSample cur s)) := by
  refine ((senseSample_beside cur).keeps.trans (budgetFollow_keeps _ _)).ordinary fun _ ha => ?_
  have left : senseSample cur s = s := by
    rw [senseSample, ha.2.1]
    exact if_neg nofun
  rw [left, budgetFollow_same rfl]

theorem finishCheck_ordinary {c : MotorCheck} (hc : s.rd.check = some c) (d : Nat) :
    Ordinary s (budgetFollow (reach d s) (finishCheck c (reach d s))) := by
  refine Keeps.ordinary ?_ fun _ ha => ?_
  · exact ((reach_beside s d).keeps.trans (finishCheck_beside (s := reach d s) hc).keeps).trans (budgetFollow_keeps _ _)
  · rw [ha.2.1] at hc
    cases hc

end

/-! ### The Budget Unit's timers (R141, R143, R152, R155 to R157) -/

section
variable {s : State}

theorem allowanceExpiry_ordinary : Ordinary s (allowanceExpiry s) :=
  allowanceExpiry_keeps.ordinary fun _ ha => by
    rw [allowanceExpiry, ha.1]
    rfl

theorem budgetStart_peer (a station : Nat) : (budgetStart a).peer station = none := by
  unfold Budget.peer budgetStart getAt
  dsimp only
  rw [Vector.getElem?_replicate]
  split <;> rfl

theorem peerExpiry_ordinary (station : Nat) : Ordinary s (peerExpiry station s) :=
  (peerExpiry_keeps station).ordinary fun _ ha => by
    rw [peerExpiry, ha.1, budgetStart_peer]

theorem settleExpiry_ordinary : Ordinary s (settleExpiry s) :=
  settleExpiry_keeps.ordinary fun _ ha => by
    rw [settleExpiry, ha.1]
    rfl

theorem listenExpiry_ordinary : Ordinary s (listenExpiry s) :=
  listenExpiry_keeps.ordinary fun _ ha => by
    rw [listenExpiry, ha.1]
    rfl

theorem refreshExpiry_ordinary : Ordinary s (refreshExpiry s) :=
  refreshExpiry_keeps.ordinary fun _ ha => by
    rw [refreshExpiry, ha.1]
    rfl

theorem ageExpiry_ordinary : Ordinary s (ageExpiry s) :=
  ageExpiry_keeps.ordinary fun _ ha => by
    rw [ageExpiry, ha.1]
    rfl

theorem handAllowance_ordinary (source : Nat) (payload : List Byte) :
    Ordinary s (handAllowance source payload s) :=
  (handAllowance_keeps source payload).servedOnly fun hn => by
    unfold handAllowance
    split
    · exact if_neg fun hk => by rw [hn] at hk; cases hk.1
    · rfl

theorem handClaim_ordinary (source : Nat) (payload : List Byte) : Ordinary s (handClaim source payload s) :=
  (handClaim_keeps source payload).servedOnly fun hn => by
    unfold handClaim keepsClaim
    split
    · exact if_neg fun hk => by rw [hn] at hk; cases hk
    · rfl

end

/-! ### The line (R180 to R189) -/

section
variable {s t : State}

theorem EndsSending.asleep (h : EndsSending s t) (ha : Asleep s) : Asleep t := by
  obtain ⟨bu, rd, gCeiling, inbox, out⟩ := ha
  refine ⟨?_, h.rd.trans rd, h.gCeiling.trans gCeiling, h.inbox.trans inbox, fun c hc => out c (h.out c hc)⟩
  rw [h.bu]
  exact bu

theorem reportClaim_other {p : TxPost} (h : p.claimOf = none) (acked : Bool) : reportClaim p acked s = s := by
  rw [reportClaim, h]

theorem endSending_ordinary (read : List BitSamples) : Ordinary s (endSending read s) := by
  refine ⟨endSending_keeps read, fun _ ha => ?_⟩
  unfold endSending
  split
  · exact ha
  · next p hp =>
    have other : p.claimOf = none := by
      cases hc : p.claimOf with
      | none => rfl
      | some c => exact absurd (.sent hp hc) (ha.2.2.2.2 c)
    have failed (st : Stat) : Asleep (sendFailed st p s) := by
      rw [sendFailed, reportClaim_other other]
      exact (sendFailed_endsSending st).asleep ha
    split
    · exact (returnPost_endsSending hp _).asleep ha
    · exact failed _
    · exact failed _
    · rw [reportClaim_other other]
      exact (endsSending (s := s) (x := { s.lif with sending := none, runCount := 0 }) rfl rfl
        (fun _ => id) _).asleep ha

/-- The transmitter's start moves a post, and no CLAIM waits behind the CLAIM it takes. -/
theorem startSending_sound : (DutyReserved s → DutyReserved (startSending s)) ∧
    (LineBounded s → ClaimSound s → ClaimSound (startSending s)) := by
  refine ⟨fun hd => ?_, fun ⟨_, single, _⟩ =>
    ((startSending_keeps single).servedOnly fun hn => if_neg fun hk => ?_).keepsSound.claims⟩
  · have alone := startSending_drivesAlone s
    rw [dutyReserved_iff, alone.rd, alone.settings, alone.state]
    have inbox : (startSending s).lif.inbox = s.lif.inbox := by
      unfold startSending
      repeat' split
      all_goals rfl
    rw [inbox]
    exact (dutyReserved_iff s).1 hd
  · rw [hn] at hk
    cases hk.1

theorem drainInbox_keepsSound (s : State) : KeepsSound s (drainInbox s) := by
  cases hs : s.serving with
  | true => exact ((drainInbox_keeps hs).servedOnly fun hn => by rw [hs] at hn; cases hn).keepsSound
  | false =>
    refine ⟨fun hd => ?_, fun hc => ?_⟩
    · obtain ⟨-, rested⟩ := (dutyReserved_iff s).1 hd
      rw [drainInbox_empty (rested (rested_of_unserving hs)).2]
      exact hd
    · obtain ⟨-, -, -, inbox, -⟩ := ((claimSound_iff s).1 hc).2 hs
      rw [drainInbox_empty inbox]
      exact hc

theorem request_ordinary (a : Ask) (r : Request) : Ordinary s (request a r s) :=
  (request_keeps a r).servedOnly fun hn => by
    obtain ⟨active, doze⟩ := unawake_of_unserving hn
    exact if_neg fun hk => hk.elim active fun hd => doze hd.1

theorem route_keepsSound (hs : s.serving = true) (p : RxPost) : KeepsSound s (route p s) := by
  unfold route
  split
  · exact (handBeat_ordinary s _ _).keepsSound
  · exact (handAllowance_ordinary _ _).keepsSound
  · exact (handClaim_ordinary _ _).keepsSound
  · split
    · exact .refl s
    · exact handMode_keepsSound _ _ _
  · split
    · exact .refl s
    · exact ((enterRequest_keeps hs _).servedOnly fun hn => by rw [hs] at hn; cases hn).keepsSound

theorem receive_keepsSound (began : Bool) (samples : List BitSamples) :
    KeepsSound s (receive began samples s) := by
  have unacked : KeepsSound s (setAck false s) := (setAck_calm false s).ordinary.keepsSound
  have counted (st : Stat) (b : Bool) : KeepsSound s (setAck b (count st s)) :=
    ((count_calm st s).trans (setAck_calm b _)).ordinary.keepsSound
  unfold receive
  split
  · exact unacked
  · next hs =>
    split
    · exact counted _ _
    · split
      · exact unacked
      · unfold takePost
        split
        · exact counted _ _
        · split
          · exact counted _ _
          · exact (counted .postsTaken true).trans (route_keepsSound (s := setAck true (count .postsTaken s))
              (not_not.1 fun hn => hs (.inl hn)) _)

end

end Sys2Proof.Machine
end

section
/-! SUPPORT. Every command keeps the reservation and the claim record in order; and what the claim record says of
the part's draw (R128, R139, R144, R145). -/

namespace Sys2Proof.Machine

/-! ### Every step -/

section
variable {s t : State}

/-- Every command but the transmitter's start, which rests on the line's bounds. -/
theorem exec_keepsSound {c : Instr} (hc : c ≠ .transmitStart) (h : exec c s = .next t) : KeepsSound s t := by
  cases c <;> cases h
  case beat => exact (handBeat_ordinary s _ _).keepsSound
  case allowance => exact (handAllowance_ordinary _ _).keepsSound
  case claim => exact (handClaim_ordinary _ _).keepsSound
  case powerModeDoze => exact handMode_keepsSound _ _ _
  case powerModeAwake => exact handMode_keepsSound _ _ _
  case powerModeOffSoon => exact handMode_keepsSound _ _ _
  case receivePost => exact receive_keepsSound _ _
  case transmitStart => exact absurd rfl hc
  case postSendEnd => exact (endSending_ordinary _).keepsSound
  case silentEnd => exact ((leaveSilent_beside s).ordinary (leaveSilent_drivesAlone s)).keepsSound
  case readDataHandover =>
    exact ((readHandover_beside s).ordinary (readHandover_stores s).drivesAlone).keepsSound
  case readPageVerifyComplete =>
    exact ((readVerify_beside s).ordinary (readVerify_stores s).drivesAlone).keepsSound
  case pageCopyComplete =>
    exact ((copyComplete_beside s).ordinary (copyComplete_stores s).drivesAlone).keepsSound.trans
      (drainInbox_keepsSound _)
  case streamIdleTimeout => exact ((idleExpiry_beside s).ordinary (idleExpiry_drivesAlone s)).keepsSound
  case startScrubComplete =>
    split
    · exact .refl s
    · split
      · next hp => exact scrubEnd_keepsSound hp _
      · exact .refl s
  case secondStep => exact ((secondStep_beside s).ordinary (secondStep_clocks s).drivesAlone).keepsSound
  case tickTimerExpiry => exact (timerExpiry_ordinary s).keepsSound
  case lossTimeout => exact (lossExpiry_ordinary s).keepsSound
  case audioSample =>
    split
    · exact ((audioSample_beside s).ordinary (audioSample_drivesAlone s)).keepsSound
    · exact .refl s
  case motorSenseSample => exact (senseSample_ordinary _).keepsSound
  case motorCheckDriveEnd =>
    split
    · exact .refl s
    · next hk =>
      split
      · exact .refl s
      · exact (finishCheck_ordinary hk _).keepsSound
  case settingsReadComplete =>
    split
    · exact .refl s
    · split
      · next hk => exact settingsArrive_keepsSound hk.2 _
      · exact .refl s
  case directoryFetchComplete =>
    split
    · exact .refl s
    · split
      · exact (directoryArrive_ordinary _ _ _ _).keepsSound
      · exact .refl s
      · exact .refl s
  case stepFetchComplete =>
    split
    · exact .refl s
    · split
      · exact (stepsArrive_ordinary _ _ _ _ _).keepsSound
      · exact .refl s
      · exact .refl s
  case allowanceStale => exact allowanceExpiry_ordinary.keepsSound
  case peerClaimExpiry => exact (peerExpiry_ordinary _).keepsSound
  case settleEnd => exact settleExpiry_ordinary.keepsSound
  case listenEnd => exact listenExpiry_ordinary.keepsSound
  case claimRefresh => exact refreshExpiry_ordinary.keepsSound
  case claimAgeExpiry => exact ageExpiry_ordinary.keepsSound
  case railGood =>
    split
    · exact (beginStart_fresh s _ _).keepsSound s
    · exact .refl s
  case railFail =>
    split
    · exact (railLost_fresh s _).keepsSound s
    · exact .refl s
  case keepDomainReset => exact (keepReset_fresh s).keepsSound s
  case keepSupplyRestored =>
    split
    · exact .refl s
    · have supplied : Calm s (s.withPs { s.ps with keepSupply := true, cellCount := 0 }) :=
        ⟨DrivesAlone.beside ⟨rfl, rfl, rfl, rfl, rfl⟩ rfl rfl, rfl⟩
      exact supplied.ordinary.keepsSound
  case coinCellSample =>
    split
    · exact (sampleCell_calm s _).ordinary.keepsSound
    · exact .refl s
  case guardPinChange => exact ((withGuard_beside s _).ordinary (withGuard_drivesAlone s _)).keepsSound
  case guardDebounceEnd =>
    split
    · exact .refl s
    · exact (((reach_beside s _).trans (withGuard_beside _ _)).ordinary
        ((reach_drivesAlone s _).trans (withGuard_drivesAlone _ _))).keepsSound
  all_goals exact (request_ordinary _ _).keepsSound

/-- The commands that wait are no part of what is kept. -/
theorem step_keepsSound (h : step s = .next t) : (DutyReserved s → DutyReserved t) ∧
    (LineBounded s → ClaimSound s → ClaimSound t) := by
  unfold step at h
  split at h
  · cases h
    have kept := ((idle_beside s).ordinary (idle_drivesAlone s)).keepsSound
    exact ⟨kept.duty, fun _ => kept.claims⟩
  · next c rest _ =>
    by_cases hc : c = .transmitStart
    · subst hc
      cases h
      obtain ⟨duty, claims⟩ := startSending_sound (s := { s with pending := rest })
      exact ⟨duty, claims⟩
    · have kept := exec_keepsSound hc h
      exact ⟨kept.duty, fun _ => kept.claims⟩

end

/-! ### The draw (R139, R145) -/

section
variable {st : Settings} {g : Nat}

theorem ampCurrent_positive (h : 0 < st.a0 + st.a1) (hg : 0 < g) : 0 < ampCurrent st g := by
  rw [ampCurrent_pos st hg]
  rcases Nat.eq_zero_or_pos st.a1 with h1 | h1
  · omega
  · have rises : 0 < st.a1 * g := Nat.mul_pos h1 hg
    unfold ceilDiv
    omega

theorem motorCurrent_positive (h : 0 < st.iFull) (hg : 0 < g) : 0 < motorCurrent st g := by
  have rises : 0 < st.iFull * g := Nat.mul_pos h hg
  unfold motorCurrent ceilDiv
  omega

/-- What the part draws beside the core is within what its caps let it draw. -/
theorem draw_le_capDraw {s : State} (h : DriveLimited s) :
    ampCurrent s.settings s.se.gEff + motorCurrent s.settings s.rd.dEff ≤ capDraw s := by
  obtain ⟨duty, gain, -⟩ := h
  refine Nat.add_le_add (ampCurrent_mono _ gain) (motorCurrent_mono _ ?_)
  rw [duty]
  exact effectiveDuty_le _ _ _

/-- A part that draws beside the core has its draw acknowledged. -/
theorem draw_acknowledged {s : State} (hd : DriveLimited s) (hc : ClaimSound s)
    (hp : 0 < ampCurrent s.settings s.se.gEff + motorCurrent s.settings s.rd.dEff) :
    s.bu.holding = false ∧ ∃ claim t, s.bu.acked = some (claim, t) ∧
      s.settings.iCore + ampCurrent s.settings s.se.gEff + motorCurrent s.settings s.rd.dEff ≤ claim := by
  obtain ⟨unacked, fit, hold, acked, -⟩ := hc
  have draw := draw_le_capDraw hd
  have spends : 0 < capDraw s := hp.trans_le draw
  have free : s.bu.holding = false := Bool.eq_false_iff.2 fun hk => spends.ne' (hold hk)
  refine ⟨free, ?_⟩
  cases ha : s.bu.acked with
  | none =>
    rw [unacked ha] at free
    cases free
  | some x =>
    obtain ⟨claim, t⟩ := x
    have covers := acked claim t ha
    have within : capDraw s ≤ s.bu.released - s.settings.iCore := fit
    exact ⟨claim, t, rfl, by omega⟩

end

/-- Settles O7: command by command, the claim record's laws and the caps are carried through every step; what a
part draws stands within its caps, and these within the released claim and the acknowledged one. -/
theorem everyStepKeepsTheDutyReservedAndTheDrawClaimed :
    Obligations.EveryStepKeepsTheDutyReservedAndTheDrawClaimed := by
  refine ⟨fun s t => step_keepsSound, fun s hd hc amp full inUse => draw_acknowledged hd hc ?_⟩
  rcases inUse with gain | duty
  · exact (ampCurrent_positive amp gain).trans_le (Nat.le_add_right _ _)
  · exact (motorCurrent_positive full duty).trans_le (Nat.le_add_left _ _)

end Sys2Proof.Machine
end

section
/-! SUPPORT. A recomputation's formulas, the decisions of a pass on the claim, and the passes until nothing
handed changes (R139, R144 to R151, R154; logs 12 and 35). -/

namespace Sys2Proof.Machine

/-! ### The formulas (R145, R146) -/

/-- P_sum as a sum over the stations (R145). -/
theorem peerSum_eq_sum (b : Budget) :
    peerSum b = ∑ i : Fin 15, (b.peers[i].map Peer.counted).getD 0 := by
  have entries : b.peers.toList = List.ofFn fun i : Fin 15 => b.peers[i] :=
    List.ext_getElem (by simp) fun i _ _ => by
      rw [List.getElem_ofFn, Vector.getElem_toList, Fin.getElem_fin]
  rw [peerSum, entries, List.map_ofFn, List.sum_ofFn]
  rfl

theorem grantBase_eq (s : State) : grantBase s =
    if s.ps.state = .active ∧ s.bu.holding = false then min (headroom s.bu) s.bu.released else 0 := by
  unfold grantBase
  by_cases hp : s.ps.state = .active <;> cases hh : s.bu.holding <;> simp [hp]

/-! ### OVER_ALLOWANCE (R149) -/

section
variable {s : State}

/-- The flag takes the side of I_core on which the headroom stands, and the notice tells it. -/
theorem examineOver_crossed {now : Bool} (hs : s.serving = true)
    (hn : decide (headroom s.bu < s.settings.iCore) = now) (hf : now ≠ s.bu.overFlag) :
    examineOver s = raiseNotice (.overAllowance now s.bu.allowance (peerSum s.bu) (headroom s.bu))
      (s.withBu { s.bu with overFlag := now }) := by
  subst hn
  exact if_pos (by simpa [hs] using hf)

theorem examineOver_uncrossed
    (h : s.serving = false ∨ decide (headroom s.bu < s.settings.iCore) = s.bu.overFlag) :
    examineOver s = s := by
  refine if_neg ?_
  rcases h with h | h <;> simp [h]

theorem examineOver_flag (hs : s.serving = true) :
    (examineOver s).bu.overFlag = decide (headroom s.bu < s.settings.iCore) := by
  by_cases h : decide (headroom s.bu < s.settings.iCore) = s.bu.overFlag
  · rw [examineOver_uncrossed (.inr h), h]
  · rw [examineOver_crossed hs rfl h, (raiseNotice_posts _ _).bu]
    rfl

end

/-! ### The decisions on the claim (R150, R151, R154) -/

section
variable {s : State} {ann : Nat}

theorem decideClaim_idle (h : s.ps.state ≠ .active ∨ s.bu.announced = none) : decideClaim s = s := by
  unfold decideClaim
  split
  · rfl
  · next ha => exact if_pos (h.resolve_right fun hn => nomatch hn.symm.trans ha)

/-- With a raise in progress only a higher wanted claim acts (R151). -/
theorem decideClaim_raising (hp : s.ps.state = .active) (ha : s.bu.announced = some ann) {r : Raise}
    (hr : s.bu.raise = some r) :
    decideClaim s = if r.planned < wantedClaim s then beginRaise s else s := by
  simp only [decideClaim, ha, hp, hr, ne_eq, not_true_eq_false, if_false]

/-- Without one, a higher wanted claim begins a raise after the listen period, and a lower claim far enough
below the announced one is announced (R150, R154). -/
theorem decideClaim_calm (hp : s.ps.state = .active) (ha : s.bu.announced = some ann)
    (hr : s.bu.raise = none) : decideClaim s =
      if ann < wantedClaim s then (if s.bu.listenEnd.isSome then s else beginRaise s)
      else if lowerClaim s + 4 ≤ ann ∧ s.se.gEff ≤ s.se.gTarget then
        announce (lowerClaim s) (s.withBu { s.bu with released := lowerClaim s })
      else s := by
  simp only [decideClaim, ha, hp, hr, ne_eq, not_true_eq_false, if_false]

theorem beginRaise_bu (s : State) : (beginRaise s).bu = { s.bu with
    raise := some { planned := wantedClaim s, settleStart := none }
    announced := some (wantedClaim s), handedAt := some s.now } := announce_bu _ _

theorem decideClaim_overFlag (s : State) : (decideClaim s).bu.overFlag = s.bu.overFlag := by
  rcases decideClaim_cases s with h | h | h <;> rw [h]
  · rw [beginRaise_bu]
  · rw [announce_bu]
    rfl

/-- The released claim changes only where the lower claim is announced, 4 mA or more below the one before. -/
theorem decideClaim_lowers (h : (decideClaim s).bu.released ≠ s.bu.released) :
    (decideClaim s).bu.announced = some (lowerClaim s) ∧
      ∃ ann, s.bu.announced = some ann ∧ lowerClaim s + 4 ≤ ann := by
  by_cases hp : s.ps.state = .active
  · cases ha : s.bu.announced with
    | none => exact absurd (by rw [decideClaim_idle (.inr ha)]) h
    | some ann =>
      cases hr : s.bu.raise with
      | some r =>
        rw [decideClaim_raising hp ha hr] at h
        split at h
        · exact absurd (by rw [beginRaise_bu]) h
        · exact absurd rfl h
      | none =>
        rw [decideClaim_calm hp ha hr] at h ⊢
        split at h
        · split at h
          · exact absurd rfl h
          · exact absurd (by rw [beginRaise_bu]) h
        · next hw =>
          split at h
          · next hl =>
            rw [if_neg hw, if_pos hl, announce_bu]
            exact ⟨rfl, ann, rfl, hl.1⟩
          · exact absurd rfl h
  · exact absurd (by rw [decideClaim_idle (.inl hp)]) h

end

end Sys2Proof.Machine
end

section
/-! SUPPORT. The passes of a recomputation come to rest: without a lowered claim the third at the latest hands
back what stood, and a lowered claim takes three passes more (R145, R148, R154; log 12). -/

namespace Sys2Proof.Machine

/-! ### Passes at the same demands -/

/-- The caps follow from the settings, the demands and the grant base (R146, R147). -/
theorem caps_congr {s t : State} (hs : t.settings = s.settings) (hd : gainDemand t = gainDemand s)
    (hr : t.rd.dRes = s.rd.dRes) (hb : grantBase t = grantBase s) :
    gainCeiling t = gainCeiling s ∧ dutyCap t = dutyCap s := by
  have ceiling : gainCeiling t = gainCeiling s := by
    rw [gainCeiling, soundShare, hs, hd, hb, gainCeiling, soundShare]
  refine ⟨ceiling, ?_⟩
  rw [dutyCap, motorShare, hs, hd, hr, hb, ceiling, dutyCap, motorShare]

/-- A grant base that covers the demand Q gives the demands their whole currents (R146, R147, R150). -/
theorem shares_of_granted {s : State} (h : (claimDemand s : Int) ≤ grantBase s) :
    soundShare s = ampCurrent s.settings (gainDemand s) ∧
      motorShare s = motorCurrent s.settings s.rd.dRes := by
  rw [claimDemand] at h
  have held : ampCurrent s.settings (min (gainDemand s) (gainCeiling s)) ≤
      ampCurrent s.settings (gainDemand s) := ampCurrent_mono _ (min_le_left _ _)
  unfold soundShare motorShare
  omega

section
variable {s t : State} (h : Passed s t)
include h

theorem Passed.gainDemand_low (hg : s.se.gEff ≤ s.se.gTarget) : gainDemand t = gainDemand s := by
  have gTarget := h.gTarget
  have gEff := h.gEff
  unfold gainDemand
  omega

theorem Passed.claimDemand_low (hg : s.se.gEff ≤ s.se.gTarget) : claimDemand t = claimDemand s := by
  rw [claimDemand, h.settings, h.gainDemand_low hg, h.dRes, claimDemand]

theorem Passed.wantedClaim_low (hg : s.se.gEff ≤ s.se.gTarget) : wantedClaim t = wantedClaim s := by
  rw [wantedClaim, h.settings, h.claimDemand_low hg, h.room, wantedClaim]

theorem Passed.rd_eq : t.rd = { s.rd with
    dBudget := dutyCap s
    dEff := effectiveDuty s.settings s.ps.state { s.rd with dBudget := dutyCap s } } := h.rd

/-- A pass whose caps stand as it handed them leaves the part at rest. -/
theorem Passed.rested_of_caps (hc : gainCeiling t = gainCeiling s ∧ dutyCap t = dutyCap s) : Rested t := by
  obtain ⟨ceiling, cap⟩ := hc
  refine ⟨?_, ?_, ?_⟩
  · rw [Held, h.gEff, ceiling]
    exact min_le_right _ _
  · rw [h.rd_eq, cap]
  · rw [h.rd_eq, h.settings, h.state]
    rfl

/-- From rest a pass hands back the gain and the duty that stood. -/
theorem Passed.drives_of_rested (hs : Rested s) : t.se.gEff = s.se.gEff ∧ t.rd.dEff = s.rd.dEff := by
  have record : ({ s.rd with dBudget := dutyCap s } : Rumble) = s.rd := by rw [← hs.cap]
  refine ⟨h.gEff.trans (min_eq_left hs.held), ?_⟩
  rw [h.rd_eq, record, hs.duty]

end

/-! ### After the claim is lowered (R154) -/

/-- The released claim covers the wanted one, at a gain that has come down to its target. -/
def Covered (s : State) : Prop := Lowered s ∧ wantedClaim s ≤ s.bu.released

section
variable {s t : State} (h : Passed s t)
include h

theorem Passed.covered_of_changed (hr : t.bu.released ≠ s.bu.released) : Covered t :=
  ⟨h.lowered_of_changed hr, (h.released.resolve_left hr).1 ▸ le_max_left _ _⟩

theorem Passed.covered (hs : Covered s) : Covered t := by
  by_cases hr : t.bu.released = s.bu.released
  · refine ⟨h.lowered hs.1, ?_⟩
    rw [h.wantedClaim_low hs.1.1, hr]
    exact hs.2
  · exact h.covered_of_changed hr

/-- While the released claim covers the wanted one, it either does not limit the grant base or covers the
demand Q. -/
theorem Passed.base_of_covered (hs : Covered s) : grantBase t = grantBase s ∨
    (claimDemand s : Int) ≤ grantBase s ∧ (claimDemand s : Int) ≤ grantBase t := by
  obtain ⟨⟨low, small⟩, covers⟩ := hs
  obtain ⟨⟨-, small'⟩, covers'⟩ := h.covered ⟨⟨low, small⟩, covers⟩
  rw [h.wantedClaim_low low] at covers'
  unfold wantedClaim roundup2 at covers covers'
  rw [grantBase, grantBase, h.state, h.holding, h.room]
  split <;> omega

/-- After a lowering the caps no longer depend on how far the claim is lowered (R146, R147, R154). -/
theorem Passed.caps_of_covered (hs : Covered s) :
    gainCeiling t = gainCeiling s ∧ dutyCap t = dutyCap s := by
  have low := hs.1.1
  rcases h.base_of_covered hs with base | ⟨granted, granted'⟩
  · exact caps_congr h.settings (h.gainDemand_low low) h.dRes base
  · rw [← h.claimDemand_low low] at granted'
    obtain ⟨sound, motor⟩ := shares_of_granted granted
    obtain ⟨sound', motor'⟩ := shares_of_granted granted'
    rw [gainCeiling, dutyCap, sound', motor', h.settings, h.gainDemand_low low, h.dRes, gainCeiling, dutyCap,
      sound, motor]
    exact ⟨rfl, rfl⟩

theorem Passed.rested_of_covered (hs : Covered s) : Rested t := h.rested_of_caps (h.caps_of_covered hs)

/-- At rest the lower claim stands (R154). -/
theorem Passed.lowerClaim_of_rested (hs : Rested s) (hg : s.se.gEff ≤ s.se.gTarget) :
    lowerClaim t = lowerClaim s := by
  obtain ⟨gEff, dEff⟩ := h.drives_of_rested hs
  rw [lowerClaim, h.wantedClaim_low hg, ownDraw, h.settings, gEff, dEff, lowerClaim, ownDraw]

end

/-- A pass that changes the released claim announces the lower claim, 4 mA or more below the one before. -/
theorem recomputeOnce_lowers {s : State} (h : (recomputeOnce s).bu.released ≠ s.bu.released) :
    (recomputeOnce s).bu.announced = some (lowerClaim (recomputeOnce s)) ∧
      ∃ ann, s.bu.announced = some ann ∧ lowerClaim (recomputeOnce s) + 4 ≤ ann := by
  obtain ⟨flag, posts⟩ := examineOver_posts (handCaps s)
  have examined : (examineOver (handCaps s)).bu = { s.bu with overFlag := flag } := posts.bu
  have lower : lowerClaim (recomputeOnce s) = lowerClaim (examineOver (handCaps s)) :=
    lowerClaim_congr (decideClaim_drivesAlone _).settings (decideClaim_se _) (decideClaim_drivesAlone _).rd
      (decideClaim_bu _).1
  obtain ⟨announced, ann, before, below⟩ := decideClaim_lowers (s := examineOver (handCaps s))
    (by rw [examined]; exact h)
  rw [lower]
  exact ⟨announced, ann, by rw [← before, examined], below⟩

/-- A claim just lowered from rest is not lowered again. -/
theorem released_of_lowered_at_rest {s : State} (hs : Rested s) (hl : Lowered s)
    (ha : s.bu.announced = some (lowerClaim s)) : (recomputeOnce s).bu.released = s.bu.released := by
  by_contra hr
  obtain ⟨-, ann, before, below⟩ := recomputeOnce_lowers hr
  obtain rfl := Option.some.inj (ha.symm.trans before)
  rw [(recomputeOnce_passed s).lowerClaim_of_rested hs hl.1] at below
  omega

/-! ### The passes come to rest (R145, R148; log 12) -/

/-- Within `k` passes one hands back what stood before it, and the recomputation ends there. -/
def Settles (k : Nat) (s : State) : Prop :=
  ∃ n < k, recomputeUpTo recomputeOnce k s = recomputeOnce^[n + 1] s ∧
    budgetEcho (recomputeOnce^[n + 1] s) = budgetEcho (recomputeOnce^[n] s)

section
variable {k : Nat} {s : State}

/-- A pass that hands back what stood ends the passes; after any other the rest must settle. -/
theorem settles_succ (h : budgetEcho (recomputeOnce s) ≠ budgetEcho s → Settles k (recomputeOnce s)) :
    Settles (k + 1) s := by
  by_cases he : budgetEcho (recomputeOnce s) = budgetEcho s
  · exact ⟨0, k.succ_pos, if_pos he, he⟩
  · obtain ⟨n, hn, ends, echo⟩ := h he
    exact ⟨n + 1, Nat.succ_lt_succ hn, (if_neg he).trans ends, echo⟩

theorem settles_of_echo (h : budgetEcho (recomputeOnce s) = budgetEcho s) : Settles (k + 1) s :=
  settles_succ fun he => absurd h he

theorem budgetEcho_of_rested (hs : Rested s) (hr : (recomputeOnce s).bu.released = s.bu.released) :
    budgetEcho (recomputeOnce s) = budgetEcho s :=
  (recomputeOnce_passed s).echo hr hs

/-- From rest one more lowering is possible at most. -/
theorem settles_of_rested_covered (hs : Rested s) (hc : Covered s) : Settles (k + 2) s := by
  have passed := recomputeOnce_passed s
  refine settles_succ fun he => settles_of_echo ?_
  have lowered : (recomputeOnce s).bu.released ≠ s.bu.released := fun hr => he (budgetEcho_of_rested hs hr)
  have rested := passed.rested_of_covered hc
  exact budgetEcho_of_rested rested (released_of_lowered_at_rest rested (passed.covered hc).1
    (recomputeOnce_lowers lowered).1)

theorem settles_of_covered (hc : Covered s) : Settles (k + 3) s :=
  settles_succ fun _ => settles_of_rested_covered ((recomputeOnce_passed s).rested_of_covered hc)
    ((recomputeOnce_passed s).covered hc)

/-- A pass lowers the claim, and then the passes settle, or leaves it to the further ones. -/
theorem settles_of_unlowered
    (h : (recomputeOnce s).bu.released = s.bu.released → budgetEcho (recomputeOnce s) ≠ budgetEcho s →
      Settles (k + 3) (recomputeOnce s)) : Settles (k + 4) s := by
  refine settles_succ fun he => ?_
  by_cases hr : (recomputeOnce s).bu.released = s.bu.released
  · exact h hr he
  · exact settles_of_covered ((recomputeOnce_passed s).covered_of_changed hr)

/-- Every recomputation settles within its eight passes. -/
theorem recompute_settles (s : State) : Settles 8 s :=
  settles_of_unlowered fun hr _ => settles_of_unlowered fun hr' _ => settles_of_unlowered fun hr'' he =>
    absurd (budgetEcho_of_rested
      ((recomputeOnce_passed _).rested hr' ((recomputeOnce_passed s).held hr)) hr'') he

/-- A pass that hands back what stood leaves the caps as a further one would hand them. -/
theorem caps_of_echo (h : budgetEcho (recomputeOnce s) = budgetEcho s) :
    gainCeiling (recomputeOnce s) = gainCeiling s ∧ dutyCap (recomputeOnce s) = dutyCap s := by
  have passed := recomputeOnce_passed s
  have gEff : (recomputeOnce s).se.gEff = s.se.gEff := congrArg (·.1) h
  refine caps_congr passed.settings ?_ passed.dRes (passed.base (released_of_echo h))
  rw [gainDemand, passed.gTarget, gEff, gainDemand]

theorem recomputeOnce_overFlag (hs : s.serving = true) :
    (recomputeOnce s).bu.overFlag = decide (headroom s.bu < s.settings.iCore) :=
  (decideClaim_overFlag _).trans (examineOver_flag (s := handCaps s) hs)

/-- What a recomputation leaves: the caps as a further one would hand them, the drives within them, and the
OVER_ALLOWANCE flag as the headroom has it (R145, R148, R149). -/
theorem recompute_rests (s : State) : Rested (recompute s) ∧
    (recompute s).se.gCeiling = gainCeiling (recompute s) ∧
    ((recompute s).serving = true →
      (recompute s).bu.overFlag = decide (headroom (recompute s).bu < (recompute s).settings.iCore)) := by
  obtain ⟨n, -, ends, echo⟩ := recompute_settles s
  rw [Function.iterate_succ_apply'] at ends echo
  rw [show recompute s = _ from ends]
  generalize recomputeOnce^[n] s = b at echo
  have passed := recomputeOnce_passed b
  have caps := caps_of_echo echo
  refine ⟨passed.rested_of_caps caps, (congrArg Sound.gCeiling passed.se).trans caps.1.symm, fun hs => ?_⟩
  rw [passed.room, passed.settings]
  refine recomputeOnce_overFlag ?_
  rwa [State.serving, ← passed.state]

end

end Sys2Proof.Machine
end

section
/-! SUPPORT. A recomputation as a whole (R139, R144 to R151, R154). -/

namespace Sys2Proof.Machine

theorem Budgets.nu {s t : State} (h : Budgets s t) : t.nu =
    { s.nu with pendingFlags := t.nu.pendingFlags, counters := t.nu.counters } :=
  (congrArg State.nu h).trans rfl

/-- Settles O58: each part by its formula; the passes settle by `recompute_settles`, and what they leave stands
by `recompute_rests`. -/
theorem recomputationSettles : Obligations.RecomputationSettles := by
  intro s st b core amp motor even counted sum room base demand sound ceiling want lower serving crossed raised t
  have hsum : sum = peerSum s.bu := by
    rw [peerSum_eq_sum]
    refine Finset.sum_congr rfl fun i _ => ?_
    cases hp : s.bu.peers[i] <;> simp only [counted, b, hp] <;> rfl
  have hroom : room = headroom s.bu := by rw [headroom, ← hsum]
  have hbase : base = grantBase s := by rw [grantBase_eq, ← hroom]
  have hceiling : ceiling = gainCeiling s := by
    rw [gainCeiling, soundShare, ← hbase]
    rfl
  have hwant : want = wantedClaim s := by
    rw [wantedClaim, ← hroom]
    rfl
  have hlower : lower = lowerClaim s := by
    rw [lowerClaim, ← hwant]
    rfl
  clear_value sum room base ceiling want lower
  subst hsum hroom hbase hceiling hwant hlower
  refine ⟨⟨rfl, rfl⟩, rfl, fun hs low clear => ?_, fun hs high flagged => ?_, fun still => ?_, fun _ => rfl,
    decideClaim_idle, fun ann hp ha => ⟨fun r hr => ?_, fun hr => ?_⟩, rfl, ?_, ?_⟩
  · exact examineOver_crossed (s.serving_iff.2 hs) (decide_eq_true low) (clear ▸ nofun)
  · exact examineOver_crossed (s.serving_iff.2 hs) (decide_eq_false high.not_gt) (flagged ▸ nofun)
  · refine examineOver_uncrossed (still.imp (fun hs => ?_) fun h => ?_)
    · rwa [← Bool.not_eq_true, s.serving_iff]
    · rw [Bool.eq_iff_iff, decide_eq_true_iff]
      exact h
  · rw [decideClaim_raising hp ha hr]
    exact ⟨fun above => if_pos above, fun within => if_neg within.not_gt⟩
  · have covers : wantedClaim s ≤ lowerClaim s := le_max_left _ _
    rw [decideClaim_calm hp ha hr]
    refine ⟨fun above quiet => ?_, fun above listening => ?_, fun far settled => ?_, fun within near => ?_⟩
    · exact (if_pos above).trans (if_neg (by simp [b, quiet]))
    · exact (if_pos above).trans (if_pos (Option.isSome_iff_ne_none.2 listening))
    · exact (if_neg (by omega)).trans (if_pos ⟨far, settled⟩)
    · exact (if_neg within.not_gt).trans (if_neg (by omega))
  · obtain ⟨n, within, ends, echo⟩ := recompute_settles s
    simp only [budgetEcho, Prod.mk.injEq, ← ends] at echo
    exact ⟨n, within, ends, echo⟩
  · obtain ⟨rested, gCeiling, flag⟩ := recompute_rests s
    have budgets := recompute_budgets s
    refine ⟨gCeiling, rested.cap, gCeiling ▸ rested.held, rested.duty, fun hs => ?_, ?_, ?_⟩
    · rw [flag (State.serving_iff _ |>.2 hs), decide_eq_true_iff]
    · exact Eq.trans budgets (by rw [← budgets.nu])
    · exact (congrArg Notices.mask budgets.nu).trans rfl

end Sys2Proof.Machine
end

section
/-! SUPPORT. The motor share and the duty cap, and the draw that the handed caps leave (R128, R139, R146,
R147). -/

namespace Sys2Proof.Machine

section
variable (s : State)

/-- The motor's current fits in a share up to the share's cap (R147). -/
theorem motorCurrent_le_iff {st : Settings} (full : 0 < st.iFull) {d share : Nat} (hd : d ≤ 255) :
    motorCurrent st d ≤ share ↔ d ≤ min 255 (share * 255 / st.iFull) := by
  rw [motorCurrent, ceilDiv_le_iff, le_min_iff, Nat.le_div_iff_mul_le full, Nat.mul_comm d, Nat.mul_comm share]
  exact (and_iff_right hd).symm

theorem cap_cast (share full : Nat) : ((min 255 (share * 255 / full) : Nat) : Int) =
    min 255 ⌊(share : ℚ) * 255 / full⌋ := by
  have quotient := Rat.floor_natCast_div_natCast (share * 255) full
  push_cast at quotient ⊢
  rw [quotient]

theorem cap_of_no_share {st : Settings} {share : Nat} (h : share = 0) :
    min 255 (share * 255 / st.iFull) = 0 := by
  rw [h, Nat.zero_mul, Nat.zero_div, Nat.min_zero]

theorem effectiveDuty_le_dReq (st : Settings) (p : PowerState) (r : Rumble) :
    effectiveDuty st p r ≤ r.dReq := by
  unfold effectiveDuty
  split
  · split <;> omega
  · exact Nat.zero_le _

/-- What the sound takes, at the demand held to its ceiling (R147). -/
def soundDraw : Nat := ampCurrent s.settings (min (gainDemand s) (gainCeiling s))

/-- The motor share is what the sound leaves of the grant base, as far as the reserved duty asks (R147). -/
theorem motorShare_cast : (motorShare s : Int) = min (motorCurrent s.settings s.rd.dRes : Int)
    (max 0 (grantBase s - s.settings.iCore - soundDraw s)) := by
  unfold motorShare soundDraw
  omega

theorem soundDraw_le : soundDraw s ≤ (grantBase s - s.settings.iCore).toNat :=
  ((ampCurrent_mono _ (min_le_right _ _)).trans (ampCurrent_ceilingFor_le _)).trans (min_le_right _ _)

/-- The current planned for stands within the grant base, or is the core's alone (R147). -/
theorem planned_le : ((s.settings.iCore + soundDraw s +
    motorCurrent s.settings (min s.rd.dRes (dutyCap s)) : Nat) : Int) ≤
      max (grantBase s) s.settings.iCore := by
  have motor : motorCurrent s.settings (min s.rd.dRes (dutyCap s)) ≤ motorShare s :=
    (motorCurrent_mono _ (min_le_right _ _)).trans (motorCurrent_cap_le _)
  have sound := soundDraw_le s
  have share := motorShare_cast s
  omega

theorem handCaps_gEff_le : (handCaps s).se.gEff ≤ min (gainDemand s) (gainCeiling s) :=
  min_le_min_right _ (le_max_right _ _)

/-- A duty asked for within the reserved one is driven within it and within the cap (R128, R147). -/
theorem handCaps_dEff_le (h : s.rd.dReq ≤ s.rd.dRes) :
    (handCaps s).rd.dEff ≤ min s.rd.dRes (dutyCap s) :=
  le_min ((effectiveDuty_le_dReq _ _ _).trans h) (effectiveDuty_le _ _ _)

end

/-- Settles O57: the share and the cap by their formulas; the gain and the duty that the caps leave stand within
what was planned for, and the currents rise with them. -/
theorem motorTakesWhatTheSoundShareLeaves : Obligations.MotorTakesWhatTheSoundShareLeaves := by
  intro s full base core demand sound share cap planned t
  have shared := motorShare_cast s
  refine ⟨shared, cap_cast _ _, fun d hd => motorCurrent_le_iff full hd, fun hr => cap_of_no_share ?_,
    fun taken => cap_of_no_share ?_, rfl, rfl, handCaps_gEff_le s,
    fun asked => ⟨handCaps_dEff_le s asked, ?_⟩, planned_le s⟩
  · rw [hr, motorCurrent_zero] at shared
    omega
  · have taken' : grantBase s - s.settings.iCore ≤ soundDraw s := taken
    omega
  · exact Nat.add_le_add (Nat.add_le_add_left (ampCurrent_mono _ (handCaps_gEff_le s)) _)
      (motorCurrent_mono _ (handCaps_dEff_le s asked))

end Sys2Proof.Machine
end

section
/-! SUPPORT. ALLOWANCE, CLAIM and the Budget Unit's timers, each as its rule spells it (R140 to R143, R153,
R155 to R157). -/

namespace Sys2Proof.Machine

theorem recomputeWith_eq (b : Budget) (s : State) :
    recomputeWith b s = recompute { s with bu := b } := rfl

section
variable {s : State}

/-! ### ALLOWANCE (R140, R141) -/

theorem exec_allowance : ∀ source payload s,
    exec (.allowance source payload) s = .next (handAllowance source payload s) := by
  intros
  rfl

theorem handAllowance_kept (hs : s.serving = true) (x : Byte) :
    handAllowance s.settings.powerStation [x] s = recompute { s with bu := { s.bu with
      allowance := 2 * x.toNat, heard := some s.now, fresh := true } } :=
  if_pos ⟨hs, rfl⟩

theorem handAllowance_dropped {source : Nat} {payload : List Byte}
    (h : ¬ s.serving = true ∨ source ≠ s.settings.powerStation ∨ payload.length ≠ 1) :
    handAllowance source payload s = s := by
  unfold handAllowance
  split
  · refine if_neg fun ⟨hs, source⟩ => ?_
    rcases h with h | h | h
    · exact h hs
    · exact h source
    · exact h rfl
  · rfl

theorem exec_allowanceStale : ∀ s, exec .allowanceStale s = .next (allowanceExpiry s) := by
  intros
  rfl

theorem allowanceExpiry_fresh {t : Nat} (ht : s.bu.heard = some t) (hf : s.bu.fresh = true) :
    allowanceExpiry s = recompute { reach (t + Config.staleCounts) s with bu := { s.bu with
      allowance := s.settings.safeAllowance, fresh := false } } := by
  unfold allowanceExpiry
  split
  · next hn => cases hn.symm.trans ht
  · next u hu =>
    obtain rfl := Option.some.inj (hu.symm.trans ht)
    have stale : ({ (reach (u + Config.staleCounts) s).bu with
        allowance := (reach (u + Config.staleCounts) s).settings.safeAllowance, fresh := false } : Budget) =
        { s.bu with allowance := s.settings.safeAllowance, fresh := false } := by rw [reach_bu, reach_settings]
    rw [if_pos hf, recomputeWith_eq, stale]

theorem allowanceExpiry_idle (h : s.bu.heard = none ∨ s.bu.fresh = false) : allowanceExpiry s = s := by
  unfold allowanceExpiry
  split
  · rfl
  · next ht =>
    have stale : s.bu.fresh = false := h.resolve_left fun hn => nomatch hn.symm.trans ht
    exact if_neg (by simp [stale])

/-! ### CLAIM (R142, R143) -/

theorem exec_claim : ∀ source payload s,
    exec (.claim source payload) s = .next (handClaim source payload s) := by
  intros
  rfl

theorem keepsClaim_iff {source : Nat} {rail : Byte} : keepsClaim s source rail = true ↔
    s.serving = true ∧ rail = 0 ∧ source < 15 ∧ source ≠ s.lif.own ∧
      source ≠ s.settings.powerStation := by
  simp [keepsClaim, and_assoc]

theorem handClaim_kept {source : Nat} (hs : s.serving = true) (hk : source < 15)
    (other : ¬ (source = s.lif.own ∨ source = s.settings.powerStation)) (x : Byte) :
    handClaim source [0, x] s = recompute { s with
      bu := s.bu.withPeer source (some (peerAfter (s.bu.peer source) (2 * x.toNat) s.now)) } :=
  if_pos (keepsClaim_iff.2 ⟨hs, rfl, hk, not_or.1 other⟩)

theorem handClaim_dropped {source : Nat} {payload : List Byte}
    (h : ¬ s.serving = true ∨ (source = s.lif.own ∨ source = s.settings.powerStation) ∨
      ∀ x : Byte, payload ≠ [0, x]) : handClaim source payload s = s := by
  unfold handClaim
  split
  · next rail x =>
    refine if_neg fun hk => ?_
    obtain ⟨hs, rfl, -, other⟩ := keepsClaim_iff.1 hk
    rcases h with h | h | h
    · exact h hs
    · exact not_or.2 other h
    · exact h x rfl
  · rfl

theorem exec_peerClaimExpiry : ∀ station s,
    exec (.peerClaimExpiry station) s = .next (peerExpiry station s) := by
  intros
  rfl

theorem peerExpiry_known {station : Nat} {p : Peer} (hp : s.bu.peer station = some p) :
    peerExpiry station s =
      recompute { reach (p.lastHeard + Config.staleCounts) s with bu := s.bu.withPeer station none } := by
  rw [peerExpiry, hp]
  dsimp only
  rw [recomputeWith_eq, reach_bu]

theorem peerExpiry_unknown {station : Nat} (hp : s.bu.peer station = none) :
    peerExpiry station s = s := by
  rw [peerExpiry, hp]

/-! ### The claim-age guard (R156) -/

theorem exec_claimAgeExpiry : ∀ s, exec .claimAgeExpiry s = .next (ageExpiry s) := by
  intros
  rfl

theorem ageExpiry_acked {c t : Nat} (ha : s.bu.acked = some (c, t)) (hh : s.bu.holding = false) :
    ageExpiry s = recompute { reach (t + Config.claimAgeCounts) s with bu := { s.bu with holding := true } } := by
  unfold ageExpiry
  split
  · next hn => cases hn.symm.trans ha
  · next u hu =>
    obtain ⟨-, rfl⟩ := Prod.mk.inj (Option.some.inj (hu.symm.trans ha))
    rw [if_neg (by simp [hh]), recomputeWith_eq, reach_bu]

theorem ageExpiry_idle (h : s.bu.acked = none ∨ s.bu.holding = true) : ageExpiry s = s := by
  unfold ageExpiry
  split
  · rfl
  · next ha => exact if_pos (h.resolve_left fun hn => nomatch hn.symm.trans ha)

/-! ### The listen period (R153, R157) -/

theorem exec_listenEnd : ∀ s, exec .listenEnd s = .next (listenExpiry s) := by
  intros
  rfl

/-- The part after the listen period that ends at count `t`, recomputed (R157). -/
def listened (t : Nat) (s : State) : State :=
  recompute { reach t s with bu := { s.bu with listenEnd := none } }

theorem listened_eq (t : Nat) (s : State) :
    recomputeWith { (reach t s).bu with listenEnd := none } (reach t s) = listened t s := by
  rw [recomputeWith_eq, reach_bu, listened]

theorem listenExpiry_running {t : Nat} (ht : s.bu.listenEnd = some t) : listenExpiry s =
    grant (if (listened t s).reportable then report (listened t s) else listened t s) := by
  unfold listenExpiry
  split
  · next hn => cases hn.symm.trans ht
  · next u hu =>
    obtain rfl := Option.some.inj (hu.symm.trans ht)
    rw [← listened_eq]

theorem listenExpiry_idle (ht : s.bu.listenEnd = none) : listenExpiry s = s := by
  unfold listenExpiry
  split
  · rfl
  · next hu => cases hu.symm.trans ht

/-- With the listen period over a report waits on no other end (R153). -/
theorem reportable_listened_iff {t : Nat} : (listened t s).reportable = true ↔
    0 < (listened t s).rd.dRes ∧ (listened t s).ps.state = .active ∧ (listened t s).bu.raise = none := by
  have ended : (listened t s).bu.listenEnd = none :=
    (congrArg (·.bu.listenEnd) (recompute_budgets _)).trans rfl
  rw [reportable_iff]
  simp only [ended, and_true]

/-! ### Refreshes (R155) -/

theorem exec_claimRefresh : ∀ s, exec .claimRefresh s = .next (refreshExpiry s) := by
  intros
  rfl

/-- The announced claim is not lowered at a refresh during a raise, at a gain above its target and in the listen
period (R155). -/
theorem refresh_held_iff {u : State} : (u.bu.raise.isSome || decide (u.se.gTarget < u.se.gEff) ||
    u.bu.listenEnd.isSome) = true ↔
      u.bu.raise ≠ none ∨ u.se.gTarget < u.se.gEff ∨ u.bu.listenEnd ≠ none := by
  simp [Option.isSome_iff_ne_none, or_assoc]

/-- A refresh in the part at its due count `u`: the least claim in DOZE, the announced claim while it is held,
and else the lower one, released (R155). -/
def refreshed (ann : Nat) (u : State) : State :=
  let c := min ann (lowerClaim u)
  if u.ps.state = .doze then announce (leastClaim u.settings) u
  else if u.bu.raise ≠ none ∨ u.se.gTarget < u.se.gEff ∨ u.bu.listenEnd ≠ none then announce ann u
  else recompute (announce c { u with bu := { u.bu with released := c } })

theorem refreshExpiry_due {t ann : Nat} (ht : s.bu.handedAt = some t) (ha : s.bu.announced = some ann) :
    refreshExpiry s = refreshed ann (reach (t + Config.refreshCounts) s) := by
  unfold refreshExpiry
  split
  · next t' ann' ht' ha' =>
    obtain rfl := Option.some.inj (ht'.symm.trans ht)
    obtain rfl := Option.some.inj (ha'.symm.trans ha)
    simp only [refresh_held_iff]
    rfl
  · next hn => exact (hn t ann ht ha).elim

theorem refreshExpiry_idle (h : s.bu.handedAt = none ∨ s.bu.announced = none) : refreshExpiry s = s := by
  unfold refreshExpiry
  split
  · next ht ha =>
    rcases h with h | h
    · cases h.symm.trans ht
    · cases h.symm.trans ha
  · rfl

end

/-- Settles O59, post by post and timer by timer. -/
theorem budgetUnitTakesPostsAndTimers : Obligations.BudgetUnitTakesPostsAndTimers := by
  intro s b heard
  have served : heard ↔ s.serving = true := s.serving_iff.symm
  refine ⟨fun source payload => ⟨?_, fun h => ?_⟩, fun source payload hk => ⟨?_, fun h => ?_⟩,
    fun t ht hf => ?_, fun h => ?_, fun station p hp => ?_, fun station hp => ?_, fun c t ha hh => ?_,
    fun h => ?_, fun t ht => ⟨fun waits => ?_, fun waits => ?_⟩, fun ht => ?_,
    fun t ann ht ha => ⟨fun hp => ?_, fun hp hh => ?_, fun hp hh => ?_⟩, fun h => ?_⟩
  · rintro x hs rfl rfl
    rw [exec_allowance, handAllowance_kept (served.1 hs)]
  · rw [served] at h
    rw [exec_allowance, handAllowance_dropped h]
  · rintro x hs other rfl
    rw [exec_claim, handClaim_kept (served.1 hs) hk other]
    cases hp : s.bu.peer source <;> rfl
  · rw [served] at h
    rw [exec_claim, handClaim_dropped h]
  · rw [exec_allowanceStale, allowanceExpiry_fresh ht hf, Config.staleCounts]
  · rw [exec_allowanceStale, allowanceExpiry_idle h]
  · rw [exec_peerClaimExpiry, peerExpiry_known hp, Config.staleCounts]
  · rw [exec_peerClaimExpiry, peerExpiry_unknown hp]
  · rw [exec_claimAgeExpiry, ageExpiry_acked ha hh, Config.claimAgeCounts]
  · rw [exec_claimAgeExpiry, ageExpiry_idle h]
  · rw [exec_listenEnd, listenExpiry_running ht, if_pos (reportable_listened_iff.2 waits)]
    rfl
  · rw [exec_listenEnd, listenExpiry_running ht, if_neg (reportable_listened_iff.not.2 waits)]
    rfl
  · rw [exec_listenEnd, listenExpiry_idle ht]
  · rw [exec_claimRefresh, refreshExpiry_due ht ha, Config.refreshCounts, refreshed, reach_ps, if_pos hp,
      reach_settings]
  · rw [exec_claimRefresh, refreshExpiry_due ht ha, Config.refreshCounts, refreshed, reach_ps, if_neg hp, reach_bu,
      reach_se, if_pos hh]
  · rw [exec_claimRefresh, refreshExpiry_due ht ha, Config.refreshCounts, refreshed, reach_ps, if_neg hp, reach_bu,
      reach_se, if_neg hh]
  · rw [exec_claimRefresh, refreshExpiry_idle h]

end Sys2Proof.Machine
end

section
/-! SUPPORT. The release of a raise at its settle end, and the return from DOZE (R152, R153, R168 to R171). -/

namespace Sys2Proof.Machine

/-! ### SETTLE_END (R152, R153) -/

theorem exec_settleEnd : ∀ s, exec .settleEnd s = .next (settleExpiry s) := by
  intros
  rfl

theorem raisedNear_iff {p : Peer} {t : Nat} : raisedNear p t = true ↔
    ∃ x, p.raisedAt = some x ∧ t ≤ x + Config.settleCounts ∧ x ≤ t + Config.settleCounts := by
  unfold raisedNear
  cases p.raisedAt with
  | none => simp only [Bool.false_eq_true, reduceCtorEq, false_and, exists_false]
  | some x => simp only [decide_eq_true_iff, Option.some.injEq, exists_eq_left']

/-- Of the entries of the peer table those of higher-numbered stations that raised near `t` yield (R152). -/
theorem markYielding_entry (b : Budget) (own t : Nat) (i : Fin 15) :
    (b.markYielding own t).peers[i] = b.peers[i].map fun p =>
      if raisedNear p t ∧ own < i.val then { p with yielding := true } else p := by
  have entry : b.peer i = b.peers[i] := getAt_of_lt _ _ i.isLt
  simp [Budget.markYielding, entry]

theorem released_budgets (b : Budget) (c : Nat) (s : State) : Budgets (s.withBu b)
    (examineOver (handCaps (s.withBu { b with released := c, raise := none }))) :=
  Budgets.trans (t := s.withBu { b with released := c, raise := none }) rfl
    ((handCaps_budgets _).trans (examineOver_budgets _))

/-- Beside the yielding marks a release changes what a recomputation may (R152). -/
theorem releaseRaise_budgets (r : Raise) (t : Nat) (s : State) :
    Budgets (s.withBu (s.bu.markYielding s.lif.own t)) (releaseRaise r t s) := by
  unfold releaseRaise
  dsimp only
  generalize s.bu.markYielding s.lif.own t = b
  split
  · exact ((released_budgets b _ s).trans (announce_budgets _ _)).trans (recompute_budgets _)
  · exact (released_budgets b _ s).trans (recompute_budgets _)

theorem releaseRaise_dRes (r : Raise) (t : Nat) (s : State) : (releaseRaise r t s).rd.dRes = s.rd.dRes :=
  (congrArg (·.rd.dRes) (releaseRaise_budgets r t s)).trans rfl

/-- The release at count `n`: the claim released, the caps with OVER_ALLOWANCE, the lower actual claim and
then the decisions (R152, R154). -/
theorem releaseRaise_reach (r : Raise) (t n : Nat) (s : State) : releaseRaise r t (reach n s) =
    let peers := (s.bu.markYielding s.lif.own t).peers
    let left : Int := (s.bu.allowance : Int) - peerSum { s.bu with peers := peers }
    let c := max (leastClaim s.settings) (min (r.planned : Int) left).toNat
    let v := examineOver (handCaps { reach n s with bu := { s.bu with
      peers := peers, released := c, raise := none } })
    recompute (if c < r.planned then announce c v else v) := by
  rw [releaseRaise, reach_bu, reach_lif, reach_settings]
  rfl

section
variable {s : State}

theorem settleExpiry_open {r : Raise} {t : Nat} (hr : s.bu.raise = some r) (ht : r.settleStart = some t) :
    settleExpiry s =
      let w := releaseRaise r t (reach (t + Config.settleCounts) s)
      grant (if 0 < s.rd.dRes then report w else w) := by
  unfold settleExpiry
  rw [hr]
  dsimp only
  rw [ht]
  dsimp only
  rw [releaseRaise_dRes, reach_rd]

theorem settleExpiry_idle (h : ∀ r, s.bu.raise = some r → r.settleStart = none) : settleExpiry s = s := by
  unfold settleExpiry
  split
  · rfl
  · next r hr => simp only [h r hr]

end

/-- Settles O60: the marked table is the model's own, read entry by entry; the rest is the release. -/
theorem settleEndReleasesTheRaise : Obligations.SettleEndReleasesTheRaise := by
  intro s
  refine ⟨fun planned t hr => ?_, fun h => ?_⟩
  · intro u _
    have entry := markYielding_entry s.bu s.lif.own t
    refine ⟨(s.bu.markYielding s.lif.own t).peers, fun i => ⟨fun hp => ?_, fun p hp => ⟨fun above hn => ?_,
      fun h => ?_⟩⟩, ?_⟩
    · rw [entry, hp]
      rfl
    · rw [entry, hp, Option.map_some, if_pos ⟨raisedNear_iff.2 hn, above⟩]
    · rw [entry, hp, Option.map_some, if_neg]
      rintro ⟨hn, above⟩
      exact h.elim above.not_ge (· (raisedNear_iff.1 hn))
    · intro left c v w
      have released : releaseRaise { planned := planned, settleStart := some t } t u = w :=
        releaseRaise_reach _ _ _ _
      rw [exec_settleEnd, settleExpiry_open hr rfl, Config.settleCounts, released]
      dsimp only
      exact ⟨fun reserved => by rw [if_pos reserved], fun free => by rw [if_neg free.not_gt]⟩
  · rw [exec_settleEnd, settleExpiry_idle h]

/-! ### POWER_MODE (R168 to R171) -/

theorem exec_powerModeAwake : ∀ source target s,
    exec (.powerModeAwake source target) s = .next (handMode source target .awake s) := by
  intros
  rfl

theorem handMode_dropped {source target : Nat} {s : State}
    (h : ¬ (source = s.settings.powerStation ∧ (target = s.lif.own ∨ target = 15)) ∨
      ¬ (s.ps.state = .doze ∨ s.ps.state = .active)) (m : PowerMode) : handMode source target m s = s := by
  refine if_neg fun ⟨serving, mine⟩ => ?_
  exact h.elim (· mine) (· (s.serving_iff.1 serving).symm)

/-- A mode that would lead where the part stands changes nothing, kept or dropped (R169). -/
theorem handMode_unmoved {m : PowerMode} {s : State} (h : actMode m s = s) (source target : Nat) :
    handMode source target m s = s := by
  unfold handMode
  split
  · exact h
  · rfl

theorem actMode_doze_dozing {s : State} (h : s.ps.state = .doze) : actMode .doze s = s :=
  if_neg (by simp [h])

theorem actMode_awake_active {s : State} (h : s.ps.state = .active) : actMode .awake s = s :=
  if_neg (by simp [h])

/-- Settles O43: dropped modes by `handMode_dropped`, modes that lead nowhere by `handMode_unmoved`. -/
theorem powerModeIsKeptOrDropped : Obligations.PowerModeIsKeptOrDropped := by
  intro source target s mine dozing awake
  refine ⟨fun h => ?_, fun hd => ?_, fun ha => ?_, fun hm hd => ?_⟩
  · rw [exec_powerModeDoze, exec_powerModeAwake, exec_powerModeOffSoon, handMode_dropped h, handMode_dropped h,
      handMode_dropped h]
    exact ⟨rfl, rfl, rfl⟩
  · rw [exec_powerModeDoze, handMode_unmoved (actMode_doze_dozing hd)]
  · rw [exec_powerModeAwake, handMode_unmoved (actMode_awake_active ha)]
  · obtain ⟨rfl, ht⟩ := hm
    rw [exec_powerModeAwake, handMode_kept _ (.inr hd) ht, actMode, if_pos hd]
    rfl

end Sys2Proof.Machine
end
